-- ==== Sys2Proof/Word.lean ====
section
/-! DEFINITION. The byte, the names of the part's instances (ports, runs, units, slots, grades, notice kinds) and the fixed
tables indexed by them. -/

namespace Sys2Proof

/-- One byte of a station link (10.2). -/
abbrev Byte := BitVec 8

/-- The three station links (0.5). -/
inductive Port where
  | p1 | p2 | p3
deriving DecidableEq, Repr

/-- The four meter runs (0.5). -/
inductive Run where
  | r1 | r2 | r3 | r4
deriving DecidableEq, Repr

/-- The five claimable units: units 1 to 4 are the runs, unit 5 is the prover (0.5). -/
inductive UnitId where
  | run (r : Run)
  | prover
deriving DecidableEq, Repr

/-- The live quantities (4.1). -/
inductive Quantity where
  | temp | press | bsw
deriving DecidableEq, Repr

/-- The fourteen places of the Live Value Table: three quantities of each run, two of the prover (4.1). -/
inductive LivePoint where
  | run (r : Run) (q : Quantity)
  | proverTemp
  | proverPress
deriving DecidableEq, Repr

/-- A ring slot, slot 0 to slot 7 (6.1); addition is the ring order. -/
abbrev SlotId := Fin 8

/-- A grade record: grade 1 is index 0 and grade 8 is index 7 (R52). -/
abbrev GradeId := Fin 8

/-- The ten notice kinds of 10.4. -/
inductive NoticeKind where
  | claimGranted | claimLost | ticketReady | parcelStage | proveEnd
  | runFault | liveDisagree | reverseFlow | restarted | retentionLost
deriving DecidableEq, Repr

/-- The pulse channels of a run (chapter 1). -/
inductive Channel where
  | a | b
deriving DecidableEq, Repr

/-- The prover detectors (chapter 8). -/
inductive Detector where
  | d1 | d2
deriving DecidableEq, Repr

/-- What starts the part (R87). -/
inductive StartCause where
  | powerUp | resetInput
deriving DecidableEq, Repr

/-- The battery's level against the two levels of R86: `normal` at or above the level needed to hold the memory through a
loss of supply, `low` below it, `lapsed` below the level at which the memory holds its contents. -/
inductive BatteryLevel where
  | normal | low | lapsed
deriving DecidableEq, Repr

/-- One item for each port. -/
structure PerPort (α : Type) where
  p1 : α
  p2 : α
  p3 : α
deriving DecidableEq, Repr

/-- One item for each run. -/
structure PerRun (α : Type) where
  r1 : α
  r2 : α
  r3 : α
  r4 : α
deriving DecidableEq, Repr

/-- One item for each unit. -/
structure PerUnit (α : Type) where
  runs : PerRun α
  prover : α
deriving DecidableEq, Repr

/-- One item for each of eight slots or eight grades. -/
structure Eight (α : Type) where
  i0 : α
  i1 : α
  i2 : α
  i3 : α
  i4 : α
  i5 : α
  i6 : α
  i7 : α
deriving DecidableEq, Repr

def PerPort.all {α : Type} (x : α) : PerPort α := ⟨x, x, x⟩

def PerPort.get {α : Type} (v : PerPort α) : Port → α
  | .p1 => v.p1
  | .p2 => v.p2
  | .p3 => v.p3

def PerPort.set {α : Type} (v : PerPort α) (p : Port) (x : α) : PerPort α :=
  match p with
  | .p1 => { v with p1 := x }
  | .p2 => { v with p2 := x }
  | .p3 => { v with p3 := x }

def PerPort.map {α β : Type} (f : α → β) (v : PerPort α) : PerPort β := ⟨f v.p1, f v.p2, f v.p3⟩

def PerRun.all {α : Type} (x : α) : PerRun α := ⟨x, x, x, x⟩

def PerRun.get {α : Type} (v : PerRun α) : Run → α
  | .r1 => v.r1
  | .r2 => v.r2
  | .r3 => v.r3
  | .r4 => v.r4

def PerRun.set {α : Type} (v : PerRun α) (r : Run) (x : α) : PerRun α :=
  match r with
  | .r1 => { v with r1 := x }
  | .r2 => { v with r2 := x }
  | .r3 => { v with r3 := x }
  | .r4 => { v with r4 := x }

def PerRun.map {α β : Type} (f : α → β) (v : PerRun α) : PerRun β := ⟨f v.r1, f v.r2, f v.r3, f v.r4⟩

def PerUnit.all {α : Type} (x : α) : PerUnit α := ⟨.all x, x⟩

def PerUnit.get {α : Type} (v : PerUnit α) : UnitId → α
  | .run r => v.runs.get r
  | .prover => v.prover

def PerUnit.set {α : Type} (v : PerUnit α) (u : UnitId) (x : α) : PerUnit α :=
  match u with
  | .run r => { v with runs := v.runs.set r x }
  | .prover => { v with prover := x }

def PerUnit.map {α β : Type} (f : α → β) (v : PerUnit α) : PerUnit β := ⟨v.runs.map f, f v.prover⟩

def Eight.all {α : Type} (x : α) : Eight α := ⟨x, x, x, x, x, x, x, x⟩

def Eight.get {α : Type} (v : Eight α) : Fin 8 → α
  | 0 => v.i0
  | 1 => v.i1
  | 2 => v.i2
  | 3 => v.i3
  | 4 => v.i4
  | 5 => v.i5
  | 6 => v.i6
  | 7 => v.i7

def Eight.set {α : Type} (v : Eight α) (i : Fin 8) (x : α) : Eight α :=
  match i with
  | 0 => { v with i0 := x }
  | 1 => { v with i1 := x }
  | 2 => { v with i2 := x }
  | 3 => { v with i3 := x }
  | 4 => { v with i4 := x }
  | 5 => { v with i5 := x }
  | 6 => { v with i6 := x }
  | 7 => { v with i7 := x }

def Eight.map {α β : Type} (f : α → β) (v : Eight α) : Eight β :=
  ⟨f v.i0, f v.i1, f v.i2, f v.i3, f v.i4, f v.i5, f v.i6, f v.i7⟩

/-- A set of ports, as membership of each (10.2). -/
abbrev PortSet := PerPort Bool

/-- A set of runs, as membership of each (0.9). -/
abbrev RunSet := PerRun Bool

/-- The ports in their numbering. -/
def ports : List Port := [.p1, .p2, .p3]

/-- The runs in their numbering. -/
def runs : List Run := [.r1, .r2, .r3, .r4]

/-- The units in their numbering (R160). -/
def units : List UnitId := [.run .r1, .run .r2, .run .r3, .run .r4, .prover]

/-- The slots in ring order from slot 0 (6.1). -/
def slotIds : List SlotId := [0, 1, 2, 3, 4, 5, 6, 7]

/-- The notice kinds in the order of their codes (10.4). -/
def noticeKinds : List NoticeKind :=
  [.claimGranted, .claimLost, .ticketReady, .parcelStage, .proveEnd, .runFault, .liveDisagree, .reverseFlow, .restarted,
    .retentionLost]

end Sys2Proof
end

