-- ==== Sys2Proof/Config.lean ====
section
/-! DEFINITION. The fixed numbers of the manual that several rules share, and the free values: what the manual leaves open and
a run may meet. -/

namespace Sys2Proof

/-- Totals wrap modulo 10¹² (R75). -/
def Config.totalModulus : Nat := 1000000000000

/-- A total read in the NARROW width is given modulo 10⁸ (R81). -/
def Config.narrowModulus : Nat := 100000000

/-- One million: 1.000000 in parts per million (0.7). -/
def Config.ppm : Nat := 1000000

/-- The greatest flow rate (0.7, R25, R137). -/
def Config.maxFlow : Nat := 999999

/-- The greatest accepted forward count of a period (1.1). -/
def Config.maxAccepted : Nat := 80000

/-- The greatest reverse and missing counts of a period (1.1). -/
def Config.maxChannel : Nat := 40000

/-- The greatest offline pulse count (R11), and the greatest terminal time (R172). -/
def Config.max32 : Nat := 4294967295

/-- The greatest quiet count (R33). -/
def Config.maxQuiet : Nat := 65535

/-- A curve holds at most 8 points (R42). -/
def Config.curveSize : Nat := 8

/-- Ticks of the 10 MHz timebase in one second (R128). -/
def Config.ticksPerSecond : Nat := 10000000

/-- The greatest body of a frame in bytes (10.2). -/
def Config.maxBody : Nat := 512

/-- A timer of `s` seconds, in ticks of the timebase. -/
def Config.seconds (s : Nat) : Nat := s * Config.ticksPerSecond

/-- FREE VALUE. The MF answered for a flow when the curve has no enabled point: R43 says that such a curve is never asked. It
can only be met in states that no run reaches. -/
opaque Config.mfOfEmptyCurve : Nat → Nat

/-- FREE VALUE. The CTL answered for a temperature when the table has no point: R52 says that a table always has one. It can
only be met in states that no run reaches. -/
opaque Config.ctlOfEmptyTable : Int → Nat

/-- FREE VALUE. Whether the check word matches after the memory was left below its holding level: 5.8, start C, 'matches or
not'. The lapse latch decides such a start in either case (R87). -/
opaque Config.decayedMatch : Nat → Bool

end Sys2Proof
end

