-- ==== Sys2Proof/Machine/Arith.lean ====
section
/-! DEFINITION. The rounding methods of 0.8, the interpolation of R43 and R44, and the pressure correction of R45. -/

namespace Sys2Proof.Machine

/-- Half-up: the nearest integer to `n / d`, a half going up (0.8). -/
def halfUp (n d : Nat) : Nat := (2 * n + d) / (2 * d)

/-- Half-away: the nearest integer to `n / d` by magnitude, a half going away from zero (0.8). -/
def halfAway (n : Int) (d : Nat) : Int :=
  if n < 0 then -(halfUp n.natAbs d : Int) else (halfUp n.natAbs d : Int)

/-- A factor of `f` ppm applied to `x`, rounded half-up (R28, R138). -/
def byFactor (x f : Nat) : Nat := halfUp (x * f) Config.ppm

/-- The value at `x` of the straight segments through points in ascending order, with whether the answer is clamped (R43,
R44); none for no points. -/
def interpolate : List (Int × Int) → Int → Option (Int × Bool)
  | [], _ => none
  | [(a, v)], x => some (v, decide (x ≠ a))
  | (a, v) :: (b, w) :: rest, x =>
    if x < a then some (v, true)
    else if x = a then some (v, false)
    else if x < b then some (v + halfAway ((w - v) * (x - a)) (b - a).toNat, false)
    else interpolate ((b, w) :: rest) x

/-- The pressure used: the asked pressure limited to 0 to 15,000 (R27, R45). -/
def limitPressure (p : Int) : Nat := (min (max p 0) 15000).toNat

/-- CPL at a limited pressure (R45). -/
def cplAt (f p : Nat) : Nat := halfUp 1000000000000000 (1000000000 - f * p)

/-- A total with an addend, modulo 10¹² (R75). -/
def addTotal (t x : Nat) : Nat := (t + x) % Config.totalModulus

/-- A count that holds at its greatest value (R5, R11, R33). -/
def countUp (n greatest : Nat) : Nat := if n < greatest then n + 1 else n

end Sys2Proof.Machine
end

