-- ==== Sys2Proof/Syntax.lean ====
section
/-! DEFINITION. The commands: one constructor for each row of spec/opcode_table.json. The request rows (kinds 1 to 38 of 10.3)
carry the port whose link took the frame, the unit field and the body's fields as the frame gives them, in the order of the
owning rule; no range is imposed here, since the owning rules answer an out-of-range field themselves. -/

namespace Sys2Proof

/-- The control form of a WRITE SLOT as the frame carries it: a value for every field of the table of 6.1 (R92). -/
structure RawForm where
  kind : Nat
  parcel : Nat
  grade : Nat
  target : Nat
  trim : Nat
  stop : Nat
  quiet : Nat
  witness : Nat
  resume : Nat
deriving DecidableEq, Repr

/-- One CTL point of a LOAD GRADE as the frame carries it (R53). -/
structure RawPoint where
  temp : Int
  ctl : Nat
deriving DecidableEq, Repr

/-- The commands of the part. -/
inductive Instr where
  /-- SET SERVICE (R18): `service` is 0 for OFFLINE and 1 for ONLINE. -/
  | setService (p : Port) (unit : Nat) (service : Nat)
  /-- SET PERIOD (R23). -/
  | setPeriod (p : Port) (unit : Nat) (length : Nat)
  /-- SET K-FACTOR (R37). -/
  | setKFactor (p : Port) (unit : Nat) (k : Nat)
  /-- SET SECURITY (R13). -/
  | setSecurity (p : Port) (unit : Nat) (window limit : Nat)
  /-- CLEAR RUN FAULT (R14). -/
  | clearRunFault (p : Port) (unit : Nat)
  /-- READ RUN (R173). -/
  | readRun (p : Port) (unit : Nat)
  /-- ADD POINT (R47): `enabled` is 0 for no and 1 for yes. -/
  | addPoint (p : Port) (unit : Nat) (flow mf enabled : Nat)
  /-- CHANGE POINT (R48). -/
  | changePoint (p : Port) (unit : Nat) (flow mf enabled : Nat)
  /-- REMOVE POINT (R49). -/
  | removePoint (p : Port) (unit : Nat) (flow : Nat)
  /-- READ CURVE (R51). -/
  | readCurve (p : Port) (unit : Nat)
  /-- LOAD GRADE (R53): the point count is the list's length. -/
  | loadGrade (p : Port) (unit : Nat) (grade f bsw : Nat) (points : List RawPoint)
  /-- READ GRADE (R55). -/
  | readGrade (p : Port) (unit : Nat) (grade : Nat)
  /-- REPORT LIVE (R62): `quantity` is 0 T, 1 P, 2 BSW; `health` is 0 GOOD, 1 SUSPECT. -/
  | reportLive (p : Port) (unit : Nat) (quantity : Nat) (value : Int) (health : Nat)
  /-- SET LIVE LIMITS (R61): `tolBsw` is not carried by a request naming unit 5 and is not read there. -/
  | setLiveLimits (p : Port) (unit : Nat) (staleness hold tolT tolP tolBsw preferred : Nat)
  /-- READ LIVE (R70). -/
  | readLive (p : Port) (unit : Nat)
  /-- READ TOTALS (R79) with the width override flag. -/
  | readTotals (p : Port) (unit : Nat) (override : Bool) (group : Nat)
  /-- RESERVE SLOT (R91). -/
  | reserveSlot (p : Port) (unit : Nat)
  /-- WRITE SLOT (R92). -/
  | writeSlot (p : Port) (unit : Nat) (slot : Nat) (form : RawForm)
  /-- ARM SLOT (R93). -/
  | armSlot (p : Port) (unit : Nat) (slot : Nat)
  /-- CANCEL SLOT (R94). -/
  | cancelSlot (p : Port) (unit : Nat) (slot : Nat)
  /-- READ SLOT (R95). -/
  | readSlot (p : Port) (unit : Nat) (slot : Nat)
  /-- RELEASE HOLD (R106). -/
  | releaseHold (p : Port) (unit : Nat)
  /-- RESUME LOADING (R109). -/
  | resumeLoading (p : Port) (unit : Nat)
  /-- CUT PARCEL (R113). -/
  | cutParcel (p : Port) (unit : Nat) (slot : Nat)
  /-- READ TICKET (R122). -/
  | readTicket (p : Port) (unit : Nat) (slot : Nat)
  /-- SET PROVER (R127). -/
  | setProver (p : Port) (unit : Nat) (bpv timeout detectorLimit acceptLimit band : Nat)
  /-- START PROVE (R129). -/
  | startProve (p : Port) (unit : Nat) (n maxAttempts tolerance csp : Nat)
  /-- ABORT PROVE (R144). -/
  | abortProve (p : Port) (unit : Nat)
  /-- READ PROVE (R148). -/
  | readProve (p : Port) (unit : Nat) (first : Nat)
  /-- ACCEPT PROVE (R149) with the force flag. -/
  | acceptProve (p : Port) (unit : Nat) (force : Bool)
  /-- DISCARD PROVE (R151). -/
  | discardProve (p : Port) (unit : Nat)
  /-- CLAIM (R153): `hold` is 0 to keep the hold time. -/
  | claim (p : Port) (unit : Nat) (hold : Nat)
  /-- RELEASE (R156). -/
  | release (p : Port) (unit : Nat)
  /-- SET PORT MODE (R170): `width` is 0 NARROW, 1 WIDE; `mask` is the 16-bit set of kinds. -/
  | setPortMode (p : Port) (unit : Nat) (width mask : Nat)
  /-- READ NOTICES (R167). -/
  | readNotices (p : Port) (unit : Nat)
  /-- ACK NOTICES (R167). -/
  | ackNotices (p : Port) (unit : Nat) (mask : Nat)
  /-- STATION CLEAR (R171). -/
  | stationClear (p : Port) (unit : Nat)
  /-- SET TIME (R172). -/
  | setTime (p : Port) (unit : Nat) (time : Nat)
  /-- The station clocks the response out (R163). -/
  | responseReadout (p : Port)
  /-- A rising edge (R1, R2): the level of the other channel as sampled, and the timebase reading at the edge (R10). -/
  | risingEdge (r : Run) (c : Channel) (otherHigh : Bool) (stamp : Nat)
  /-- A detector actuation (R131) with the timebase reading at that moment (R128). -/
  | detectorActuation (d : Detector) (stamp : Nat)
  /-- The pass timer expires (R134). -/
  | passTimerExpiry
  /-- The period timer of a run reaches the open period length (R21). -/
  | periodExpiry (r : Run)
  /-- The bank takes the oldest arrival of a run (R76). -/
  | incrementArrivalAtBank (r : Run)
  /-- The Parcel Engine takes the arrival of a run (R100). -/
  | incrementArrivalAtEngine (r : Run)
  /-- The freshness timer of a report slot expires (R63). -/
  | freshnessTimerExpiry (l : LivePoint) (p : Port)
  /-- The live hold timer of a selection record expires (R65). -/
  | liveHoldTimerExpiry (l : LivePoint)
  /-- The hold timer of a claim expires (R158). -/
  | holdTimerExpiry (u : UnitId)
  /-- A whole second of terminal time (R172). -/
  | terminalTimeAdvance
  /-- A start of the part (R87); `memoryIntact` is no when the retained contents were changed by a fault of the memory. -/
  | partStart (cause : StartCause) (memoryIntact : Bool)
  /-- Supply is lost (R84). -/
  | lossOfSupply
  /-- The retention supply comes to a level (R86). -/
  | retentionSupplyChange (level : BatteryLevel)
  /-- A whole millisecond of a run's period timer that does not end the period (R21). -/
  | periodTimerAdvance (r : Run)
  /-- A request frame as its bytes came over a port's link (R164). -/
  | refusedRequestFrame (p : Port) (frame : List Byte)
deriving DecidableEq, Repr

end Sys2Proof
end

