-- ==== Sys2Proof/Machine/State.lean ====
section
/-! DEFINITION. The state of the part: every item the ten chapters give its blocks, the queue of waiting commands and the
model's own fields; the state after reset; the reasons a step can stop. Plain data throughout. -/

namespace Sys2Proof.Machine

/-! ## Names of values -/

/-- The rising edge a checker expects next (1.1). -/
inductive Expectation where
  | aNext | bNext | either
deriving DecidableEq, Repr

/-- Whether a run is in service (2.1). -/
inductive RunState where
  | offline | online
deriving DecidableEq, Repr

/-- The status of a selection (4.1). -/
inductive SelStatus where
  | dflt | held | failed | single | agreed | disagree
deriving DecidableEq, Repr

/-- The health carried by a report (R59). -/
inductive Health where
  | good | suspect
deriving DecidableEq, Repr

/-- The supply state of a selection record (R60). -/
inductive SupplyState where
  | supplied | holding | lapsed
deriving DecidableEq, Repr

/-- The states of a ring slot (R90); the port of RESERVED is the slot's reserver. -/
inductive SlotState where
  | free | reserved | armed | current | closing | complete | void
deriving DecidableEq, Repr

/-- The resume mode of a control form (6.1). -/
inductive ResumeMode where
  | auto | manual
deriving DecidableEq, Repr

/-- The current state of the Parcel Engine (R96). -/
inductive CurrentState where
  | idle | opened | topped | held
deriving DecidableEq, Repr

/-- The permissive levels (R103). -/
inductive Permissive where
  | full | trim | stop
deriving DecidableEq, Repr

/-- How a closing began (chapter 7). -/
inductive CloseReason where
  | cut | cutTopped | quiet
deriving DecidableEq, Repr

/-- The states of the Prove Engine (8.3). -/
inductive EngineState where
  | idle | awaitD1 | inPass | awaitEnd
deriving DecidableEq, Repr

/-- The states of the prove result record (R147). -/
inductive ProveState where
  | none | running | complete | failed | aborted | accepted | discarded
deriving DecidableEq, Repr

/-- The reasons of a FAILED or ABORTED prove (R147). -/
inductive ProveReason where
  | detector | pulse | repeatability | request | claim | offline | restart
deriving DecidableEq, Repr

/-- The reasons of an ABANDONED pass (R140). -/
inductive AbandonReason where
  | detector | noPulses | timeout | pulse | reverse | range | ended
deriving DecidableEq, Repr

/-- How an accepted result was written into the curve (R147). -/
inductive InstallKind where
  | replaced | enabled | inserted
deriving DecidableEq, Repr

/-- The reading widths (R81). -/
inductive Width where
  | narrow | wide
deriving DecidableEq, Repr

/-- The security state of a run (R9); it is derived, never stored. -/
inductive Security where
  | failed | alert | secure
deriving DecidableEq, Repr

/-- The groups of READ TOTALS (R79). -/
inductive TotalsGroup where
  | runTotals | stationTotals | lastPeriod | parcelProgress
deriving DecidableEq, Repr

/-- The kinds of a control form (6.1). -/
inductive FormKind where
  | normal | standing | hold
deriving DecidableEq, Repr

/-- The statuses of a response (10.2), in the order of their codes. -/
inductive Status where
  | ok | okPending | okClamped | waiting | notHolder | busy | state | range | order | duplicate | notFound | curveFull
  | noCurve | inUse | proving | pulseFailed | offline | resultPending | deviation | ringFull | notOwner | frameError | unknown
deriving DecidableEq, Repr

/-! ## Chapter 1: Pulse Checker -/

/-- The state of one Pulse Checker (1.1). -/
structure Checker where
  expectation : Expectation
  accepted : Nat
  reverse : Nat
  missingA : Nat
  missingB : Nat
  failureMark : Bool
  windowPulses : Nat
  windowErrors : Nat
  windowLength : Nat
  errorLimit : Nat
  failed : Bool
  offlinePulses : Nat
deriving DecidableEq, Repr

/-! ## Flags of periods, portions and tickets (R32, 10.8) -/

/-- The four flags of one live quantity (R32). -/
structure LiveFlags where
  held : Bool := false
  failed : Bool := false
  disagree : Bool := false
  dflt : Bool := false
deriving DecidableEq, Repr

/-- The flag set of a period, a portion or a ticket (R32, R112, R120). -/
structure Flags where
  pulseFailed : Bool := false
  curveClamp : Bool := false
  tableClamp : Bool := false
  restartPeriod : Bool := false
  kChanged : Bool := false
  toppedReached : Bool := false
  temp : LiveFlags := {}
  press : LiveFlags := {}
  bsw : LiveFlags := {}
deriving DecidableEq, Repr

/-! ## Chapter 2: Run Calculator -/

/-- The last-period record (R32). -/
structure PeriodRecord where
  endTime : Nat
  isPartial : Bool
  pulses : Nat
  reversePulses : Nat
  missingA : Nat
  missingB : Nat
  tMs : Nat
  kmilli : Nat
  q : Nat
  mf : Nat
  ctl : Nat
  cpl : Nat
  ccf : Nat
  csw : Nat
  ivInc : Nat
  gsvInc : Nat
  nsvInc : Nat
  revInc : Nat
  temp : Int
  p : Nat
  bsw : Nat
  tempStatus : SelStatus
  pressStatus : SelStatus
  bswStatus : SelStatus
  flags : Flags
  destination : Option SlotId
  grade : GradeId
deriving DecidableEq, Repr

/-- The state of one Run Calculator (2.1). -/
structure Calculator where
  runState : RunState
  kmilli : Nat
  pendingK : Option Nat
  periodLength : Nat
  openLength : Nat
  elapsed : Nat
  rI : Nat
  rR : Nat
  rG : Nat
  rN : Nat
  target : Option SlotId
  lastPeriod : Option PeriodRecord
  quiet : Nat
deriving DecidableEq, Repr

/-- An increment arrival (R34): the same content goes to the Totalizer Bank and to the Parcel Engine. -/
structure Arrival where
  run : Run
  destination : Option SlotId
  ivInc : Nat
  gsvInc : Nat
  nsvInc : Nat
  revInc : Nat
  pulses : Nat
  reversePulses : Nat
  endTime : Nat
  tMs : Nat
  q : Nat
  kmilli : Nat
  temp : Int
  p : Nat
  bsw : Nat
  mf : Nat
  ccf : Nat
  tempWeighted : Int
  pWeighted : Nat
  bswWeighted : Nat
  mfWeighted : Nat
  ccfWeighted : Nat
  flags : Flags
deriving DecidableEq, Repr

/-! ## Chapter 3: Table Store -/

/-- A point of a meter-factor curve (R42). -/
structure CurvePoint where
  flow : Nat
  mf : Nat
  enabled : Bool
deriving DecidableEq, Repr

/-- A point of a CTL table (R52). -/
structure CtlPoint where
  temp : Int
  ctl : Nat
deriving DecidableEq, Repr

/-- A grade record (R52). -/
structure Grade where
  f : Nat
  bsw : Nat
  table : List CtlPoint
deriving DecidableEq, Repr

/-! ## Chapter 4: Live Value Table -/

/-- What a report slot that is not EMPTY holds (R59): it is FRESH while its freshness timer runs and STALE otherwise. Timers
are kept in ticks of the timebase. -/
structure Report where
  value : Int
  health : Health
  clamped : Bool
  reportTime : Nat
  timer : Option Nat
deriving DecidableEq, Repr

/-- A selection record (R60). -/
structure SelRecord where
  lastValue : Option Int
  lastStatus : Option SelStatus
  supply : SupplyState
  holdTimer : Option Nat
  liveFailed : Bool
deriving DecidableEq, Repr

/-- The selection record and the three report slots of one unit and quantity (4.1); `none` is an EMPTY slot. -/
structure LiveItem where
  record : SelRecord
  slots : PerPort (Option Report)
deriving DecidableEq, Repr

/-- The live limits of a unit (4.2), less the BSW tolerance that only runs have. -/
structure LiveLimits where
  staleness : Nat
  hold : Nat
  tolT : Nat
  tolP : Nat
  preferred : Port
deriving DecidableEq, Repr

/-- A run's part of the Live Value Table. -/
structure RunLive where
  temp : LiveItem
  press : LiveItem
  bsw : LiveItem
  limits : LiveLimits
  tolBsw : Nat
deriving DecidableEq, Repr

/-- The prover's part of the Live Value Table. -/
structure ProverLive where
  temp : LiveItem
  press : LiveItem
  limits : LiveLimits
deriving DecidableEq, Repr

/-- The Live Value Table. -/
structure Live where
  runs : PerRun RunLive
  prover : ProverLive
deriving DecidableEq, Repr

/-! ## Chapter 5: Totalizer Bank and retention -/

/-- The nine totals of a run (5.1). -/
structure RunTotals where
  iv : Nat
  gsv : Nat
  nsv : Nat
  rev : Nat
  unIv : Nat
  unGsv : Nat
  unNsv : Nat
  periods : Nat
  offline : Nat
deriving DecidableEq, Repr

/-- The forty totals (5.1). -/
structure Bank where
  runs : PerRun RunTotals
  iv : Nat
  gsv : Nat
  nsv : Nat
  rev : Nat
deriving DecidableEq, Repr

/-- The retained domain's guard (R85, R86): whether the check word matches the retained contents, the lapse latch, the
battery's level and whether the part has supply. The monitor's supply state is read from the battery's level. -/
structure Retention where
  supplied : Bool
  battery : BatteryLevel
  lapse : Bool
  checkMatches : Bool
deriving DecidableEq, Repr

/-! ## Chapters 6 and 7: Parcel Engine -/

/-- The control form of a slot (6.1): each kind carries its own fields. -/
inductive ControlForm where
  | normal (parcel : Nat) (grade : GradeId) (target trim stop quiet : Nat) (witness : PortSet) (resume : ResumeMode)
  | standing (parcel : Nat) (grade : GradeId) (witness : PortSet) (resume : ResumeMode)
  | hold (parcel : Nat)
deriving DecidableEq, Repr

/-- A portion record (R112). -/
structure Portion where
  run : Run
  periods : Nat
  pulses : Nat
  iv : Nat
  gsv : Nat
  nsv : Nat
  kUsed : Nat
  tempSum : Int
  pSum : Nat
  bswSum : Nat
  mfSum : Nat
  ccfSum : Nat
  lastTemp : Int
  lastP : Nat
  lastBsw : Nat
  lastMf : Nat
  lastCcf : Nat
  flags : Flags
  firstTime : Nat
  lastTime : Nat
deriving DecidableEq, Repr

/-- An entry of a ticket's portion list (R121). -/
structure TicketEntry where
  run : Run
  periods : Nat
  pulses : Nat
  iv : Nat
  gsv : Nat
  nsv : Nat
  kUsed : Nat
  meanTemp : Int
  meanP : Nat
  meanBsw : Nat
  meanMf : Nat
  meanCcf : Nat
  flags : Flags
  firstTime : Nat
  lastTime : Nat
deriving DecidableEq, Repr

/-- A ticket (R120). -/
structure Ticket where
  reason : CloseReason
  openTime : Nat
  closeTime : Nat
  flags : Flags
  overrun : Nat
  iv : Nat
  gsv : Nat
  nsv : Nat
  portions : List TicketEntry
deriving DecidableEq, Repr

/-- A ring slot (R90): the completion form is the open time, the portions and the ticket. -/
structure RingSlot where
  state : SlotState
  reserver : Option Port
  form : Option ControlForm
  openTime : Option Nat
  portions : PerRun (Option Portion)
  ticket : Option Ticket
  collected : PortSet
deriving DecidableEq, Repr

/-- The closing record (chapter 7). -/
structure Closing where
  slot : SlotId
  reason : CloseReason
  closeTime : Nat
  owing : RunSet
deriving DecidableEq, Repr

/-- The Parcel Engine with the loading ring (chapter 6). -/
structure Ring where
  slots : Eight RingSlot
  head : SlotId
  tail : SlotId
  current : CurrentState
  level : Permissive
  resumePending : Bool
  standingGrade : GradeId
  closing : Option Closing
  watch : Bool
deriving DecidableEq, Repr

/-! ## Chapter 8: Prove Engine -/

/-- The prover configuration (R127). -/
structure ProverConfig where
  bpv : Nat
  timeout : Nat
  detectorLimit : Nat
  acceptLimit : Nat
  band : Nat
deriving DecidableEq, Repr

/-- The working pass (8.1). -/
structure WorkingPass where
  d1 : Nat
  first : Option Nat
  d2 : Option Nat
  n : Nat
deriving DecidableEq, Repr

/-- A selected value with its status (R136). -/
structure Selected where
  value : Int
  status : SelStatus
deriving DecidableEq, Repr

/-- What a pass record holds once the pass has come to its end (R140, 'at a pass end'). -/
structure PassInputs where
  n : Nat
  tP : Nat
  runTemp : Selected
  runPress : Selected
  proverTemp : Selected
  proverPress : Selected
  grade : GradeId
  kmilli : Nat
deriving DecidableEq, Repr

/-- The figures of the pass arithmetic (R137 to R139); MF_pass is absent where CMV is 0. -/
structure PassFigures where
  ns : Nat
  ivm : Nat
  q : Nat
  ctlM : Nat
  cplM : Nat
  ccfM : Nat
  ctlP : Nat
  cplP : Nat
  ccfP : Nat
  cpv : Nat
  cmv : Nat
  mfPass : Option Nat
deriving DecidableEq, Repr

/-- A pass record (R140); no abandon reason is the outcome VALID. -/
structure PassRecord where
  number : Nat
  abandoned : Option AbandonReason
  endTime : Nat
  tD : Option Nat
  inputs : Option PassInputs
  figures : Option PassFigures
deriving DecidableEq, Repr

/-- What START PROVE writes into the result record (R130). -/
structure ProveSetup where
  run : Run
  port : Port
  n : Nat
  maxAttempts : Nat
  tolerance : Nat
  csp : Nat
  startTime : Nat
deriving DecidableEq, Repr

/-- What ACCEPT PROVE writes into the result record (R149): the reference MF and the deviation are absent where the curve
gives no reference. -/
structure Acceptance where
  refMf : Option Nat
  deviation : Option Nat
  forced : Bool
  flow : Nat
  how : InstallKind
deriving DecidableEq, Repr

/-- The prove result record (R147). -/
structure ProveResult where
  state : ProveState
  reason : Option ProveReason
  setup : Option ProveSetup
  endTime : Option Nat
  attempts : Nat
  consecutive : Nat
  detectorErrors : Nat
  mf : Option Nat
  q : Option Nat
  acceptance : Option Acceptance
  passes : List PassRecord
deriving DecidableEq, Repr

/-- The Prove Engine (8.1). -/
structure Prove where
  config : ProverConfig
  engine : EngineState
  timebase : Nat
  passTimer : Option Nat
  working : Option WorkingPass
  result : ProveResult
deriving DecidableEq, Repr

/-! ## Chapter 9: Claim Arbiter -/

/-- A claim record (9.1). -/
structure Claim where
  holder : Option Port
  waiting : List Port
  holdTime : Nat
  timer : Option Nat
deriving DecidableEq, Repr

/-! ## Chapter 10: station links -/

/-- One notice kind of a notice set (R166): a qualifier set is its byte of R165. -/
structure Notice where
  pending : Bool := false
  quals : BitVec 8 := 0
deriving DecidableEq, Repr

/-- A notice set (R166). -/
structure NoticeSet where
  claimGranted : Notice := {}
  claimLost : Notice := {}
  ticketReady : Notice := {}
  parcelStage : Notice := {}
  proveEnd : Notice := {}
  runFault : Notice := {}
  liveDisagree : Notice := {}
  reverseFlow : Notice := {}
  restarted : Notice := {}
  retentionLost : Notice := {}
deriving DecidableEq, Repr

/-- A claim record as the stations see it (R161). -/
structure ClaimView where
  holder : Option Port
  waiting : List Port
  holdTime : Nat
  timer : Option Nat
  inProve : Bool
deriving DecidableEq, Repr

/-- PARCEL PROGRESS (R83). -/
structure ProgressView where
  slot : Option SlotId
  current : CurrentState
  kind : Option FormKind
  parcelNsv : Option Nat
  target : Option Nat
  remaining : Option Int
  driven : Permissive
  resumePending : Bool
  closing : Option (SlotId × RunSet)
deriving DecidableEq, Repr

/-- What READ PROVE returns (R148). -/
structure ProveView where
  config : ProverConfig
  engine : EngineState
  passTimer : Option Nat
  working : Option WorkingPass
  result : ProveResult
  page : List PassRecord
deriving DecidableEq, Repr

/-- The results a response carries, by the rule that names them; `empty` is no body (R163). -/
inductive Body where
  | empty
  | claims (views : List ClaimView)
  | waiting (position : Nat) (view : ClaimView)
  | run (checker : Checker) (calculator : Calculator) (temp press bsw : SelRecord) (claim : ClaimView) (proving : Bool)
  | curve (points : List CurvePoint)
  | grade (record : Grade) (inUse : Bool)
  | runLive (live : RunLive)
  | proverLive (live : ProverLive)
  | runTotals (run : Run) (state : RunState) (width : Width) (totals : RunTotals)
  | stationTotals (iv gsv nsv rev time : Nat) (low : Bool) (width : Width)
  | lastPeriod (record : Option PeriodRecord)
  | progress (view : ProgressView)
  | slotNumber (slot : SlotId)
  | slot (slot : RingSlot)
  | ticket (slot : SlotId) (form : ControlForm) (ticket : Ticket) (collected : PortSet)
  | prove (view : ProveView)
  | notices (set : NoticeSet) (mask : BitVec 10) (width : Width)
  | noticesLeft (set : NoticeSet)
deriving DecidableEq, Repr

/-- A formed response (10.2). -/
structure Response where
  status : Status
  kind : Nat
  body : Body
deriving DecidableEq, Repr

/-- A Station Link Interface (chapter 10). `readout` is the model's own: the bytes of the response frame that the station
clocked out last, which is the link's output. -/
structure Link where
  response : Option Response
  width : Width
  mask : BitVec 10
  notices : NoticeSet
  readout : List Byte
deriving DecidableEq, Repr

/-! ## The machine -/

/-- The state of the part. `toBank` and `toEngine` are the arrivals delivered and not yet taken (R34, R36); `pending` is the
queue of commands that wait; `freeCount` is the model's own and only names the next free value. `clockWait` is the Terminal Clock's:
the ticks left of the whole second that the last SET TIME began, or none once it has passed (R172, log entry 30). -/
structure State where
  checkers : PerRun Checker
  calcs : PerRun Calculator
  curves : PerRun (List CurvePoint)
  grades : Eight Grade
  live : Live
  bank : Bank
  retention : Retention
  ring : Ring
  prove : Prove
  claims : PerUnit Claim
  links : PerPort Link
  terminalTime : Nat
  clockWait : Option Nat
  toBank : PerRun (List Arrival)
  toEngine : PerRun (Option Arrival)
  pending : List Instr
  freeCount : Nat
deriving DecidableEq, Repr

/-- Faults: none. No command of this part stops it; every error the manual names is a status, a flag, a latch or a notice. -/
inductive Fault where
deriving DecidableEq, Repr

/-- Refusals. -/
inductive Refusal where
  /-- Raised by exec's arm of a command that has no meaning yet (safe: no next state). -/
  | notModelled (mnemonic : String)
deriving DecidableEq, Repr

/-! ## Values after cold initialization -/

/-- R16. -/
def Checker.cold : Checker where
  expectation := .either
  accepted := 0
  reverse := 0
  missingA := 0
  missingB := 0
  failureMark := false
  windowPulses := 0
  windowErrors := 0
  windowLength := 10000
  errorLimit := 5
  failed := false
  offlinePulses := 0

/-- R39. -/
def Calculator.cold : Calculator where
  runState := .offline
  kmilli := 100000
  pendingK := none
  periodLength := 500
  openLength := 500
  elapsed := 0
  rI := 0
  rR := 0
  rG := 0
  rN := 0
  target := none
  lastPeriod := none
  quiet := 0

/-- R57. -/
def Grade.cold : Grade where
  f := 0
  bsw := 0
  table := [⟨1500, 1000000⟩]

/-- R71. -/
def LiveItem.cold : LiveItem where
  record := { lastValue := none, lastStatus := none, supply := .lapsed, holdTimer := none, liveFailed := false }
  slots := .all none

/-- The cold values of 4.2. -/
def LiveLimits.cold : LiveLimits where
  staleness := 5
  hold := 120
  tolT := 50
  tolP := 50
  preferred := .p1

/-- R71 and 4.2. -/
def Live.cold : Live where
  runs := .all { temp := .cold, press := .cold, bsw := .cold, limits := .cold, tolBsw := 1000 }
  prover := { temp := .cold, press := .cold, limits := .cold }

/-- R88: every total is 0. -/
def Bank.cold : Bank where
  runs := .all { iv := 0, gsv := 0, nsv := 0, rev := 0, unIv := 0, unGsv := 0, unNsv := 0, periods := 0, offline := 0 }
  iv := 0
  gsv := 0
  nsv := 0
  rev := 0

/-- A FREE slot (R90, R110). -/
def RingSlot.empty : RingSlot where
  state := .free
  reserver := none
  form := none
  openTime := none
  portions := .all none
  ticket := none
  collected := .all false

/-- R110. -/
def Ring.cold : Ring where
  slots := .all .empty
  head := 0
  tail := 0
  current := .idle
  level := .stop
  resumePending := false
  standingGrade := 0
  closing := none
  watch := false

/-- The result record after cold initialization (R146): NONE with every other field absent. -/
def ProveResult.cold : ProveResult where
  state := .none
  reason := none
  setup := none
  endTime := none
  attempts := 0
  consecutive := 0
  detectorErrors := 0
  mf := none
  q := none
  acceptance := none
  passes := []

/-- R127, R146. -/
def Prove.cold : Prove where
  config := { bpv := 10000000, timeout := 60, detectorLimit := 3, acceptLimit := 2500, band := 50000 }
  engine := .idle
  timebase := 0
  passTimer := none
  working := none
  result := .cold

/-- R162. -/
def Claim.cold : Claim where
  holder := none
  waiting := []
  holdTime := 10
  timer := none

/-- The state of a link after a start of the part (chapter 10, R170), with the one notice that the start posts. -/
def Link.started (notices : NoticeSet) : Link where
  response := none
  width := .wide
  mask := 0x3FF
  notices := notices
  readout := []

/-- The machine right after reset: the first start of the part finds no valid retained domain and makes a cold initialization
(R87, R88), so every item has its cold value and RETENTION_LOST stands alone at every port. -/
def State.reset : State where
  checkers := .all .cold
  calcs := .all .cold
  curves := .all []
  grades := .all .cold
  live := .cold
  bank := .cold
  retention := { supplied := true, battery := .normal, lapse := false, checkMatches := true }
  ring := .cold
  prove := .cold
  claims := .all .cold
  links := .all (.started { retentionLost := { pending := true } })
  terminalTime := 0
  clockWait := none
  toBank := .all []
  toEngine := .all none
  pending := []
  freeCount := 0

end Sys2Proof.Machine
end

