-- ==== Sys2Proof/Machine/Flags.lean ====
section
/-! DEFINITION. The flag sets of periods, portions and tickets, and what is derived from flags: the flag word of 10.8, the
security state of R9, a notice kind's bits. -/

namespace Sys2Proof.Machine

/-- The union of two live flag sets. -/
def LiveFlags.union (a b : LiveFlags) : LiveFlags where
  held := a.held || b.held
  failed := a.failed || b.failed
  disagree := a.disagree || b.disagree
  dflt := a.dflt || b.dflt

/-- The union of two flag sets (R112, R120). -/
def Flags.union (a b : Flags) : Flags where
  pulseFailed := a.pulseFailed || b.pulseFailed
  curveClamp := a.curveClamp || b.curveClamp
  tableClamp := a.tableClamp || b.tableClamp
  restartPeriod := a.restartPeriod || b.restartPeriod
  kChanged := a.kChanged || b.kChanged
  toppedReached := a.toppedReached || b.toppedReached
  temp := a.temp.union b.temp
  press := a.press.union b.press
  bsw := a.bsw.union b.bsw

/-- The flags a selection status sets for its quantity: SINGLE and AGREED set none (R32). -/
def SelStatus.flags : SelStatus → LiveFlags
  | .held => { held := true }
  | .failed => { failed := true }
  | .disagree => { disagree := true }
  | .dflt => { dflt := true }
  | .single => {}
  | .agreed => {}

/-- The bit of a flag that is set, of value `v`. -/
def flagBit (b : Bool) (v : Nat) : Nat := if b then v else 0

/-- HELD, FAILED, DISAGREE and DEFAULT as four bits from 1 (10.8). -/
def LiveFlags.word (f : LiveFlags) : Nat :=
  flagBit f.held 1 + flagBit f.failed 2 + flagBit f.disagree 4 + flagBit f.dflt 8

/-- The flag word of 10.8. -/
def Flags.word (f : Flags) : Nat :=
  flagBit f.pulseFailed 1 + flagBit f.curveClamp 2 + flagBit f.tableClamp 4 + flagBit f.restartPeriod 8
    + flagBit f.kChanged 16 + flagBit f.toppedReached 32 + f.temp.word * 64 + f.press.word * 1024 + f.bsw.word * 16384

/-- The security state (R9), derived from the FAILED latch and the window error count. -/
def Checker.security (c : Checker) : Security :=
  if c.failed then .failed else if 0 < c.windowErrors then .alert else .secure

/-- The code of a notice kind (10.4). -/
def noticeCode : NoticeKind → Nat
  | .claimGranted => 0
  | .claimLost => 1
  | .ticketReady => 2
  | .parcelStage => 3
  | .proveEnd => 4
  | .runFault => 5
  | .liveDisagree => 6
  | .reverseFlow => 7
  | .restarted => 8
  | .retentionLost => 9

/-- The kind is in a set of kinds (10.4, R167). -/
def inKinds (m : BitVec 10) (k : NoticeKind) : Bool := m.getLsbD (noticeCode k)

/-- The number of a run, 1 to 4. -/
def runNumber : Run → Nat
  | .r1 => 1
  | .r2 => 2
  | .r3 => 3
  | .r4 => 4

/-- The number of a unit, 1 to 5. -/
def unitNumber : UnitId → Nat
  | .run r => runNumber r
  | .prover => 5

/-- The number of a port, 1 to 3. -/
def portNumber : Port → Nat
  | .p1 => 1
  | .p2 => 2
  | .p3 => 3

/-- The qualifier bit of a unit: 1, 2, 4, 8, 16 (R165). -/
def unitBit : UnitId → BitVec 8
  | .run .r1 => 1
  | .run .r2 => 2
  | .run .r3 => 4
  | .run .r4 => 8
  | .prover => 16

/-- The qualifier bit of a slot: 1 to 128 (R165). -/
def slotBit (i : SlotId) : BitVec 8 := 1#8 <<< i.val

/-- The stages that qualify PARCEL_STAGE: 1, 2, 4, 8 (10.4, R165). -/
def stageTrim : BitVec 8 := 1
def stageStop : BitVec 8 := 2
def stageHeld : BitVec 8 := 4
def stageUnassigned : BitVec 8 := 8

/-- A set of ports as its byte (10.2). -/
def portSetByte (s : PortSet) : Nat := flagBit s.p1 1 + flagBit s.p2 2 + flagBit s.p3 4

/-- A set of runs as its byte (R165). -/
def runSetByte (s : RunSet) : Nat := flagBit s.r1 1 + flagBit s.r2 2 + flagBit s.r3 4 + flagBit s.r4 8

end Sys2Proof.Machine
end

