-- ==== Sys2Proof/Machine/Operands.lean ====
section
/-! DEFINITION. The operand forms: what each raw field of a request names, and the range checks of the owning rules. -/

namespace Sys2Proof.Machine

/-- The run a unit field of 1 to 4 names. -/
def runOf : Nat → Option Run
  | 1 => some .r1
  | 2 => some .r2
  | 3 => some .r3
  | 4 => some .r4
  | _ => none

/-- The unit a unit field of 1 to 5 names. -/
def unitOf : Nat → Option UnitId
  | 1 => some (.run .r1)
  | 2 => some (.run .r2)
  | 3 => some (.run .r3)
  | 4 => some (.run .r4)
  | 5 => some .prover
  | _ => none

/-- The units a unit field names, for the renewal of hold timers (R155). -/
def namedUnits (unit : Nat) : List UnitId := (unitOf unit).toList

/-- The units START PROVE names: that of its unit field, and unit 5 (R155). DESIGN CHOICE (log entry 29): with a unit field of 0 or
above 5 it still names unit 5, as R155's 'also names unit 5' reads; R155 could be read as naming a unit only through a unit field
of 1 to 5. -/
def startUnits (unit : Nat) : List UnitId :=
  if unit = 5 then [.prover] else namedUnits unit ++ [.prover]

/-- The port a number 1 to 3 names. -/
def portOf : Nat → Option Port
  | 1 => some .p1
  | 2 => some .p2
  | 3 => some .p3
  | _ => none

/-- The slot a number 0 to 7 names. -/
def slotOf (n : Nat) : Option SlotId := if h : n < 8 then some ⟨n, h⟩ else none

/-- The grade a number 1 to 8 names. -/
def gradeOf (n : Nat) : Option GradeId := if h : 1 ≤ n ∧ n ≤ 8 then some ⟨n - 1, by omega⟩ else none

/-- A service value (R18), coded as the run state of 10.8. -/
def serviceOf : Nat → Option RunState
  | 0 => some .offline
  | 1 => some .online
  | _ => none

/-- A yes or no (R165). -/
def yesNoOf : Nat → Option Bool
  | 0 => some false
  | 1 => some true
  | _ => none

/-- A health (R62). -/
def healthOf : Nat → Option Health
  | 0 => some .good
  | 1 => some .suspect
  | _ => none

/-- The place of the Live Value Table that a unit and a quantity code name: BSW is not a quantity of the prover (R62). -/
def livePointOf (u : UnitId) (quantity : Nat) : Option LivePoint :=
  match u, quantity with
  | .run r, 0 => some (.run r .temp)
  | .run r, 1 => some (.run r .press)
  | .run r, 2 => some (.run r .bsw)
  | .prover, 0 => some .proverTemp
  | .prover, 1 => some .proverPress
  | _, _ => none

/-- The unit of a place of the Live Value Table. -/
def liveUnit : LivePoint → UnitId
  | .run r _ => .run r
  | .proverTemp => .prover
  | .proverPress => .prover

/-- The quantity of a place of the Live Value Table. -/
def liveQuantity : LivePoint → Quantity
  | .run _ q => q
  | .proverTemp => .temp
  | .proverPress => .press

/-- The range of a reported quantity (R62). -/
def quantityRange : Quantity → Int × Int
  | .temp => (-2000, 12000)
  | .press => (-100, 15000)
  | .bsw => (0, 1000000)

/-- A value replaced by the nearer end of its range where it is outside (R62, 0.8). -/
def clampTo (range : Int × Int) (v : Int) : Int :=
  if v < range.1 then range.1 else if range.2 < v then range.2 else v

/-- A group selector (10.8). -/
def groupOf : Nat → Option TotalsGroup
  | 1 => some .runTotals
  | 2 => some .stationTotals
  | 3 => some .lastPeriod
  | 4 => some .parcelProgress
  | _ => none

/-- A reading width (10.8). -/
def widthOf : Nat → Option Width
  | 0 => some .narrow
  | 1 => some .wide
  | _ => none

/-- A mask of notice kinds: none when it has a bit set beyond the ten codes (R167, R170). -/
def kindsOf (mask : Nat) : Option (BitVec 10) := if mask < 1024 then some (BitVec.ofNat 10 mask) else none

/-- `lo` to `hi`, both included. -/
def within (lo hi n : Nat) : Bool := decide (lo ≤ n) && decide (n ≤ hi)

/-- `lo` to `hi`, both included, for a signed field. -/
def withinInt (lo hi n : Int) : Bool := decide (lo ≤ n) && decide (n ≤ hi)

/-- A flow and an MF within the ranges of R42. -/
def flowOk (flow : Nat) : Bool := within 1 999999 flow
def mfOk (mf : Nat) : Bool := within 800000 1200000 mf

/-- A CTL point within the ranges of R52. -/
def ctlPointOk (pt : RawPoint) : Bool := withinInt (-2000) 12000 pt.temp && within 900000 1100000 pt.ctl

/-- Check 2 of R53. -/
def gradeRecordOk (f bsw : Nat) (points : List RawPoint) : Bool :=
  within 0 2000 f && within 0 100000 bsw && within 1 12 points.length && points.all ctlPointOk

/-- Check 3 of R53: temperatures strictly ascending in the order given. -/
def ascending : List RawPoint → Bool
  | [] => true
  | [_] => true
  | a :: b :: rest => decide (a.temp < b.temp) && ascending (b :: rest)

/-- The ranges of 4.2; the BSW tolerance is checked for runs only (R61). -/
def limitsOk (u : UnitId) (staleness hold tolT tolP tolBsw preferred : Nat) : Bool :=
  within 1 60 staleness && within 10 3600 hold && within 0 1000 tolT && within 0 1000 tolP
    && (match u with
        | .run _ => within 0 100000 tolBsw
        | .prover => true)
    && within 1 3 preferred

/-- The ranges of R127. -/
def proverConfigOk (bpv timeout detectorLimit acceptLimit band : Nat) : Bool :=
  within 10000 500000000 bpv && within 1 600 timeout && within 1 10 detectorLimit && within 100 20000 acceptLimit
    && within 1000 200000 band

/-- Check 5 of R129. -/
def startOk (n maxAttempts tolerance csp : Nat) : Bool :=
  within 2 10 n && within n 20 maxAttempts && within 50 5000 tolerance && within 990000 1010000 csp

/-- A witness set: a non-empty subset of the three ports, as its byte (6.1, R92). -/
def witnessOf (n : Nat) : Option PortSet :=
  if 1 ≤ n ∧ n ≤ 7 then some ⟨n % 2 = 1, n / 2 % 2 = 1, n / 4 % 2 = 1⟩ else none

/-- A resume mode (6.1). -/
def resumeOf : Nat → Option ResumeMode
  | 0 => some .auto
  | 1 => some .manual
  | _ => none

/-- The control form of a WRITE SLOT: none where check 3 of R92 refuses it. Only the fields the kind carries are checked, and
only those are kept; the margins are tested against their own range alone. -/
def formOf (f : RawForm) : Option ControlForm :=
  match f.kind with
  | 0 =>
    match gradeOf f.grade, witnessOf f.witness, resumeOf f.resume with
    | some g, some w, some m =>
      if within 0 4294967295 f.parcel && within 1 10000000000 f.target && within 0 10000000000 f.trim
          && within 0 10000000000 f.stop && within 1 255 f.quiet then
        some (.normal f.parcel g f.target f.trim f.stop f.quiet w m)
      else none
    | _, _, _ => none
  | 1 =>
    match gradeOf f.grade, witnessOf f.witness, resumeOf f.resume with
    | some g, some w, some m => if within 0 4294967295 f.parcel then some (.standing f.parcel g w m) else none
    | _, _, _ => none
  | 2 => if within 0 4294967295 f.parcel then some (.hold f.parcel) else none
  | _ => none

/-- The kind of a control form. -/
def formKind : ControlForm → FormKind
  | .normal .. => .normal
  | .standing .. => .standing
  | .hold .. => .hold

/-- The parcel number of a control form. -/
def formParcel : ControlForm → Nat
  | .normal n .. => n
  | .standing n .. => n
  | .hold n => n

/-- The grade of a control form; a HOLD carries none. -/
def formGrade : ControlForm → Option GradeId
  | .normal _ g .. => some g
  | .standing _ g .. => some g
  | .hold _ => none

/-- The witness set of a control form; a HOLD carries none. -/
def formWitness : ControlForm → Option PortSet
  | .normal _ _ _ _ _ _ w _ => some w
  | .standing _ _ w _ => some w
  | .hold _ => none

/-- The resume mode of a control form; a HOLD carries none. -/
def formResume : ControlForm → Option ResumeMode
  | .normal _ _ _ _ _ _ _ m => some m
  | .standing _ _ _ m => some m
  | .hold _ => none

/-- The target NSV of a NORMAL form. -/
def formTarget : ControlForm → Option Nat
  | .normal _ _ t .. => some t
  | .standing .. => none
  | .hold .. => none

/-- Check 4 of R93: NORMAL only, stop at most trim, trim at most target. -/
def marginsOk : ControlForm → Bool
  | .normal _ _ target trim stop _ _ _ => decide (stop ≤ trim) && decide (trim ≤ target)
  | .standing .. => true
  | .hold .. => true

end Sys2Proof.Machine
end

