-- ==== Sys2Proof/Machine/Ops.lean ====
section
/-! DEFINITION. The named operations every block shares: reading and replacing one instance's state, posting notices, forming a
response, the claim record, the passage of time, the output pins, and the cold initialization. -/

namespace Sys2Proof.Machine

/-! ## One instance of a block -/

def State.checker (s : State) (r : Run) : Checker := s.checkers.get r
def State.setChecker (s : State) (r : Run) (c : Checker) : State := { s with checkers := s.checkers.set r c }
def State.calcOf (s : State) (r : Run) : Calculator := s.calcs.get r
def State.setCalc (s : State) (r : Run) (c : Calculator) : State := { s with calcs := s.calcs.set r c }
def State.curve (s : State) (r : Run) : List CurvePoint := s.curves.get r
def State.setCurve (s : State) (r : Run) (c : List CurvePoint) : State := { s with curves := s.curves.set r c }
def State.grade (s : State) (g : GradeId) : Grade := s.grades.get g
def State.setGrade (s : State) (g : GradeId) (x : Grade) : State := { s with grades := s.grades.set g x }
def State.totals (s : State) (r : Run) : RunTotals := s.bank.runs.get r
def State.setTotals (s : State) (r : Run) (t : RunTotals) : State :=
  { s with bank := { s.bank with runs := s.bank.runs.set r t } }
def State.slot (s : State) (i : SlotId) : RingSlot := s.ring.slots.get i
def State.setSlot (s : State) (i : SlotId) (x : RingSlot) : State :=
  { s with ring := { s.ring with slots := s.ring.slots.set i x } }
def State.claim (s : State) (u : UnitId) : Claim := s.claims.get u
def State.setClaim (s : State) (u : UnitId) (c : Claim) : State := { s with claims := s.claims.set u c }
def State.link (s : State) (p : Port) : Link := s.links.get p
def State.setLink (s : State) (p : Port) (l : Link) : State := { s with links := s.links.set p l }

/-- The record and slots of one place of the Live Value Table. -/
def State.liveItem (s : State) : LivePoint → LiveItem
  | .run r .temp => (s.live.runs.get r).temp
  | .run r .press => (s.live.runs.get r).press
  | .run r .bsw => (s.live.runs.get r).bsw
  | .proverTemp => s.live.prover.temp
  | .proverPress => s.live.prover.press

/-- Replaces one place of the Live Value Table. -/
def State.setLiveItem (s : State) (l : LivePoint) (x : LiveItem) : State :=
  match l with
  | .run r .temp => { s with live := { s.live with runs := s.live.runs.set r { s.live.runs.get r with temp := x } } }
  | .run r .press => { s with live := { s.live with runs := s.live.runs.set r { s.live.runs.get r with press := x } } }
  | .run r .bsw => { s with live := { s.live with runs := s.live.runs.set r { s.live.runs.get r with bsw := x } } }
  | .proverTemp => { s with live := { s.live with prover := { s.live.prover with temp := x } } }
  | .proverPress => { s with live := { s.live with prover := { s.live.prover with press := x } } }

/-- The live limits of a unit (4.2). -/
def State.limits (s : State) : UnitId → LiveLimits
  | .run r => (s.live.runs.get r).limits
  | .prover => s.live.prover.limits

/-- The tolerance of a place of the Live Value Table (4.2). -/
def State.tolerance (s : State) (l : LivePoint) : Nat :=
  match l with
  | .run r .temp => (s.live.runs.get r).limits.tolT
  | .run r .press => (s.live.runs.get r).limits.tolP
  | .run r .bsw => (s.live.runs.get r).tolBsw
  | .proverTemp => s.live.prover.limits.tolT
  | .proverPress => s.live.prover.limits.tolP

/-- A prove is RUNNING (R10). -/
def State.proveRunning (s : State) : Bool := decide (s.prove.result.state = .running)

/-- The run of the result record. -/
def State.provedRun (s : State) : Option Run := s.prove.result.setup.map (·.run)

/-- A prove is RUNNING on this run. -/
def State.provingRun (s : State) (r : Run) : Bool := s.proveRunning && decide (s.provedRun = some r)

/-- The unit is in a prove (9.1). -/
def State.inProve (s : State) : UnitId → Bool
  | .run r => s.provingRun r
  | .prover => s.proveRunning

/-! ## Notices (R166) -/

def NoticeSet.get (n : NoticeSet) : NoticeKind → Notice
  | .claimGranted => n.claimGranted
  | .claimLost => n.claimLost
  | .ticketReady => n.ticketReady
  | .parcelStage => n.parcelStage
  | .proveEnd => n.proveEnd
  | .runFault => n.runFault
  | .liveDisagree => n.liveDisagree
  | .reverseFlow => n.reverseFlow
  | .restarted => n.restarted
  | .retentionLost => n.retentionLost

def NoticeSet.set (n : NoticeSet) (k : NoticeKind) (x : Notice) : NoticeSet :=
  match k with
  | .claimGranted => { n with claimGranted := x }
  | .claimLost => { n with claimLost := x }
  | .ticketReady => { n with ticketReady := x }
  | .parcelStage => { n with parcelStage := x }
  | .proveEnd => { n with proveEnd := x }
  | .runFault => { n with runFault := x }
  | .liveDisagree => { n with liveDisagree := x }
  | .reverseFlow => { n with reverseFlow := x }
  | .restarted => { n with restarted := x }
  | .retentionLost => { n with retentionLost := x }

/-- A posting: the kind is pending and its qualifier joins the set; a kind without a qualifier posts none (R166). -/
def NoticeSet.post (n : NoticeSet) (k : NoticeKind) (q : BitVec 8) : NoticeSet :=
  n.set k { pending := true, quals := (n.get k).quals ||| q }

/-- The set with the named kinds not pending and without qualifiers (R167). -/
def NoticeSet.ack (n : NoticeSet) (m : BitVec 10) : NoticeSet :=
  noticeKinds.foldl (fun n k => if inKinds m k then n.set k {} else n) n

/-- A posting into one port's notice set. -/
def State.post (s : State) (p : Port) (k : NoticeKind) (q : BitVec 8) : State :=
  s.setLink p { s.link p with notices := (s.link p).notices.post k q }

/-- A posting into the notice set of every port. -/
def State.postAll (s : State) (k : NoticeKind) (q : BitVec 8) : State :=
  { s with links := s.links.map (fun l => { l with notices := l.notices.post k q }) }

/-! ## Output pins -/

/-- The level driven on the permissive outputs while the part is supplied (R103). -/
def State.drivenLevel (s : State) : Permissive := if s.ring.resumePending then .stop else s.ring.level

/-- The full-rate permit output (R103): released without supply. -/
def State.fullPermit (s : State) : Bool := s.retention.supplied && decide (s.drivenLevel = .full)

/-- The trim permit output (R103): released without supply. -/
def State.trimPermit (s : State) : Bool := s.retention.supplied && decide (s.drivenLevel ≠ .stop)

/-- The attention line of a port (R168): released without supply. -/
def State.attention (s : State) (p : Port) : Bool :=
  s.retention.supplied && noticeKinds.any (fun k => ((s.link p).notices.get k).pending && inKinds (s.link p).mask k)

/-- The retention-supply monitor's supply state is LOW (R86). -/
def State.supplyLow (s : State) : Bool := decide (s.retention.battery ≠ .normal)

/-! ## Claims (chapter 9) -/

/-- The claim record as the stations see it (R161). -/
def State.claimView (s : State) (u : UnitId) : ClaimView where
  holder := (s.claim u).holder
  waiting := (s.claim u).waiting
  holdTime := (s.claim u).holdTime
  timer := (s.claim u).timer
  inProve := s.inProve u

/-- The port holds the unit. -/
def State.holds (s : State) (p : Port) (u : UnitId) : Bool := decide ((s.claim u).holder = some p)

/-- A request that names the unit, from its holder, restarts the hold timer unless the unit is in a prove (R155). -/
def renew (p : Port) (s : State) (u : UnitId) : State :=
  if s.holds p u && !s.inProve u then
    s.setClaim u { s.claim u with timer := some (Config.seconds (s.claim u).holdTime) }
  else s

/-- A refused or waiting port is appended to the list of a unit that another port holds, unless it is on it (R153, R154). -/
def queuePort (p : Port) (s : State) (u : UnitId) : State :=
  match (s.claim u).holder with
  | none => s
  | some h =>
    if h = p ∨ p ∈ (s.claim u).waiting then s
    else s.setClaim u { s.claim u with waiting := (s.claim u).waiting ++ [p] }

/-- A handover (R157): the head of the waiting list becomes the holder with CLAIM_GRANTED, or the unit becomes free. -/
def handover (s : State) (u : UnitId) : State :=
  match (s.claim u).waiting with
  | [] => s.setClaim u { s.claim u with holder := none, timer := none }
  | q :: rest =>
    (s.setClaim u { s.claim u with
      holder := some q, waiting := rest, timer := some (Config.seconds (s.claim u).holdTime) }).post q .claimGranted (unitBit u)

/-- The hold timer restarts for the port that holds the unit, at the end of a prove (R143 step 4, R159). -/
def restartHold (s : State) (u : UnitId) : State :=
  match (s.claim u).holder with
  | none => s
  | some _ => s.setClaim u { s.claim u with timer := some (Config.seconds (s.claim u).holdTime) }

/-- The hold timer stops (R130, R159). -/
def stopHold (s : State) (u : UnitId) : State := s.setClaim u { s.claim u with timer := none }

/-! ## Requests and responses (R163) -/

/-- What an owning block answers: the state it leaves, the status, and the results its rule names. -/
structure Reply where
  state : State
  status : Status
  body : Body

/-- OK with no result. -/
def okReply (s : State) : Reply := ⟨s, .ok, .empty⟩

/-- A refusal that changes nothing. -/
def refuse (s : State) (st : Status) : Reply := ⟨s, st, .empty⟩

/-- Places a response in the port's buffer; an unread one is discarded (R163). -/
def State.respond (s : State) (p : Port) (r : Response) : State :=
  s.setLink p { s.link p with response := some r }

/-- A refusal with NOT_HOLDER: the port joins the lists of the units it does not hold, and the response carries their claim
records (R154). -/
def notHolder (p : Port) (us : List UnitId) (s : State) : Reply :=
  let s' := us.foldl (queuePort p) s
  ⟨s', .notHolder, .claims (us.map s'.claimView)⟩

/-- The check of the unit field of a request on a run. -/
def withRun (unit : Nat) (s : State) (k : Run → Reply) : Reply :=
  match runOf unit with
  | none => refuse s .range
  | some r => k r

/-- The check of the unit field of a request on any unit. -/
def withUnit (unit : Nat) (s : State) (k : UnitId → Reply) : Reply :=
  match unitOf unit with
  | none => refuse s .range
  | some u => k u

/-- The check of the claim (R154). -/
def asHolder (p : Port) (u : UnitId) (s : State) (k : Reply) : Reply :=
  if s.holds p u then k else notHolder p [u] s

/-- The check of a unit field that must be 0 (6.2, R164). -/
def unitZero (unit : Nat) (s : State) (k : Reply) : Reply := if unit = 0 then k else refuse s .range

/-- The checks of a slot request: unit field, then slot number (6.2). -/
def withSlot (unit slot : Nat) (s : State) (k : SlotId → Reply) : Reply :=
  unitZero unit s <|
    match slotOf slot with
    | none => refuse s .range
    | some i => k i

/-- A request taken by its owning block (R163): the units it names are renewed for their holder, the block acts, and the
response stands in the port's buffer. Without supply no request is taken (R87). -/
def serve (p : Port) (kind : Nat) (named : List UnitId) (act : State → Reply) (s : State) :
    Host.Outcome State Fault Refusal :=
  if s.retention.supplied then
    let r := act (named.foldl (renew p) s)
    .next (r.state.respond p { status := r.status, kind := kind, body := r.body })
  else .next s

/-- An event of the part: without supply it does not happen. -/
def event (act : State → State) (s : State) : Host.Outcome State Fault Refusal :=
  .next (if s.retention.supplied then act s else s)

/-! ## Time -/

/-- A running timer counts down; the expiry itself is a command, so a timer that runs never stands at 0. -/
def countDown (n : Nat) (t : Option Nat) : Option Nat := t.map (fun x => max 1 (x - n))

/-- A timer expires at its last tick: one that is stopped, or that an event taken first has started again, has no expiry
to take (R63, R65, R134, R155, R158, log entry 3). -/
def timerDue (t : Option Nat) : Bool := decide (t = some 1)

/-- The wait for the clock's whole second runs out after the ticks left of it: the advance is then free to come (R172). -/
def runOut (n : Nat) (t : Option Nat) : Option Nat := t.bind (fun left => if n < left then some (left - n) else none)

def Report.pass (n : Nat) (r : Report) : Report := { r with timer := countDown n r.timer }

def LiveItem.pass (n : Nat) (x : LiveItem) : LiveItem where
  record := { x.record with holdTimer := countDown n x.record.holdTimer }
  slots := x.slots.map (Option.map (Report.pass n))

def Live.pass (n : Nat) (l : Live) : Live where
  runs := l.runs.map (fun x => { x with temp := x.temp.pass n, press := x.press.pass n, bsw := x.bsw.pass n })
  prover := { l.prover with temp := l.prover.temp.pass n, press := l.prover.press.pass n }

/-- `n` ticks of the timebase pass (R128): the timebase advances, every running timer counts down, and the second
that a SET TIME began runs out. -/
def State.elapse (s : State) (n : Nat) : State :=
  { s with
    prove := { s.prove with timebase := s.prove.timebase + n, passTimer := countDown n s.prove.passTimer }
    live := s.live.pass n
    claims := s.claims.map (fun c => { c with timer := countDown n c.timer })
    clockWait := runOut n s.clockWait }

/-- The part comes to an event at a timebase reading; a reading behind the timebase is the timebase's own. -/
def State.comeTo (s : State) (stamp : Nat) : State := s.elapse (stamp - s.prove.timebase)

/-! ## Cold initialization -/

/-- A cold initialization (R88): every item takes its cold value and RETENTION_LOST is posted alone. The battery stands as it
is, the lapse latch is cleared once the start is complete, and the queue and the free-value counter are not the part's. -/
def coldInitialize (s : State) : State :=
  { State.reset with
    retention := { supplied := true, battery := s.retention.battery, lapse := false, checkMatches := true }
    pending := s.pending
    freeCount := s.freeCount }

end Sys2Proof.Machine
end

