-- ==== Sys2Proof/Machine/Tables.lean ====
section
/-! DEFINITION. The Table Store's answers and edits (chapter 3) and the grades named by the ring (R54, R107). -/

namespace Sys2Proof.Machine

/-- The enabled points in list order (R42), as points to interpolate. -/
def enabledPoints (c : List CurvePoint) : List (Int × Int) :=
  (c.filter (·.enabled)).map (fun p => ((p.flow : Int), (p.mf : Int)))

/-- The curve holds an enabled point. -/
def hasEnabled (c : List CurvePoint) : Bool := c.any (·.enabled)

/-- MF of a curve at a flow, with whether it is clamped (R43); none for a curve with no enabled point. -/
def curveMf? (c : List CurvePoint) (q : Nat) : Option (Nat × Bool) :=
  (interpolate (enabledPoints c) (q : Int)).map (fun a => (a.1.toNat, a.2))

/-- MF of a curve at a flow; a curve with no enabled point is never asked, so its answer is a free value (R43). -/
def curveMf (c : List CurvePoint) (q : Nat) : Nat × Bool := (curveMf? c q).getD (Config.mfOfEmptyCurve q, false)

/-- CTL of a grade at a temperature, with whether it is clamped (R44); a table always holds a point (R52). -/
def gradeCtl (g : Grade) (t : Int) : Nat × Bool :=
  match interpolate (g.table.map (fun p => (p.temp, (p.ctl : Int)))) t with
  | some a => (a.1.toNat, a.2)
  | none => (Config.ctlOfEmptyTable t, false)

/-- CPL of a grade at a pressure as asked (R45). -/
def gradeCpl (g : Grade) (p : Int) : Nat := cplAt g.f (limitPressure p)

/-- A point of this flow stands on the curve. -/
def hasFlow (c : List CurvePoint) (flow : Nat) : Bool := c.any (fun p => decide (p.flow = flow))

/-- Inserts a point at its place in ascending flow (R47). -/
def insertPoint (x : CurvePoint) : List CurvePoint → List CurvePoint
  | [] => [x]
  | p :: rest => if x.flow < p.flow then x :: p :: rest else p :: insertPoint x rest

/-- Replaces the MF and the enabled flag of the point of a flow (R48, R50). -/
def replacePoint (flow mf : Nat) (enabled : Bool) (c : List CurvePoint) : List CurvePoint :=
  c.map (fun p => if p.flow = flow then { p with mf := mf, enabled := enabled } else p)

/-- Removes the point of a flow (R49). -/
def removePointOf (flow : Nat) (c : List CurvePoint) : List CurvePoint := c.filter (fun p => decide (p.flow ≠ flow))

/-- The point of this flow is the curve's only enabled point (R48, R49). -/
def onlyEnabled (c : List CurvePoint) (flow : Nat) : Bool :=
  match c.filter (·.enabled) with
  | [p] => decide (p.flow = flow)
  | _ => false

/-- The grade of a destination: that of the slot's control form, or the standing grade for none (R107). -/
def State.gradeOfDestination (s : State) (d : Option SlotId) : GradeId :=
  match d with
  | none => s.ring.standingGrade
  | some i =>
    match (s.slot i).form.bind formGrade with
    | some g => g
    | none => s.ring.standingGrade

/-- A slot whose grade is in use: CURRENT, CLOSING or ARMED (R54). -/
def slotUses (x : RingSlot) (g : GradeId) : Bool :=
  (match x.state with
    | .current => true
    | .closing => true
    | .armed => true
    | .free => false
    | .reserved => false
    | .complete => false
    | .void => false)
    && decide (x.form.bind formGrade = some g)

/-- A grade is in use (R54). -/
def State.gradeInUse (s : State) (g : GradeId) : Bool :=
  decide (s.ring.standingGrade = g) || slotIds.any (fun i => slotUses (s.slot i) g)

end Sys2Proof.Machine
end

