-- ==== Sys2Proof/Machine/LiveTable.lean ====
section
/-! DEFINITION. The Live Value Table: reports, supply states, selection (chapter 4). -/

namespace Sys2Proof.Machine

/-- The value of a slot that is fresh and good (R59). -/
def freshGood (r : Option Report) : Option Int :=
  match r with
  | none => none
  | some x => if x.timer.isSome && decide (x.health = .good) then some x.value else none

/-- F: the ports whose slot is fresh and good, with their values, in port order (R59). -/
def LiveItem.f (x : LiveItem) : List (Port × Int) :=
  ports.filterMap (fun p => (freshGood (x.slots.get p)).map (fun v => (p, v)))

/-- The spread of values: the largest less the smallest (R68). -/
def spread (vs : List Int) : Int :=
  match vs with
  | [] => 0
  | v :: rest => rest.foldl max v - rest.foldl min v

/-- The choice from a non-empty F (R68). -/
def chooseFrom (f : List (Port × Int)) (first : Port × Int) (tolerance : Nat) (preferred : Port) : Selected :=
  if f.length = 1 then ⟨first.2, .single⟩
  else if spread (f.map (·.2)) ≤ (tolerance : Int) then ⟨halfAway (f.map (·.2)).sum f.length, .agreed⟩
  else
    match f.find? (fun x => decide (x.1 = preferred)) with
    | some x => ⟨x.2, .disagree⟩
    | none => ⟨first.2, .disagree⟩

/-- The default of a quantity: T 1,500, P 0, BSW that of the grade (R67, R56). -/
def defaultValue (q : Quantity) (g : Grade) : Int :=
  match q with
  | .temp => 1500
  | .press => 0
  | .bsw => (g.bsw : Int)

/-- The value and status a selection returns (R67, R68). -/
def selectValue (x : LiveItem) (tolerance : Nat) (preferred : Port) (dflt : Int) : Selected :=
  match x.f with
  | a :: rest => chooseFrom (a :: rest) a tolerance preferred
  | [] =>
    match x.record.lastValue with
    | none => ⟨dflt, .dflt⟩
    | some v => if x.record.supply = .lapsed then ⟨v, .failed⟩ else ⟨v, .held⟩

/-- SINGLE, AGREED and DISAGREE rest on reports (R60). -/
def SelStatus.fromReports : SelStatus → Bool
  | .single => true
  | .agreed => true
  | .disagree => true
  | .dflt => false
  | .held => false
  | .failed => false

/-- The record after a selection (R69). -/
def SelRecord.after (r : SelRecord) (sel : Selected) : SelRecord :=
  { r with
    lastStatus := some sel.status
    lastValue := if sel.status.fromReports then some sel.value else r.lastValue }

/-- A selection (R66 to R69): the value and status, and the state with the record updated and LIVE_DISAGREE posted on entry. -/
def select (l : LivePoint) (g : GradeId) (s : State) : Selected × State :=
  let x := s.liveItem l
  let sel := selectValue x (s.tolerance l) (s.limits (liveUnit l)).preferred (defaultValue (liveQuantity l) (s.grade g))
  let s' := s.setLiveItem l { x with record := x.record.after sel }
  (sel,
    if sel.status = .disagree ∧ x.record.lastStatus ≠ some .disagree then
      s'.postAll .liveDisagree (unitBit (liveUnit l))
    else s')

/-- The supply state follows F (R64) when the slot of port `p` changes from `before` to `after`: a slot that is fresh and good
makes the record SUPPLIED; F going empty starts the live hold timer; every other change leaves the supply state. -/
def followSupply (hold : Nat) (p : Port) (before after : LiveItem) : LiveItem :=
  if (freshGood (after.slots.get p)).isSome then
    { after with record := { after.record with supply := .supplied, holdTimer := none } }
  else if before.f ≠ [] ∧ after.f = [] then
    { after with record := { after.record with supply := .holding, holdTimer := some (Config.seconds hold) } }
  else after

/-- A prover's latch is cleared by the first GOOD report that makes its record SUPPLIED (R69). -/
def clearProverLatch (l : LivePoint) (before after : LiveItem) : LiveItem :=
  match liveUnit l with
  | .run _ => after
  | .prover =>
    if after.record.supply = .supplied ∧ before.record.supply ≠ .supplied then
      { after with record := { after.record with liveFailed := false } }
    else after

/-- Stores a report in its slot and brings the supply state up to date (R62). -/
def storeReport (l : LivePoint) (p : Port) (value : Int) (h : Health) (s : State) : State :=
  let x := s.liveItem l
  let v := clampTo (quantityRange (liveQuantity l)) value
  let r : Report :=
    { value := v, health := h, clamped := decide (v ≠ value), reportTime := s.terminalTime,
      timer := some (Config.seconds (s.limits (liveUnit l)).staleness) }
  let x' := followSupply (s.limits (liveUnit l)).hold p x { x with slots := x.slots.set p (some r) }
  s.setLiveItem l (clearProverLatch l x x')

/-- A freshness timer expires: the slot becomes STALE; after a report taken first the expiry does not happen (R63). -/
def staleSlot (l : LivePoint) (p : Port) (s : State) : State :=
  let x := s.liveItem l
  match x.slots.get p with
  | none => s
  | some r =>
    if timerDue r.timer then
      s.setLiveItem l
        (followSupply (s.limits (liveUnit l)).hold p x { x with slots := x.slots.set p (some { r with timer := none }) })
    else s

/-- A live hold timer expires; after a GOOD report taken first the expiry does not happen (R65). -/
def lapseRecord (l : LivePoint) (s : State) : State :=
  let x := s.liveItem l
  if timerDue x.record.holdTimer then
    let s' := s.setLiveItem l { x with record := { x.record with supply := .lapsed, holdTimer := none, liveFailed := true } }
    if x.record.liveFailed then s' else s'.postAll .runFault (unitBit (liveUnit l))
  else s

/-- The values of one place after a restart (R72). -/
def LiveItem.restart (hold : Nat) (x : LiveItem) : LiveItem where
  record :=
    match x.record.lastValue with
    | some v =>
      { lastValue := some v, lastStatus := some .held, supply := .holding, holdTimer := some (Config.seconds hold),
        liveFailed := false }
    | none => { lastValue := none, lastStatus := none, supply := .lapsed, holdTimer := none, liveFailed := false }
  slots := .all none

/-- The Live Value Table after a restart (R72). -/
def Live.restart (l : Live) : Live where
  runs := l.runs.map (fun x =>
    { x with
      temp := x.temp.restart x.limits.hold
      press := x.press.restart x.limits.hold
      bsw := x.bsw.restart x.limits.hold })
  prover :=
    { l.prover with
      temp := l.prover.temp.restart l.prover.limits.hold
      press := l.prover.press.restart l.prover.limits.hold }

end Sys2Proof.Machine
end

