-- ==== Sys2Proof/Machine/Period.lean ====
section
/-! DEFINITION. The period computation (2.4 to 2.7), the K-factor's application (R38) and the bank's additions (R76). -/

namespace Sys2Proof.Machine

/-- What a period close gathers (R24). -/
structure PeriodInputs where
  run : Run
  pulses : Nat
  reversePulses : Nat
  missingA : Nat
  missingB : Nat
  mark : Bool
  tMs : Nat
  isPartial : Bool
  restart : Bool
  kmilli : Nat
  rI : Nat
  rR : Nat
  rG : Nat
  rN : Nat
  destination : Option SlotId
  gradeId : GradeId
  grade : Grade
  curve : List CurvePoint
  temp : Selected
  press : Selected
  bsw : Selected
  endTime : Nat

/-- The pulses of the period in 10⁻⁶ of a milli-pulse unit with the residue: the dividend of R25 and of R31. -/
def pulseDividend (pulses residue : Nat) : Nat := pulses * 1000000 + residue

/-- The flow rate of a period (R25). -/
def periodFlow (pulses kmilli tMs : Nat) : Nat :=
  if tMs = 0 then 0 else min Config.maxFlow (pulses * 36000000000 / (kmilli * tMs))

/-- CSW from the selected water content (R30). -/
def cswOf (bsw : Nat) : Nat := Config.ppm - min bsw 100000

def PeriodInputs.ivInc (i : PeriodInputs) : Nat := pulseDividend i.pulses i.rI / i.kmilli
def PeriodInputs.newRI (i : PeriodInputs) : Nat := pulseDividend i.pulses i.rI % i.kmilli
def PeriodInputs.revInc (i : PeriodInputs) : Nat := pulseDividend i.reversePulses i.rR / i.kmilli
def PeriodInputs.newRR (i : PeriodInputs) : Nat := pulseDividend i.reversePulses i.rR % i.kmilli
def PeriodInputs.q (i : PeriodInputs) : Nat := periodFlow i.pulses i.kmilli i.tMs
def PeriodInputs.mfAnswer (i : PeriodInputs) : Nat × Bool := curveMf i.curve i.q
def PeriodInputs.ctlAnswer (i : PeriodInputs) : Nat × Bool := gradeCtl i.grade i.temp.value
def PeriodInputs.p (i : PeriodInputs) : Nat := limitPressure i.press.value
def PeriodInputs.cpl (i : PeriodInputs) : Nat := gradeCpl i.grade i.press.value
def PeriodInputs.water (i : PeriodInputs) : Nat := i.bsw.value.toNat

/-- CCF: MF by CTL, rounded, then by CPL, rounded (R28). -/
def PeriodInputs.ccf (i : PeriodInputs) : Nat := byFactor (byFactor i.mfAnswer.1 i.ctlAnswer.1) i.cpl

def PeriodInputs.csw (i : PeriodInputs) : Nat := cswOf i.water
def PeriodInputs.gsvDividend (i : PeriodInputs) : Nat := i.ivInc * i.ccf + i.rG
def PeriodInputs.gsvInc (i : PeriodInputs) : Nat := i.gsvDividend / Config.ppm
def PeriodInputs.newRG (i : PeriodInputs) : Nat := i.gsvDividend % Config.ppm
def PeriodInputs.nsvDividend (i : PeriodInputs) : Nat := i.gsvInc * i.csw + i.rN
def PeriodInputs.nsvInc (i : PeriodInputs) : Nat := i.nsvDividend / Config.ppm
def PeriodInputs.newRN (i : PeriodInputs) : Nat := i.nsvDividend % Config.ppm

/-- The flags of the period (R32). -/
def PeriodInputs.flags (i : PeriodInputs) : Flags where
  pulseFailed := i.mark
  curveClamp := i.mfAnswer.2
  tableClamp := i.ctlAnswer.2
  restartPeriod := i.restart
  temp := i.temp.status.flags
  press := i.press.status.flags
  bsw := i.bsw.status.flags

/-- The last-period record (R32). -/
def PeriodInputs.record (i : PeriodInputs) : PeriodRecord where
  endTime := i.endTime
  isPartial := i.isPartial
  pulses := i.pulses
  reversePulses := i.reversePulses
  missingA := i.missingA
  missingB := i.missingB
  tMs := i.tMs
  kmilli := i.kmilli
  q := i.q
  mf := i.mfAnswer.1
  ctl := i.ctlAnswer.1
  cpl := i.cpl
  ccf := i.ccf
  csw := i.csw
  ivInc := i.ivInc
  gsvInc := i.gsvInc
  nsvInc := i.nsvInc
  revInc := i.revInc
  temp := i.temp.value
  p := i.p
  bsw := i.water
  tempStatus := i.temp.status
  pressStatus := i.press.status
  bswStatus := i.bsw.status
  flags := i.flags
  destination := i.destination
  grade := i.gradeId

/-- The increment arrival (R34, R35). -/
def PeriodInputs.arrival (i : PeriodInputs) : Arrival where
  run := i.run
  destination := i.destination
  ivInc := i.ivInc
  gsvInc := i.gsvInc
  nsvInc := i.nsvInc
  revInc := i.revInc
  pulses := i.pulses
  reversePulses := i.reversePulses
  endTime := i.endTime
  tMs := i.tMs
  q := i.q
  kmilli := i.kmilli
  temp := i.temp.value
  p := i.p
  bsw := i.water
  mf := i.mfAnswer.1
  ccf := i.ccf
  tempWeighted := i.temp.value * (i.ivInc : Int)
  pWeighted := i.p * i.ivInc
  bswWeighted := i.water * i.ivInc
  mfWeighted := i.mfAnswer.1 * i.ivInc
  ccfWeighted := i.ccf * i.ivInc
  flags := i.flags

/-- The run's calculator after the computation: residues, record and quiet count (R25 to R33). -/
def PeriodInputs.calculatorAfter (i : PeriodInputs) (c : Calculator) : Calculator :=
  { c with
    rI := i.newRI
    rR := i.newRR
    rG := i.newRG
    rN := i.newRN
    lastPeriod := some i.record
    quiet := if i.pulses = 0 then countUp c.quiet Config.maxQuiet else 0 }

/-- The checker after the hand-over of its counts and mark (R5, R6). -/
def Checker.handOver (c : Checker) : Checker :=
  { c with accepted := 0, reverse := 0, missingA := 0, missingB := 0, failureMark := c.failed }

/-- What a close of the run's period with this T_ms gathers, the three selections made (R24, R66). -/
def gatherPeriod (r : Run) (tMs : Nat) (restart : Bool) (s : State) : PeriodInputs × State :=
  let k := s.calcOf r
  let c := s.checker r
  let g := s.gradeOfDestination k.target
  let st := select (.run r .temp) g s
  let sp := select (.run r .press) g st.2
  let sb := select (.run r .bsw) g sp.2
  ({ run := r, pulses := c.accepted, reversePulses := c.reverse, missingA := c.missingA, missingB := c.missingB,
     mark := c.failureMark, tMs := tMs, isPartial := decide (tMs < k.openLength), restart := restart, kmilli := k.kmilli,
     rI := k.rI, rR := k.rR, rG := k.rG, rN := k.rN, destination := k.target, gradeId := g, grade := s.grade g,
     curve := s.curve r, temp := st.1, press := sp.1, bsw := sb.1, endTime := s.terminalTime },
   sb.2)

/-- A period close (2.4 to 2.7): the computation, the hand-over of the counts, and the delivery of one arrival to the bank and
one to the Parcel Engine, where each waits until it is taken (R34). -/
def closePeriod (r : Run) (tMs : Nat) (restart : Bool) (s : State) : State :=
  let g := gatherPeriod r tMs restart s
  let s1 := (g.2.setCalc r (g.1.calculatorAfter (s.calcOf r))).setChecker r (s.checker r).handOver
  { s1 with
    toBank := s1.toBank.set r (s1.toBank.get r ++ [g.1.arrival])
    toEngine := s1.toEngine.set r (some g.1.arrival) }

/-- The next period begins (R21): elapsed 0 and the configured length. -/
def openPeriod (r : Run) (s : State) : State :=
  let k := s.calcOf r
  s.setCalc r { k with elapsed := 0, openLength := k.periodLength }

/-- Applying a K-factor (R38). -/
def Calculator.applyK (k : Calculator) (knew : Nat) : Calculator :=
  { k with kmilli := knew, rI := k.rI * knew / k.kmilli, rR := k.rR * knew / k.kmilli, pendingK := none }

/-- Applying the run's pending K, where one is present (R38). -/
def applyPendingK (r : Run) (s : State) : State :=
  match (s.calcOf r).pendingK with
  | none => s
  | some k => s.setCalc r ((s.calcOf r).applyK k)

/-- The run's totals with an arrival (R76). -/
def RunTotals.add (t : RunTotals) (a : Arrival) : RunTotals :=
  let unassigned (x : Nat) : Nat := if a.destination = none then x else 0
  { t with
    iv := addTotal t.iv a.ivInc
    gsv := addTotal t.gsv a.gsvInc
    nsv := addTotal t.nsv a.nsvInc
    rev := addTotal t.rev a.revInc
    unIv := addTotal t.unIv (unassigned a.ivInc)
    unGsv := addTotal t.unGsv (unassigned a.gsvInc)
    unNsv := addTotal t.unNsv (unassigned a.nsvInc)
    periods := addTotal t.periods 1 }

/-- The bank with an arrival: every addition in one event (R76). -/
def Bank.add (b : Bank) (a : Arrival) : Bank where
  runs := b.runs.set a.run ((b.runs.get a.run).add a)
  iv := addTotal b.iv a.ivInc
  gsv := addTotal b.gsv a.gsvInc
  nsv := addTotal b.nsv a.nsvInc
  rev := addTotal b.rev a.revInc

/-- The bank takes the run's oldest arrival (R76); with none waiting nothing arrives. -/
def takeAtBank (r : Run) (s : State) : State :=
  match s.toBank.get r with
  | [] => s
  | a :: rest => { s with bank := s.bank.add a, toBank := s.toBank.set r rest }

end Sys2Proof.Machine
end

