-- ==== Sys2Proof/Machine/Parcel.lean ====
section
/-! DEFINITION. The Parcel Engine: takes, the permissive, the closing of a parcel and its ticket (chapters 6 and 7). -/

namespace Sys2Proof.Machine

/-- The slot whose state is CURRENT (R96). -/
def State.currentSlot (s : State) : Option SlotId := slotIds.find? (fun i => decide ((s.slot i).state = .current))

/-- The current state is OPEN or TOPPED. -/
def State.parcelOpen (s : State) : Bool := decide (s.ring.current = .opened) || decide (s.ring.current = .topped)

/-- The target a run takes when the engine offers one: the current parcel if OPEN or TOPPED, else none (R19, R117). -/
def State.offeredTarget (s : State) : Option SlotId := if s.parcelOpen then s.currentSlot else none

/-- The sum of an item over the portions of a slot. -/
def portionSum (ps : PerRun (Option Portion)) (f : Portion → Nat) : Nat :=
  let x (o : Option Portion) : Nat := (o.map f).getD 0
  x ps.r1 + x ps.r2 + x ps.r3 + x ps.r4

/-- The parcel NSV of a slot (R100). -/
def RingSlot.parcelNsv (x : RingSlot) : Nat := portionSum x.portions (·.nsv)

/-! ## Takes (6.3) -/

/-- A take that makes no slot CURRENT leaves the engine IDLE with the level at STOP (R98). -/
def goIdle (s : State) : State := { s with ring := { s.ring with current := .idle, level := .stop } }

/-- Every ONLINE run whose target is none takes the slot (R99). -/
def giveTarget (i : SlotId) (s : State) : State :=
  { s with
    calcs := s.calcs.map (fun k =>
      if k.runState = .online ∧ k.target = none then { k with target := some i } else k) }

/-- The head slot becomes CURRENT with its open time and no portion, and head advances (R98). -/
def openHead (current : CurrentState) (level : Permissive) (s : State) : State :=
  let i := s.ring.head
  let s1 := s.setSlot i { s.slot i with state := .current, openTime := some s.terminalTime, portions := .all none }
  { s1 with ring := { s1.ring with current := current, level := level, head := i + 1 } }

/-- The looks of a take (R98): a VOID head slot becomes FREE and the next is looked at; the first other slot ends the take. -/
def takeLooks : Nat → State → State
  | 0, s => goIdle s
  | n + 1, s =>
    let i := s.ring.head
    match (s.slot i).state with
    | .void =>
      let s1 := s.setSlot i .empty
      takeLooks n { s1 with ring := { s1.ring with head := i + 1 } }
    | .armed =>
      match (s.slot i).form.map formKind with
      | some .normal => giveTarget i (openHead .opened .full s)
      | some .standing => giveTarget i (openHead .opened .full s)
      | some .hold => (openHead .held .stop s).postAll .parcelStage stageHeld
      | none => goIdle s
    | .reserved => goIdle s
    | .free => goIdle s
    | .complete => goIdle s
    | .closing => goIdle s
    | .current => goIdle s

/-- The engine takes the next slot; nine looks pass over eight VOID slots and reach the slot
after them (R98). -/
def takeNext (s : State) : State := takeLooks 9 s

/-! ## The ticket (7.5) -/

/-- The half-away mean of a weighted sum by the portion's IV, or the last value where IV is 0 (R121). -/
def meanOf (sum : Int) (iv : Nat) (last : Int) : Int := if iv = 0 then last else halfAway sum iv

/-- A ticket entry from a portion record (R121). -/
def Portion.entry (x : Portion) : TicketEntry where
  run := x.run
  periods := x.periods
  pulses := x.pulses
  iv := x.iv
  gsv := x.gsv
  nsv := x.nsv
  kUsed := x.kUsed
  meanTemp := meanOf x.tempSum x.iv x.lastTemp
  meanP := (meanOf (x.pSum : Int) x.iv (x.lastP : Int)).toNat
  meanBsw := (meanOf (x.bswSum : Int) x.iv (x.lastBsw : Int)).toNat
  meanMf := (meanOf (x.mfSum : Int) x.iv (x.lastMf : Int)).toNat
  meanCcf := (meanOf (x.ccfSum : Int) x.iv (x.lastCcf : Int)).toNat
  flags := x.flags
  firstTime := x.firstTime
  lastTime := x.lastTime

/-- The portions of a slot in the order run 1 to run 4. -/
def portionList (ps : PerRun (Option Portion)) : List Portion :=
  ps.r1.toList ++ ps.r2.toList ++ ps.r3.toList ++ ps.r4.toList

/-- The union of the flag sets of the portions (R120). -/
def unionFlags : List Portion → Flags
  | [] => {}
  | x :: rest => x.flags.union (unionFlags rest)

/-- The overrun NSV of a form (R120). -/
def overrunOf (form : Option ControlForm) (nsv : Nat) : Nat :=
  match form.bind formTarget with
  | some target => nsv - target
  | none => 0

/-- The ticket of a closing slot (R120). -/
def ticketOf (x : RingSlot) (c : Closing) : Ticket where
  reason := c.reason
  openTime := x.openTime.getD 0
  closeTime := c.closeTime
  flags := (unionFlags (portionList x.portions)).union { toppedReached := decide (c.reason ≠ .cut) }
  overrun := overrunOf x.form x.parcelNsv
  iv := portionSum x.portions (·.iv)
  gsv := portionSum x.portions (·.gsv)
  nsv := x.parcelNsv
  portions := (portionList x.portions).map Portion.entry

/-- A posting to each port of a set. -/
def State.postTo (s : State) (ps : PortSet) (k : NoticeKind) (q : BitVec 8) : State :=
  ports.foldl (fun s p => if ps.get p then s.post p k q else s) s

/-- The ticket of the closing in progress is written (R119). -/
def writeTicket (s : State) : State :=
  match s.ring.closing with
  | none => s
  | some c =>
    let x := s.slot c.slot
    let s1 := s.setSlot c.slot { x with state := .complete, ticket := some (ticketOf x c), collected := .all false }
    let s2 := { s1 with
      ring := { s1.ring with
        standingGrade := ((x.form.bind formGrade).getD s.ring.standingGrade), closing := none } }
    s2.postTo ((x.form.bind formWitness).getD (.all false)) .ticketReady (slotBit c.slot)

/-! ## Closing (7.3, 7.4) -/

/-- No run is in the set. -/
def RunSet.none? (o : RunSet) : Bool := !(o.r1 || o.r2 || o.r3 || o.r4)

/-- The run's portion of the closing parcel closes (R117). -/
def closePortion (r : Run) (s : State) : State :=
  let s1 := applyPendingK r s
  let s2 := s1.setCalc r { s1.calcOf r with target := s1.offeredTarget }
  match s2.ring.closing with
  | none => s2
  | some c =>
    let owing := c.owing.set r false
    let s3 := { s2 with ring := { s2.ring with closing := some { c with owing := owing } } }
    if RunSet.none? owing then writeTicket s3 else s3

/-- The run is ONLINE with this slot as its target (R115 step 2). -/
def owes (k : Calculator) (i : SlotId) : Bool := decide (k.runState = .online) && decide (k.target = some i)

/-- Steps 1 to 3 of R115: the CURRENT slot becomes CLOSING, so no slot is CURRENT until the take; the owing set is formed;
resume pending is cleared. -/
def beginClosing (i : SlotId) (reason : CloseReason) (s : State) : State :=
  let s1 := s.setSlot i { s.slot i with state := .closing }
  { s1 with
    ring := { s1.ring with
      current := .idle
      resumePending := false
      closing := some { slot := i, reason := reason, closeTime := s.terminalTime,
                        owing := s.calcs.map (fun k => owes k i) } } }

/-- Step 5 of R115: a closing that nothing owes has its ticket written at once. -/
def writeIfNoneOwe (s : State) : State :=
  match s.ring.closing with
  | none => s
  | some c => if RunSet.none? c.owing then writeTicket s else s

/-- A closing starts (R115); `quietRun` is the run whose arrival made a quiet close. -/
def startClosing (i : SlotId) (reason : CloseReason) (quietRun : Option Run) (s : State) : State :=
  let s1 := beginClosing i reason s
  let s2 := match quietRun with
    | none => s1
    | some r => closePortion r s1
  takeNext (writeIfNoneOwe s2)

/-! ## Arrivals (6.4) -/

/-- The portion a first arrival creates (R112). -/
def Portion.first (a : Arrival) : Portion where
  run := a.run
  periods := 1
  pulses := a.pulses
  iv := a.ivInc
  gsv := a.gsvInc
  nsv := a.nsvInc
  kUsed := a.kmilli
  tempSum := a.tempWeighted
  pSum := a.pWeighted
  bswSum := a.bswWeighted
  mfSum := a.mfWeighted
  ccfSum := a.ccfWeighted
  lastTemp := a.temp
  lastP := a.p
  lastBsw := a.bsw
  lastMf := a.mf
  lastCcf := a.ccf
  flags := a.flags
  firstTime := a.endTime
  lastTime := a.endTime

/-- The portion with a later arrival (R112). -/
def Portion.add (x : Portion) (a : Arrival) : Portion where
  run := x.run
  periods := x.periods + 1
  pulses := x.pulses + a.pulses
  iv := x.iv + a.ivInc
  gsv := x.gsv + a.gsvInc
  nsv := x.nsv + a.nsvInc
  kUsed := x.kUsed
  tempSum := x.tempSum + a.tempWeighted
  pSum := x.pSum + a.pWeighted
  bswSum := x.bswSum + a.bswWeighted
  mfSum := x.mfSum + a.mfWeighted
  ccfSum := x.ccfSum + a.ccfWeighted
  lastTemp := a.temp
  lastP := a.p
  lastBsw := a.bsw
  lastMf := a.mf
  lastCcf := a.ccf
  flags := (x.flags.union a.flags).union { kChanged := decide (a.kmilli ≠ x.kUsed) }
  firstTime := x.firstTime
  lastTime := a.endTime

/-- Step 1 of R100: the arrival joins the run's portion of its destination. -/
def addToPortion (i : SlotId) (a : Arrival) (s : State) : State :=
  let x := s.slot i
  let portion := match x.portions.get a.run with
    | none => Portion.first a
    | some y => y.add a
  s.setSlot i { x with portions := x.portions.set a.run (some portion) }

/-- The remaining volume of a parcel against its target (R101). -/
def remainingOf (target nsv : Nat) : Int := (target : Int) - (nsv : Int)

/-- Step 2 of R100: the permissive of a CURRENT slot of kind NORMAL is evaluated (R101). -/
def evaluatePermissive (i : SlotId) (s : State) : State :=
  match (s.slot i).state, (s.slot i).form with
  | .current, some (.normal _ _ target trim stop _ _ _) =>
    let remaining := remainingOf target (s.slot i).parcelNsv
    if s.ring.current = .opened then
      if remaining ≤ (stop : Int) then
        ({ s with ring := { s.ring with current := .topped, level := .stop } }).postAll .parcelStage stageStop
      else if s.ring.level = .full ∧ remaining ≤ (trim : Int) then
        ({ s with ring := { s.ring with level := .trim } }).postAll .parcelStage stageTrim
      else s
    else s
  | _, _ => s

/-- The unassigned watch (R102). -/
def applyWatch (a : Arrival) (s : State) : State :=
  match a.destination with
  | some _ => { s with ring := { s.ring with watch := true } }
  | none =>
    if a.pulses = 0 then s
    else
      let s1 := { s with ring := { s.ring with watch := false } }
      if s.ring.watch then s1.postAll .parcelStage stageUnassigned else s1

/-- The quiet periods of a slot's form; only a NORMAL form has them (6.1). -/
def quietPeriods (x : RingSlot) : Option Nat :=
  match x.form with
  | some (.normal _ _ _ _ _ q _ _) => some q
  | _ => none

/-- Every ONLINE run has been quiet for `n` periods (R116). -/
def allQuiet (s : State) (n : Nat) : Bool :=
  runs.all (fun r => decide ((s.calcOf r).runState = .offline) || decide (n ≤ (s.calcOf r).quiet))

/-- The quiet test at an arrival to slot `i` (R116). -/
def quietTest (i : SlotId) (s : State) : Bool :=
  decide ((s.slot i).state = .current) && decide (s.ring.current = .topped) && s.ring.closing.isNone
    && (match quietPeriods (s.slot i) with
        | some n => allQuiet s n
        | none => false)

/-- The run owes the closing in progress, and this arrival goes to the closing slot (R118). DESIGN CHOICE (log entry 23): an
arrival whose period closed before the closing started, and which is taken after it, is taken as the last delivery, as R114 and
the first sentence of R118 read; R118's later sentences could have it an ordinary one, with the run owing its next period. -/
def owedArrival (a : Arrival) (s : State) : Bool :=
  match s.ring.closing with
  | none => false
  | some c => c.owing.get a.run && decide (a.destination = some c.slot)

/-- Step 4 of R100: an owing run's portion closes at its arrival (R118); otherwise the quiet test is made (R116). -/
def advanceClosing (a : Arrival) (s : State) : State :=
  if owedArrival a s then closePortion a.run s
  else
    match a.destination with
    | none => s
    | some i => if quietTest i s then startClosing i .quiet (some a.run) s else s

/-- Steps 1 and 2 of R100. -/
def assignArrival (a : Arrival) (s : State) : State :=
  match a.destination with
  | none => s
  | some i => evaluatePermissive i (addToPortion i a s)

/-- The Parcel Engine takes an arrival (R100). -/
def engineArrival (a : Arrival) (s : State) : State := advanceClosing a (applyWatch a (assignArrival a s))

/-- The Parcel Engine takes the run's arrival; with none waiting nothing arrives. -/
def takeAtEngine (r : Run) (s : State) : State :=
  match s.toEngine.get r with
  | none => s
  | some a => engineArrival a { s with toEngine := s.toEngine.set r none }

/-- Every arrival still waiting for the run is taken at the bank. -/
def drainBank (r : Run) (s : State) : State :=
  { s with
    bank := (s.toBank.get r).foldl Bank.add s.bank
    toBank := s.toBank.set r [] }

/-- Every arrival of a run still waiting is taken, at the engine and at the bank. -/
def takeArrivals (r : Run) (s : State) : State := drainBank r (takeAtEngine r s)

/-- A period close is retained as one change with its two arrivals (R84): every arrival still waiting is taken, run 1 to
run 4. -/
def settleArrivals (s : State) : State := runs.foldl (fun s r => takeArrivals r s) s

end Sys2Proof.Machine
end

