-- ==== Sys2Proof/Machine/ProveEngine.lean ====
section
/-! DEFINITION. The Prove Engine: passes, their arithmetic, the result and the endings of a prove (chapter 8). -/

namespace Sys2Proof.Machine

/-- Replaces the result record. -/
def State.setResult (s : State) (r : ProveResult) : State := { s with prove := { s.prove with result := r } }

/-- t_D of a working pass, once D2 has been taken (R131). -/
def WorkingPass.tD (w : WorkingPass) : Option Nat := w.d2.map (fun d => d - w.d1)

/-- A pass record without the items of a pass end (R140). -/
def bareRecord (s : State) (reason : Option AbandonReason) : PassRecord where
  number := s.prove.result.attempts
  abandoned := reason
  endTime := s.terminalTime
  tD := s.prove.working.bind WorkingPass.tD
  inputs := none
  figures := none

/-- A pass record is appended: no pass is then in progress (R140). -/
def appendPass (x : PassRecord) (s : State) : State :=
  { s with
    prove := { s.prove with
      engine := .awaitD1
      passTimer := none
      working := none
      result := { s.prove.result with passes := s.prove.result.passes ++ [x] } } }

/-- A pass is in progress: IN_PASS or AWAIT_END. -/
def State.passInProgress (s : State) : Bool :=
  decide (s.prove.engine = .inPass) || decide (s.prove.engine = .awaitEnd)

/-- The hold timers of the proved run and of the prover restart (R143 step 4, R159). -/
def restartProveHolds (s : State) : State :=
  match s.provedRun with
  | none => restartHold s .prover
  | some r => restartHold (restartHold s (.run r)) .prover

/-- The common end of a prove (R143). -/
def endProve (st : ProveState) (reason : Option ProveReason) (s : State) : State :=
  let s1 := if s.passInProgress then appendPass (bareRecord s (some .ended)) s else s
  let s2 := { s1 with
    prove := { s1.prove with
      engine := .idle
      passTimer := none
      working := none
      result := { s1.prove.result with state := st, reason := reason, endTime := some s.terminalTime } } }
  (restartProveHolds s2).postAll .proveEnd 0

/-- The attempts may go on: the attempt count is below the maximum (R132, R141). -/
def State.attemptsLeft (s : State) : Bool :=
  match s.prove.result.setup with
  | none => false
  | some u => decide (s.prove.result.attempts < u.maxAttempts)

/-- An abandoned pass sets the consecutive count to 0 (R132, R141). -/
def resetConsecutive (s : State) : State := s.setResult { s.prove.result with consecutive := 0 }

/-- After an abandoned pass (R141): the prove goes on, or ends FAILED with REPEATABILITY at its last attempt. -/
def afterAbandon (s : State) : State :=
  let s1 := resetConsecutive s
  if s1.attemptsLeft then s1 else endProve .failed (some .repeatability) s1

/-- The pass in progress is abandoned (R134, R135). -/
def abandonPass (reason : AbandonReason) (s : State) : State :=
  afterAbandon (appendPass (bareRecord s (some reason)) s)

/-- A pass begins at a D1 (R131). -/
def beginPass (s : State) : State :=
  { s with
    prove := { s.prove with
      engine := .inPass
      passTimer := some (Config.seconds s.prove.config.timeout)
      working := some { d1 := s.prove.timebase, first := none, d2 := none, n := 0 }
      result := { s.prove.result with attempts := s.prove.result.attempts + 1 } } }

/-- A detector error is counted (R132). -/
def countDetectorError (s : State) : State :=
  s.setResult { s.prove.result with detectorErrors := s.prove.result.detectorErrors + 1 }

/-- The detector error count has come to the limit (R132). -/
def State.detectorLimitReached (s : State) : Bool :=
  decide (s.prove.config.detectorLimit ≤ s.prove.result.detectorErrors)

/-- A D2 out of order: counted, and the prove ends at the limit (R131, R132). -/
def strayD2 (s : State) : State :=
  let s1 := countDetectorError s
  if s1.detectorLimitReached then endProve .failed (some .detector) s1 else s1

/-- A D1 during a pass: the pass is abandoned with DETECTOR, then the error count and the attempts are tested (R131, R132). -/
def strayD1 (s : State) : State :=
  let s1 := resetConsecutive (appendPass (bareRecord s (some .detector)) (countDetectorError s))
  if s1.detectorLimitReached then endProve .failed (some .detector) s1
  else if s1.attemptsLeft then beginPass s1
  else endProve .failed (some .repeatability) s1

/-- A detector event at the timebase's present reading (R131). -/
def detectorEvent (d : Detector) (s : State) : State :=
  match s.prove.engine, d with
  | .idle, _ => s
  | .awaitD1, .d1 => beginPass s
  | .awaitD1, .d2 => strayD2 s
  | .inPass, .d1 => strayD1 s
  | .inPass, .d2 =>
    { s with
      prove := { s.prove with
        engine := .awaitEnd
        working := s.prove.working.map (fun w => { w with d2 := some s.prove.timebase }) } }
  | .awaitEnd, .d1 => strayD1 s
  | .awaitEnd, .d2 => strayD2 s

/-! ## Pass arithmetic (8.5) -/

/-- Ns (R137). -/
def interpolatedPulses (n tD tP : Nat) : Nat := halfUp (n * tD * 10000) tP

/-- IVm (R137). -/
def indicatedMeterVolume (ns kmilli : Nat) : Nat := halfUp (ns * 1000000) kmilli

/-- The pass flow (R137). -/
def passFlow (ivm tD : Nat) : Nat := if tD = 0 then 0 else min Config.maxFlow (ivm * 36000 / tD)

/-- The figures of a pass (R137 to R139). -/
def passFigures (bpv csp tD : Nat) (g : Grade) (i : PassInputs) : PassFigures :=
  let ns := interpolatedPulses i.n tD i.tP
  let ivm := indicatedMeterVolume ns i.kmilli
  let ctlM := (gradeCtl g i.runTemp.value).1
  let cplM := gradeCpl g i.runPress.value
  let ccfM := byFactor ctlM cplM
  let ctlP := (gradeCtl g i.proverTemp.value).1
  let cplP := gradeCpl g i.proverPress.value
  let ccfP := byFactor (byFactor csp ctlP) cplP
  let cmv := byFactor ivm ccfM
  let cpv := byFactor bpv ccfP
  { ns := ns, ivm := ivm, q := passFlow ivm tD, ctlM := ctlM, cplM := cplM, ccfM := ccfM, ctlP := ctlP, cplP := cplP,
    ccfP := ccfP, cpv := cpv, cmv := cmv, mfPass := if cmv = 0 then none else some (halfUp (cpv * 1000000) cmv) }

/-- The figures make a VALID pass (R139). -/
def figuresValid (f : PassFigures) : Bool :=
  match f.mfPass with
  | none => false
  | some m => decide (f.q ≠ 0) && mfOk m

/-- The last `n` records of the pass list. -/
def lastPasses (n : Nat) (l : List PassRecord) : List PassRecord := l.drop (l.length - n)

/-- MF_pass and Q of a VALID pass. -/
def PassRecord.mfOf (x : PassRecord) : Nat := (x.figures.bind (·.mfPass)).getD 0
def PassRecord.qOf (x : PassRecord) : Nat := (x.figures.map (·.q)).getD 0

/-- The smallest and the largest of a list of factors. -/
def smallest : List Nat → Nat
  | [] => 0
  | x :: rest => rest.foldl min x
def largest : List Nat → Nat
  | [] => 0
  | x :: rest => rest.foldl max x

/-- The repeatability test on the MF_pass values of the window (R142). -/
def repeatable (tolerance : Nat) (mfs : List Nat) : Bool :=
  decide ((largest mfs - smallest mfs) * 1000000 ≤ tolerance * smallest mfs)

/-- After a VALID pass has been appended (R141, R142). -/
def afterValid (s : State) : State :=
  let s1 := s.setResult { s.prove.result with consecutive := s.prove.result.consecutive + 1 }
  match s1.prove.result.setup with
  | none => s1
  | some u =>
    let window := lastPasses u.n s1.prove.result.passes
    if u.n ≤ s1.prove.result.consecutive ∧ repeatable u.tolerance (window.map PassRecord.mfOf) = true then
      endProve .complete none (s1.setResult { s1.prove.result with
        mf := some (halfUp (window.map PassRecord.mfOf).sum u.n)
        q := some (halfUp (window.map PassRecord.qOf).sum u.n) })
    else if s1.attemptsLeft then s1
    else endProve .failed (some .repeatability) s1

/-- What a pass end gathers, its four selections made (R136, R74). -/
def gatherPass (r : Run) (n tP : Nat) (s : State) : PassInputs × State :=
  let g := s.gradeOfDestination (s.calcOf r).target
  let rt := select (.run r .temp) g s
  let rp := select (.run r .press) g rt.2
  let pt := select .proverTemp g rp.2
  let pp := select .proverPress g pt.2
  ({ n := n, tP := tP, runTemp := rt.1, runPress := rp.1, proverTemp := pt.1, proverPress := pp.1, grade := g,
     kmilli := (s.calcOf r).kmilli }, pp.2)

/-- A pass ends with N and t_P (R136 to R141). -/
def passEnd (u : ProveSetup) (n tP : Nat) (s : State) : State :=
  let g := gatherPass u.run n tP s
  let s1 := g.2
  if n = 0 ∨ tP = 0 then
    afterAbandon (appendPass { bareRecord s1 (some .noPulses) with inputs := some g.1 } s1)
  else
    let tD := (s1.prove.working.bind WorkingPass.tD).getD 0
    let f := passFigures s1.prove.config.bpv u.csp tD (s1.grade g.1.grade) g.1
    if figuresValid f then
      afterValid (appendPass { bareRecord s1 none with inputs := some g.1, figures := some f } s1)
    else
      afterAbandon (appendPass { bareRecord s1 (some .range) with inputs := some g.1, figures := some f } s1)

/-- An accepted forward pulse is handed, at the timebase's present reading (R133). -/
def provePulse (s : State) : State :=
  match s.prove.engine, s.prove.working, s.prove.result.setup with
  | .inPass, some w, _ =>
    { s with
      prove := { s.prove with
        working := some (match w.first with
          | none => { w with first := some s.prove.timebase }
          | some _ => { w with n := w.n + 1 }) } }
  | .awaitEnd, some w, some u =>
    match w.first with
    | none => passEnd u 0 0 s
    | some f => passEnd u (w.n + 1) (s.prove.timebase - f) s
  | _, _, _ => s

/-- What the Pulse Checker hands while a prove is RUNNING on its run (R10). -/
inductive Handed where
  | pulse | missing | reverse | latchSet
deriving DecidableEq, Repr

/-- An item of the proved run acts on the prove (R133, R135). -/
def proveItem (h : Handed) (s : State) : State :=
  match h with
  | .pulse => provePulse s
  | .missing => if s.passInProgress then abandonPass .pulse s else s
  | .reverse => if s.passInProgress then abandonPass .reverse s else s
  | .latchSet => endProve .failed (some .pulse) s

/-- The checker hands an item only while a prove is RUNNING on its run (R10). -/
def hand (r : Run) (h : Handed) (s : State) : State := if s.provingRun r then proveItem h s else s

/-- The prove ends ABORTED at an event that breaks its claims or its run's service (R145). -/
def abortIf (b : Bool) (reason : ProveReason) (s : State) : State :=
  if b then endProve .aborted (some reason) s else s

end Sys2Proof.Machine
end

