-- ==== Sys2Proof/Machine/ClaimRequests.lean ====
section
/-! DEFINITION. CLAIM, RELEASE, the hold timer's expiry and the claims' part of STATION CLEAR (chapter 9). -/

namespace Sys2Proof.Machine

/-- The hold time a CLAIM leaves: its field, or the unit's where the field is 0 (R153). -/
def holdField (field old : Nat) : Nat := if field = 0 then old else field

/-- A grant or a renewal (R153): the timer starts unless the unit is in a prove. -/
def grant (p : Port) (u : UnitId) (hold : Nat) (s : State) : State :=
  let h := holdField hold (s.claim u).holdTime
  s.setClaim u { s.claim u with
    holder := some p
    holdTime := h
    timer := if s.inProve u then (s.claim u).timer else some (Config.seconds h) }

/-- The position of a port on a list, from 1. -/
def positionOf (p : Port) (l : List Port) : Nat := l.idxOf p + 1

/-- CLAIM (R153): request kind 32. -/
def execClaim (p : Port) (unit hold : Nat) (s : State) : Host.Outcome State Fault Refusal :=
  serve p 32 (namedUnits unit) (fun s =>
    withUnit unit s fun u =>
      if 60 < hold then refuse s .range
      else if (s.claim u).holder = none ∨ s.holds p u = true then
        let s' := grant p u hold s
        ⟨s', .ok, .claims [s'.claimView u]⟩
      else
        let s' := queuePort p s u
        ⟨s', .waiting, .waiting (positionOf p (s'.claim u).waiting) (s'.claimView u)⟩) s

/-- The port is the proving port of a RUNNING prove that the unit is in (R145, R156). -/
def State.provingPort (s : State) (p : Port) : Bool := s.proveRunning && decide (s.prove.result.setup.map (·.port) = some p)

/-- RELEASE (R156): request kind 33. -/
def execRelease (p : Port) (unit : Nat) (s : State) : Host.Outcome State Fault Refusal :=
  serve p 33 (namedUnits unit) (fun s =>
    withUnit unit s fun u =>
      if s.holds p u then
        let s' := abortIf (s.provingPort p && s.inProve u) .claim (handover s u)
        ⟨s', .ok, .claims [s'.claimView u]⟩
      else ⟨s, .notHolder, .claims [s.claimView u]⟩) s

/-- HOLD_TIMER_EXPIRY (R158): after a request or a RELEASE taken first the expiry does not happen (R155, R158). -/
def loseClaim (u : UnitId) (s : State) : State :=
  match (s.claim u).holder with
  | none => s
  | some h => if timerDue (s.claim u).timer then handover (s.post h .claimLost (unitBit u)) u else s

def execHoldTimerExpiry (u : UnitId) (s : State) : Host.Outcome State Fault Refusal := event (loseClaim u) s

/-- The units a port holds are handed over, unit 1 to unit 5, and the port leaves every waiting list (R160). -/
def clearClaims (p : Port) (s : State) : State :=
  let s1 := units.foldl (fun s u => if s.holds p u then handover s u else s) s
  { s1 with claims := s1.claims.map (fun c => { c with waiting := c.waiting.filter (fun q => decide (q ≠ p)) }) }

end Sys2Proof.Machine
end

