-- ==== Sys2Proof/Machine/SlotRequests.lean ====
section
/-! DEFINITION. The requests on the ring and on the current parcel: RESERVE SLOT to READ TICKET (chapters 6 and 7). -/

namespace Sys2Proof.Machine

/-- RESERVE_SLOT (R91): request kind 17. -/
def execReserveSlot (p : Port) (unit : Nat) (s : State) : Host.Outcome State Fault Refusal :=
  serve p 17 [] (fun s =>
    unitZero unit s <|
      let i := s.ring.tail
      if (s.slot i).state = .free then
        let s1 := s.setSlot i { RingSlot.empty with state := .reserved, reserver := some p }
        ⟨{ s1 with ring := { s1.ring with tail := i + 1 } }, .ok, .slotNumber i⟩
      else refuse s .ringFull) s

/-- The checks of a slot's state and reserver that WRITE SLOT and ARM SLOT share (R92, R93). -/
def ifReservedBy (p : Port) (i : SlotId) (s : State) (k : Reply) : Reply :=
  if (s.slot i).state ≠ .reserved then refuse s .state
  else if (s.slot i).reserver ≠ some p then refuse s .notOwner
  else k

/-- WRITE_SLOT (R92): request kind 18. -/
def execWriteSlot (p : Port) (unit slot : Nat) (form : RawForm) (s : State) : Host.Outcome State Fault Refusal :=
  serve p 18 [] (fun s =>
    withSlot unit slot s fun i =>
      ifReservedBy p i s <|
        match formOf form with
        | none => refuse s .range
        | some f => okReply (s.setSlot i { s.slot i with form := some f })) s

/-- A take in the same event where the changed slot is the head slot and the engine is IDLE (R97). -/
def takeIfHead (i : SlotId) (s : State) : State :=
  if s.ring.head = i ∧ s.ring.current = .idle then takeNext s else s

/-- ARM_SLOT (R93): request kind 19. -/
def execArmSlot (p : Port) (unit slot : Nat) (s : State) : Host.Outcome State Fault Refusal :=
  serve p 19 [] (fun s =>
    withSlot unit slot s fun i =>
      ifReservedBy p i s <|
        match (s.slot i).form with
        | none => refuse s .range
        | some f =>
          if marginsOk f then okReply (takeIfHead i (s.setSlot i { s.slot i with state := .armed }))
          else refuse s .order) s

/-- CANCEL_SLOT (R94): request kind 20. -/
def execCancelSlot (p : Port) (unit slot : Nat) (s : State) : Host.Outcome State Fault Refusal :=
  serve p 20 [] (fun s =>
    withSlot unit slot s fun i =>
      if (s.slot i).state ≠ .reserved ∧ (s.slot i).state ≠ .armed then refuse s .state
      else if (s.slot i).reserver ≠ some p then refuse s .notOwner
      else okReply (takeIfHead i (s.setSlot i { s.slot i with state := .void }))) s

/-- What READ SLOT shows of a slot (R95, R126): neither portions nor ticket; the open time of a CURRENT, CLOSING or COMPLETE
slot; the collected set of a COMPLETE slot. -/
def RingSlot.shown (x : RingSlot) : RingSlot :=
  { x with
    portions := .all none
    ticket := none
    openTime := if x.state = .current ∨ x.state = .closing ∨ x.state = .complete then x.openTime else none
    collected := if x.state = .complete then x.collected else .all false }

/-- READ_SLOT (R95): request kind 21. -/
def execReadSlot (p : Port) (unit slot : Nat) (s : State) : Host.Outcome State Fault Refusal :=
  serve p 21 [] (fun s => withSlot unit slot s fun i => ⟨s, .ok, .slot (s.slot i).shown⟩) s

/-- The current HOLD slot becomes FREE and the next slot is taken (R106). -/
def freeHold (s : State) : State :=
  match s.currentSlot with
  | none => takeNext s
  | some i => takeNext (s.setSlot i .empty)

/-- RELEASE_HOLD (R106): request kind 22. -/
def execReleaseHold (p : Port) (unit : Nat) (s : State) : Host.Outcome State Fault Refusal :=
  serve p 22 [] (fun s =>
    unitZero unit s <| if s.ring.current = .held then okReply (freeHold s) else refuse s .state) s

/-- RESUME_LOADING (R109): request kind 23. -/
def execResumeLoading (p : Port) (unit : Nat) (s : State) : Host.Outcome State Fault Refusal :=
  serve p 23 [] (fun s =>
    unitZero unit s <|
      if s.ring.resumePending then okReply { s with ring := { s.ring with resumePending := false } }
      else refuse s .state) s

/-- CUT_PARCEL (R113): request kind 24. -/
def execCutParcel (p : Port) (unit slot : Nat) (s : State) : Host.Outcome State Fault Refusal :=
  serve p 24 [] (fun s =>
    withSlot unit slot s fun i =>
      if !s.parcelOpen then refuse s .state
      else if (s.slot i).state ≠ .current then refuse s .state
      else if s.ring.closing.isSome then refuse s .busy
      else okReply (startClosing i (if s.ring.current = .topped then .cutTopped else .cut) none s)) s

/-- The collected set after a read from a port: a witness joins it (R122). -/
def collect (w : PortSet) (collected : PortSet) (p : Port) : PortSet :=
  if w.get p then collected.set p true else collected

/-- READ_TICKET (R122, R123): request kind 25. The read that completes the witness set frees the slot, after the response has
been formed. -/
def execReadTicket (p : Port) (unit slot : Nat) (s : State) : Host.Outcome State Fault Refusal :=
  serve p 25 [] (fun s =>
    withSlot unit slot s fun i =>
      let x := s.slot i
      match x.state, x.form, x.ticket with
      | .complete, some f, some t =>
        let w := (formWitness f).getD (.all false)
        let c := collect w x.collected p
        ⟨if c = w then s.setSlot i .empty else s.setSlot i { x with collected := c }, .ok, .ticket i f t c⟩
      | _, _, _ => refuse s .state) s

end Sys2Proof.Machine
end

