-- ==== Sys2Proof/Machine/LinkRequests.lean ====
section
/-! DEFINITION. The requests of the station links and of the Terminal Clock: SET PORT MODE to SET TIME (10.4 to 10.6). -/

namespace Sys2Proof.Machine

/-- SET_PORT_MODE (R170): request kind 34. -/
def execSetPortMode (p : Port) (unit width mask : Nat) (s : State) : Host.Outcome State Fault Refusal :=
  serve p 34 [] (fun s =>
    unitZero unit s <|
      match widthOf width, kindsOf mask with
      | some w, some m => okReply (s.setLink p { s.link p with width := w, mask := m })
      | _, _ => refuse s .range) s

/-- READ_NOTICES (R167): request kind 35. -/
def execReadNotices (p : Port) (unit : Nat) (s : State) : Host.Outcome State Fault Refusal :=
  serve p 35 [] (fun s =>
    unitZero unit s ⟨s, .ok, .notices (s.link p).notices (s.link p).mask (s.link p).width⟩) s

/-- ACK_NOTICES (R167): request kind 36. -/
def execAckNotices (p : Port) (unit mask : Nat) (s : State) : Host.Outcome State Fault Refusal :=
  serve p 36 [] (fun s =>
    unitZero unit s <|
      match kindsOf mask with
      | none => refuse s .range
      | some m =>
        let n := (s.link p).notices.ack m
        ⟨s.setLink p { s.link p with notices := n }, .ok, .noticesLeft n⟩) s

/-- The slot is RESERVED by the port or ARMED by it (R171). -/
def awaits (p : Port) (x : RingSlot) : Bool :=
  decide (x.reserver = some p) && (decide (x.state = .reserved) || decide (x.state = .armed))

/-- Step 2 of R171: the port's RESERVED and ARMED slots become VOID in one step; then one take is made if the head slot was
one of them and the engine is IDLE. -/
def voidSlots (p : Port) (s : State) : State :=
  let s1 := { s with
    ring := { s.ring with slots := s.ring.slots.map (fun x => if awaits p x then { x with state := .void } else x) } }
  if awaits p (s.slot s.ring.head) && decide (s.ring.current = .idle) then takeNext s1 else s1

/-- Steps 3 and 4 of R171: the port's notice set and mode. -/
def resetLink (p : Port) (s : State) : State :=
  s.setLink p { s.link p with width := .wide, mask := 0x3FF, notices := {} }

/-- STATION CLEAR's effect (R171). -/
def clearStation (p : Port) (s : State) : State :=
  let s1 := abortIf (s.provingPort p) .claim (clearClaims p s)
  resetLink p (voidSlots p s1)

/-- STATION_CLEAR (R171): request kind 37. -/
def execStationClear (p : Port) (unit : Nat) (s : State) : Host.Outcome State Fault Refusal :=
  serve p 37 [] (fun s => unitZero unit s <| okReply (clearStation p s)) s

/-- Terminal time stands at the value set, and a whole second begins (R172). DESIGN CHOICE (log entry 30): the clock's second is that
of the 10 MHz timebase. -/
def setClock (time : Nat) (s : State) : State :=
  { s with terminalTime := time % 4294967296, clockWait := some (Config.seconds 1) }

/-- An advance of terminal time: from 4,294,967,295 it goes to 0. One that comes together with a SET TIME, or before a whole second
has passed since it, is that of the second which SET TIME cut short, and does not happen (R172). -/
def advanceClock (s : State) : State :=
  match s.clockWait with
  | some _ => s
  | none => { s with terminalTime := (s.terminalTime + 1) % 4294967296 }

/-- SET_TIME (R172): request kind 38. -/
def execSetTime (p : Port) (unit time : Nat) (s : State) : Host.Outcome State Fault Refusal :=
  serve p 38 [] (fun s => unitZero unit s <| okReply (setClock time s)) s

/-- TERMINAL_TIME_ADVANCE (R172). -/
def execTerminalTimeAdvance (s : State) : Host.Outcome State Fault Refusal := event advanceClock s

end Sys2Proof.Machine
end

