-- ==== Sys2Proof/Machine/LiveRequests.lean ====
section
/-! DEFINITION. The requests and timer events of the Live Value Table (chapter 4). -/

namespace Sys2Proof.Machine

/-- REPORT_LIVE (R62): request kind 13. -/
def execReportLive (p : Port) (unit quantity : Nat) (value : Int) (health : Nat) (s : State) :
    Host.Outcome State Fault Refusal :=
  serve p 13 (namedUnits unit) (fun s =>
    withUnit unit s fun u =>
      match livePointOf u quantity, healthOf health with
      | some l, some h =>
        let s' := storeReport l p value h s
        if clampTo (quantityRange (liveQuantity l)) value = value then okReply s' else ⟨s', .okClamped, .empty⟩
      | _, _ => refuse s .range) s

/-- Replaces the live limits of a unit (R61); the BSW tolerance is a run's. -/
def setLimits (u : UnitId) (l : LiveLimits) (tolBsw : Nat) (s : State) : State :=
  match u with
  | .run r =>
    let x := s.live.runs.get r
    { s with live := { s.live with runs := s.live.runs.set r { x with limits := l, tolBsw := tolBsw } } }
  | .prover => { s with live := { s.live with prover := { s.live.prover with limits := l } } }

/-- SET_LIVE_LIMITS (R61): request kind 14. -/
def execSetLiveLimits (p : Port) (unit staleness hold tolT tolP tolBsw preferred : Nat) (s : State) :
    Host.Outcome State Fault Refusal :=
  serve p 14 (namedUnits unit) (fun s =>
    withUnit unit s fun u =>
      asHolder p u s <|
        if u = .prover ∧ s.proveRunning = true then refuse s .proving
        else
          match portOf preferred with
          | none => refuse s .range
          | some pref =>
            if limitsOk u staleness hold tolT tolP tolBsw preferred then
              okReply (setLimits u
                { staleness := staleness, hold := hold, tolT := tolT, tolP := tolP, preferred := pref } tolBsw s)
            else refuse s .range) s

/-- READ_LIVE (R70): request kind 15. -/
def execReadLive (p : Port) (unit : Nat) (s : State) : Host.Outcome State Fault Refusal :=
  serve p 15 (namedUnits unit) (fun s =>
    withUnit unit s fun u =>
      match u with
      | .run r => ⟨s, .ok, .runLive (s.live.runs.get r)⟩
      | .prover => ⟨s, .ok, .proverLive s.live.prover⟩) s

/-- FRESHNESS_TIMER_EXPIRY (R63). -/
def execFreshnessTimerExpiry (l : LivePoint) (p : Port) (s : State) : Host.Outcome State Fault Refusal :=
  event (staleSlot l p) s

/-- LIVE_HOLD_TIMER_EXPIRY (R65). -/
def execLiveHoldTimerExpiry (l : LivePoint) (s : State) : Host.Outcome State Fault Refusal := event (lapseRecord l) s

end Sys2Proof.Machine
end

