-- ==== Sys2Proof/WellFormed.lean ====
section
/-! DEFINITION. Well-formed commands: every field of a request fits the size that R165 gives it on the link, so that a frame can
carry it. An out-of-range value that fits is well-formed: the owning rule refuses it. -/

namespace Sys2Proof

/-- Fits in one byte. -/
def fits1 (n : Nat) : Bool := decide (n < 256)
/-- Fits in two bytes. -/
def fits2 (n : Nat) : Bool := decide (n < 65536)
/-- Fits in four bytes. -/
def fits4 (n : Nat) : Bool := decide (n < 4294967296)
/-- Fits in eight bytes. -/
def fits8 (n : Nat) : Bool := decide (n < 18446744073709551616)
/-- Fits in four bytes as two's complement. -/
def fitsInt4 (n : Int) : Bool := decide (-2147483648 ≤ n) && decide (n < 2147483648)

/-- The fields of a control form fit. -/
def RawForm.wf (f : RawForm) : Bool :=
  fits1 f.kind && fits4 f.parcel && fits1 f.grade && fits8 f.target && fits8 f.trim && fits8 f.stop && fits4 f.quiet
    && fits1 f.witness && fits1 f.resume

/-- The fields of a CTL point fit. -/
def RawPoint.wf (x : RawPoint) : Bool := fitsInt4 x.temp && fits4 x.ctl

/-- At most as many CTL points as a body of 512 bytes holds: 10 bytes before them, 8 bytes each (R164, R165). -/
def pointsFit (points : List RawPoint) : Bool := decide (points.length ≤ 62)

/-- A command is well-formed: its fields fit the link. The BSW tolerance of a SET LIVE LIMITS naming unit 5 is not carried, and
is 0 (R61). The events carry nothing of the link. -/
def Instr.wf : Instr → Bool
  | .setService _ u v => fits1 u && fits1 v
  | .setPeriod _ u l => fits1 u && fits4 l
  | .setKFactor _ u k => fits1 u && fits4 k
  | .setSecurity _ u w e => fits1 u && fits4 w && fits4 e
  | .clearRunFault _ u => fits1 u
  | .readRun _ u => fits1 u
  | .addPoint _ u f m e => fits1 u && fits4 f && fits4 m && fits1 e
  | .changePoint _ u f m e => fits1 u && fits4 f && fits4 m && fits1 e
  | .removePoint _ u f => fits1 u && fits4 f
  | .readCurve _ u => fits1 u
  | .loadGrade _ u g f b pts => fits1 u && fits1 g && fits4 f && fits4 b && pointsFit pts && pts.all RawPoint.wf
  | .readGrade _ u g => fits1 u && fits1 g
  | .reportLive _ u q v h => fits1 u && fits1 q && fitsInt4 v && fits1 h
  | .setLiveLimits _ u st h t pr b pf =>
    fits1 u && fits4 st && fits4 h && fits4 t && fits4 pr && fits4 b && fits1 pf && (decide (u ≠ 5) || decide (b = 0))
  | .readLive _ u => fits1 u
  | .readTotals _ u _ g => fits1 u && fits1 g
  | .reserveSlot _ u => fits1 u
  | .writeSlot _ u i f => fits1 u && fits1 i && f.wf
  | .armSlot _ u i => fits1 u && fits1 i
  | .cancelSlot _ u i => fits1 u && fits1 i
  | .readSlot _ u i => fits1 u && fits1 i
  | .releaseHold _ u => fits1 u
  | .resumeLoading _ u => fits1 u
  | .cutParcel _ u i => fits1 u && fits1 i
  | .readTicket _ u i => fits1 u && fits1 i
  | .setProver _ u b t d a m => fits1 u && fits8 b && fits4 t && fits4 d && fits4 a && fits4 m
  | .startProve _ u n m t c => fits1 u && fits4 n && fits4 m && fits4 t && fits4 c
  | .abortProve _ u => fits1 u
  | .readProve _ u f => fits1 u && fits1 f
  | .acceptProve _ u _ => fits1 u
  | .discardProve _ u => fits1 u
  | .claim _ u h => fits1 u && fits4 h
  | .release _ u => fits1 u
  | .setPortMode _ u w m => fits1 u && fits1 w && fits2 m
  | .readNotices _ u => fits1 u
  | .ackNotices _ u m => fits1 u && fits2 m
  | .stationClear _ u => fits1 u
  | .setTime _ u t => fits1 u && fits4 t
  | .responseReadout _ => true
  | .risingEdge _ _ _ _ => true
  | .detectorActuation _ _ => true
  | .passTimerExpiry => true
  | .periodExpiry _ => true
  | .incrementArrivalAtBank _ => true
  | .incrementArrivalAtEngine _ => true
  | .freshnessTimerExpiry _ _ => true
  | .liveHoldTimerExpiry _ => true
  | .holdTimerExpiry _ => true
  | .terminalTimeAdvance => true
  | .partStart _ _ => true
  | .lossOfSupply => true
  | .retentionSupplyChange _ => true
  | .periodTimerAdvance _ => true
  | .refusedRequestFrame _ _ => true

end Sys2Proof
end

