-- ==== Sys2Proof/Decode.lean ====
section
/-! DEFINITION. The request frame (10.1, 10.2): the CRC, the interface's checks of R164, the decoding of a frame into a command,
the encoder of a request, and the host's decoder of table words (no row of the table has bits). -/

namespace Sys2Proof

/-! ## Bytes and the CRC -/

/-- `k` bytes of `n`, most significant first (10.2). -/
def beBytes : Nat → Nat → List Byte
  | 0, _ => []
  | k + 1, n => BitVec.ofNat 8 (n / 256 ^ k) :: beBytes k n

/-- The number that bytes spell, most significant first. -/
def beNat (l : List Byte) : Nat := l.foldl (fun a b => a * 256 + b.toNat) 0

/-- Four bytes of a signed number in two's complement. -/
def beInt4 (n : Int) : List Byte := beBytes 4 (n % 4294967296).toNat

/-- The signed number that four bytes spell. -/
def intOf4 (n : Nat) : Int := if n < 2147483648 then (n : Int) else (n : Int) - 4294967296

/-- One bit of the CRC register: generator x¹⁶ + x¹² + x⁵ + 1 (R164). -/
def crcBit (r : BitVec 16) : BitVec 16 := if r.msb then (r <<< 1) ^^^ 0x1021#16 else r <<< 1

/-- One byte into the CRC register, most significant bit first (R164). -/
def crcByte (r : BitVec 16) (b : Byte) : BitVec 16 :=
  let x := r ^^^ (b.zeroExtend 16 <<< 8)
  crcBit (crcBit (crcBit (crcBit (crcBit (crcBit (crcBit (crcBit x)))))))

/-- The CRC of the bytes of a frame: the register starts at all ones, without final inversion (R164). -/
def crc (l : List Byte) : Nat := (l.foldl crcByte 0xFFFF#16).toNat

/-- A frame's bytes with their CRC, most significant byte first (R164). -/
def withCrc (l : List Byte) : List Byte := l ++ beBytes 2 (crc l)

/-! ## Decoding a request frame -/

/-- The field of `size` bytes at an offset of a body. -/
def fieldAt (body : List Byte) (offset size : Nat) : Nat := beNat ((body.drop offset).take size)

/-- The signed field of four bytes at an offset of a body. -/
def intAt (body : List Byte) (offset : Nat) : Int := intOf4 (fieldAt body offset 4)

/-- `n` CTL points of 8 bytes from an offset of a body (R165). -/
def pointsAt (body : List Byte) (offset : Nat) : Nat → List RawPoint
  | 0 => []
  | n + 1 => ⟨intAt body offset, fieldAt body (offset + 4) 4⟩ :: pointsAt body (offset + 8) n

/-- The control form at offset 1 of a WRITE SLOT's body, in the order of the table of 6.1 (R92, R165). -/
def formAt (body : List Byte) : RawForm where
  kind := fieldAt body 1 1
  parcel := fieldAt body 2 4
  grade := fieldAt body 6 1
  target := fieldAt body 7 8
  trim := fieldAt body 15 8
  stop := fieldAt body 23 8
  quiet := fieldAt body 31 4
  witness := fieldAt body 35 1
  resume := fieldAt body 36 1

/-- The body length a request kind requires (R165), from the unit and the body where they decide it; none for a kind that the
catalogue does not assign (10.3). -/
def bodyLength (kind unit : Nat) (body : List Byte) : Option Nat :=
  match kind with
  | 1 => some 1
  | 2 => some 4
  | 3 => some 4
  | 4 => some 8
  | 5 => some 0
  | 6 => some 0
  | 7 => some 9
  | 8 => some 9
  | 9 => some 4
  | 10 => some 0
  | 11 => some (10 + 8 * fieldAt body 9 1)
  | 12 => some 1
  | 13 => some 6
  | 14 => some (if unit = 5 then 17 else 21)
  | 15 => some 0
  | 16 => some 1
  | 17 => some 0
  | 18 => some 37
  | 19 => some 1
  | 20 => some 1
  | 21 => some 1
  | 22 => some 0
  | 23 => some 0
  | 24 => some 1
  | 25 => some 1
  | 26 => some 24
  | 27 => some 16
  | 28 => some 0
  | 29 => some 1
  | 30 => some 0
  | 31 => some 0
  | 32 => some 4
  | 33 => some 0
  | 34 => some 3
  | 35 => some 0
  | 36 => some 2
  | 37 => some 0
  | 38 => some 4
  | _ => none

/-- The request a checked frame spells, by its kind (10.3); the fields stand in the order the owning rule lists them (R165). -/
def decodeBody (p : Port) (kind unit flags : Nat) (body : List Byte) : Option Instr :=
  match kind with
  | 1 => some (.setService p unit (fieldAt body 0 1))
  | 2 => some (.setPeriod p unit (fieldAt body 0 4))
  | 3 => some (.setKFactor p unit (fieldAt body 0 4))
  | 4 => some (.setSecurity p unit (fieldAt body 0 4) (fieldAt body 4 4))
  | 5 => some (.clearRunFault p unit)
  | 6 => some (.readRun p unit)
  | 7 => some (.addPoint p unit (fieldAt body 0 4) (fieldAt body 4 4) (fieldAt body 8 1))
  | 8 => some (.changePoint p unit (fieldAt body 0 4) (fieldAt body 4 4) (fieldAt body 8 1))
  | 9 => some (.removePoint p unit (fieldAt body 0 4))
  | 10 => some (.readCurve p unit)
  | 11 =>
    some (.loadGrade p unit (fieldAt body 0 1) (fieldAt body 1 4) (fieldAt body 5 4)
      (pointsAt body 10 (fieldAt body 9 1)))
  | 12 => some (.readGrade p unit (fieldAt body 0 1))
  | 13 => some (.reportLive p unit (fieldAt body 0 1) (intAt body 1) (fieldAt body 5 1))
  | 14 =>
    if unit = 5 then
      some (.setLiveLimits p unit (fieldAt body 0 4) (fieldAt body 4 4) (fieldAt body 8 4) (fieldAt body 12 4) 0
        (fieldAt body 16 1))
    else
      some (.setLiveLimits p unit (fieldAt body 0 4) (fieldAt body 4 4) (fieldAt body 8 4) (fieldAt body 12 4)
        (fieldAt body 16 4) (fieldAt body 20 1))
  | 15 => some (.readLive p unit)
  | 16 => some (.readTotals p unit (decide (flags % 2 = 1)) (fieldAt body 0 1))
  | 17 => some (.reserveSlot p unit)
  | 18 => some (.writeSlot p unit (fieldAt body 0 1) (formAt body))
  | 19 => some (.armSlot p unit (fieldAt body 0 1))
  | 20 => some (.cancelSlot p unit (fieldAt body 0 1))
  | 21 => some (.readSlot p unit (fieldAt body 0 1))
  | 22 => some (.releaseHold p unit)
  | 23 => some (.resumeLoading p unit)
  | 24 => some (.cutParcel p unit (fieldAt body 0 1))
  | 25 => some (.readTicket p unit (fieldAt body 0 1))
  | 26 =>
    some (.setProver p unit (fieldAt body 0 8) (fieldAt body 8 4) (fieldAt body 12 4) (fieldAt body 16 4)
      (fieldAt body 20 4))
  | 27 =>
    some (.startProve p unit (fieldAt body 0 4) (fieldAt body 4 4) (fieldAt body 8 4) (fieldAt body 12 4))
  | 28 => some (.abortProve p unit)
  | 29 => some (.readProve p unit (fieldAt body 0 1))
  | 30 => some (.acceptProve p unit (decide (flags / 2 % 2 = 1)))
  | 31 => some (.discardProve p unit)
  | 32 => some (.claim p unit (fieldAt body 0 4))
  | 33 => some (.release p unit)
  | 34 => some (.setPortMode p unit (fieldAt body 0 1) (fieldAt body 1 2))
  | 35 => some (.readNotices p unit)
  | 36 => some (.ackNotices p unit (fieldAt body 0 2))
  | 37 => some (.stationClear p unit)
  | 38 => some (.setTime p unit (fieldAt body 0 4))
  | _ => none

/-- What the interface makes of a frame (R164). -/
inductive FrameVerdict where
  /-- Checks 1 and 2: FRAME_ERROR, answered with kind 0. -/
  | frameError
  /-- Check 3: UNKNOWN, answered with the kind as received. -/
  | unknown (kind : Nat)
  /-- Checks 4 and 5: RANGE, answered with the kind as received. -/
  | range (kind : Nat)
  /-- The frame passes and is handed on. -/
  | request (i : Instr)
deriving DecidableEq, Repr

/-- The checks of R164 on the bytes received from a port, in their order. Bytes after the CRC are not of this frame. -/
def decodeFrame (p : Port) (bytes : List Byte) : FrameVerdict :=
  let len := fieldAt bytes 3 2
  if bytes.length < 5 then .frameError
  else if Config.maxBody < len then .frameError
  else if bytes.length < 5 + len + 2 then .frameError
  else if fieldAt bytes (5 + len) 2 ≠ crc (bytes.take (5 + len)) then .frameError
  else
    let kind := fieldAt bytes 0 1
    let unit := fieldAt bytes 1 1
    let flags := fieldAt bytes 2 1
    let body := (bytes.drop 5).take len
    match bodyLength kind unit body with
    | none => .unknown kind
    | some need =>
      if 4 ≤ flags then .range kind
      else if len ≠ need then .range kind
      else
        match decodeBody p kind unit flags body with
        | none => .unknown kind
        | some i => .request i

/-! ## Encoding a request -/

/-- A control form's bytes in the order of the table of 6.1. -/
def formBytes (f : RawForm) : List Byte :=
  beBytes 1 f.kind ++ beBytes 4 f.parcel ++ beBytes 1 f.grade ++ beBytes 8 f.target ++ beBytes 8 f.trim ++ beBytes 8 f.stop
    ++ beBytes 4 f.quiet ++ beBytes 1 f.witness ++ beBytes 1 f.resume

/-- The CTL points' bytes. -/
def pointBytes (points : List RawPoint) : List Byte := points.flatMap (fun x => beInt4 x.temp ++ beBytes 4 x.ctl)

/-- A request frame from its header and body (10.2). -/
def frameOf (kind unit flags : Nat) (body : List Byte) : List Byte :=
  withCrc (beBytes 1 kind ++ beBytes 1 unit ++ beBytes 1 flags ++ beBytes 2 body.length ++ body)

/-- The frame of a request (10.2, R165); none for the events, which no frame carries. -/
def encodeRequest : Instr → Option (List Byte)
  | .setService _ u v => some (frameOf 1 u 0 (beBytes 1 v))
  | .setPeriod _ u l => some (frameOf 2 u 0 (beBytes 4 l))
  | .setKFactor _ u k => some (frameOf 3 u 0 (beBytes 4 k))
  | .setSecurity _ u w e => some (frameOf 4 u 0 (beBytes 4 w ++ beBytes 4 e))
  | .clearRunFault _ u => some (frameOf 5 u 0 [])
  | .readRun _ u => some (frameOf 6 u 0 [])
  | .addPoint _ u f m e => some (frameOf 7 u 0 (beBytes 4 f ++ beBytes 4 m ++ beBytes 1 e))
  | .changePoint _ u f m e => some (frameOf 8 u 0 (beBytes 4 f ++ beBytes 4 m ++ beBytes 1 e))
  | .removePoint _ u f => some (frameOf 9 u 0 (beBytes 4 f))
  | .readCurve _ u => some (frameOf 10 u 0 [])
  | .loadGrade _ u g f b pts =>
    some (frameOf 11 u 0 (beBytes 1 g ++ beBytes 4 f ++ beBytes 4 b ++ beBytes 1 pts.length ++ pointBytes pts))
  | .readGrade _ u g => some (frameOf 12 u 0 (beBytes 1 g))
  | .reportLive _ u q v h => some (frameOf 13 u 0 (beBytes 1 q ++ beInt4 v ++ beBytes 1 h))
  | .setLiveLimits _ u st h t pr b pf =>
    some (frameOf 14 u 0 (beBytes 4 st ++ beBytes 4 h ++ beBytes 4 t ++ beBytes 4 pr
      ++ (if u = 5 then [] else beBytes 4 b) ++ beBytes 1 pf))
  | .readLive _ u => some (frameOf 15 u 0 [])
  | .readTotals _ u w g => some (frameOf 16 u (if w then 1 else 0) (beBytes 1 g))
  | .reserveSlot _ u => some (frameOf 17 u 0 [])
  | .writeSlot _ u i f => some (frameOf 18 u 0 (beBytes 1 i ++ formBytes f))
  | .armSlot _ u i => some (frameOf 19 u 0 (beBytes 1 i))
  | .cancelSlot _ u i => some (frameOf 20 u 0 (beBytes 1 i))
  | .readSlot _ u i => some (frameOf 21 u 0 (beBytes 1 i))
  | .releaseHold _ u => some (frameOf 22 u 0 [])
  | .resumeLoading _ u => some (frameOf 23 u 0 [])
  | .cutParcel _ u i => some (frameOf 24 u 0 (beBytes 1 i))
  | .readTicket _ u i => some (frameOf 25 u 0 (beBytes 1 i))
  | .setProver _ u b t d a m =>
    some (frameOf 26 u 0 (beBytes 8 b ++ beBytes 4 t ++ beBytes 4 d ++ beBytes 4 a ++ beBytes 4 m))
  | .startProve _ u n m t c => some (frameOf 27 u 0 (beBytes 4 n ++ beBytes 4 m ++ beBytes 4 t ++ beBytes 4 c))
  | .abortProve _ u => some (frameOf 28 u 0 [])
  | .readProve _ u f => some (frameOf 29 u 0 (beBytes 1 f))
  | .acceptProve _ u force => some (frameOf 30 u (if force then 2 else 0) [])
  | .discardProve _ u => some (frameOf 31 u 0 [])
  | .claim _ u h => some (frameOf 32 u 0 (beBytes 4 h))
  | .release _ u => some (frameOf 33 u 0 [])
  | .setPortMode _ u w m => some (frameOf 34 u 0 (beBytes 1 w ++ beBytes 2 m))
  | .readNotices _ u => some (frameOf 35 u 0 [])
  | .ackNotices _ u m => some (frameOf 36 u 0 (beBytes 2 m))
  | .stationClear _ u => some (frameOf 37 u 0 [])
  | .setTime _ u t => some (frameOf 38 u 0 (beBytes 4 t))
  | .responseReadout _ => none
  | .risingEdge _ _ _ _ => none
  | .detectorActuation _ _ => none
  | .passTimerExpiry => none
  | .periodExpiry _ => none
  | .incrementArrivalAtBank _ => none
  | .incrementArrivalAtEngine _ => none
  | .freshnessTimerExpiry _ _ => none
  | .liveHoldTimerExpiry _ => none
  | .holdTimerExpiry _ => none
  | .terminalTimeAdvance => none
  | .partStart _ _ => none
  | .lossOfSupply => none
  | .retentionSupplyChange _ => none
  | .periodTimerAdvance _ => none
  | .refusedRequestFrame _ _ => none

/-- The port whose link carries a request; none for the events. -/
def requestPort : Instr → Option Port
  | .setService p .. => some p
  | .setPeriod p .. => some p
  | .setKFactor p .. => some p
  | .setSecurity p .. => some p
  | .clearRunFault p .. => some p
  | .readRun p .. => some p
  | .addPoint p .. => some p
  | .changePoint p .. => some p
  | .removePoint p .. => some p
  | .readCurve p .. => some p
  | .loadGrade p .. => some p
  | .readGrade p .. => some p
  | .reportLive p .. => some p
  | .setLiveLimits p .. => some p
  | .readLive p .. => some p
  | .readTotals p .. => some p
  | .reserveSlot p .. => some p
  | .writeSlot p .. => some p
  | .armSlot p .. => some p
  | .cancelSlot p .. => some p
  | .readSlot p .. => some p
  | .releaseHold p .. => some p
  | .resumeLoading p .. => some p
  | .cutParcel p .. => some p
  | .readTicket p .. => some p
  | .setProver p .. => some p
  | .startProve p .. => some p
  | .abortProve p .. => some p
  | .readProve p .. => some p
  | .acceptProve p .. => some p
  | .discardProve p .. => some p
  | .claim p .. => some p
  | .release p .. => some p
  | .setPortMode p .. => some p
  | .readNotices p .. => some p
  | .ackNotices p .. => some p
  | .stationClear p .. => some p
  | .setTime p .. => some p
  | .responseReadout _ => none
  | .risingEdge .. => none
  | .detectorActuation .. => none
  | .passTimerExpiry => none
  | .periodExpiry _ => none
  | .incrementArrivalAtBank _ => none
  | .incrementArrivalAtEngine _ => none
  | .freshnessTimerExpiry .. => none
  | .liveHoldTimerExpiry _ => none
  | .holdTimerExpiry _ => none
  | .terminalTimeAdvance => none
  | .partStart .. => none
  | .lossOfSupply => none
  | .retentionSupplyChange _ => none
  | .periodTimerAdvance _ => none
  | .refusedRequestFrame .. => none

/-- The command a table word spells: no row of spec/opcode_table.json has bits, so none. -/
def decodeTableWord (_nbits _w : Nat) : Option Instr := none

end Sys2Proof
end

