-- ==== Sys2Proof/Machine/ProveRequests.lean ====
section
/-! DEFINITION. The requests of the Prove Engine: SET PROVER to DISCARD PROVE (chapter 8). -/

namespace Sys2Proof.Machine

/-- The check of a unit field that must be 5 (R127, R144, R148). -/
def unitProver (unit : Nat) (s : State) (k : Reply) : Reply := if unit = 5 then k else refuse s .range

/-- SET_PROVER (R127): request kind 26. -/
def execSetProver (p : Port) (unit bpv timeout detectorLimit acceptLimit band : Nat) (s : State) :
    Host.Outcome State Fault Refusal :=
  serve p 26 (namedUnits unit) (fun s =>
    unitProver unit s <|
      asHolder p .prover s <|
        if s.proveRunning then refuse s .proving
        else if proverConfigOk bpv timeout detectorLimit acceptLimit band then
          okReply { s with
            prove := { s.prove with
              config := { bpv := bpv, timeout := timeout, detectorLimit := detectorLimit, acceptLimit := acceptLimit,
                          band := band } } }
        else refuse s .range) s

/-- What START PROVE sets up in one event (R130, R159). -/
def startProve (r : Run) (p : Port) (n maxAttempts tolerance csp : Nat) (s : State) : State :=
  let s1 := { s with
    prove := { s.prove with
      engine := .awaitD1
      passTimer := none
      working := none
      result := { ProveResult.cold with
        state := .running
        setup := some { run := r, port := p, n := n, maxAttempts := maxAttempts, tolerance := tolerance, csp := csp,
                        startTime := s.terminalTime } } } }
  stopHold (stopHold s1 (.run r)) .prover

/-- START_PROVE (R129): request kind 27. A port that lacks a unit is queued for each of the two it does not hold. -/
def execStartProve (p : Port) (unit n maxAttempts tolerance csp : Nat) (s : State) :
    Host.Outcome State Fault Refusal :=
  serve p 27 (startUnits unit) (fun s =>
    withRun unit s fun r =>
      match [UnitId.run r, .prover].filter (fun u => !s.holds p u) with
      | u :: us => notHolder p (u :: us) s
      | [] =>
        if s.proveRunning then refuse s .state
        else if s.prove.result.state = .complete then refuse s .resultPending
        else if !startOk n maxAttempts tolerance csp then refuse s .range
        else if (s.calcOf r).runState = .offline then refuse s .offline
        else if (s.checker r).failed then refuse s .pulseFailed
        else okReply (startProve r p n maxAttempts tolerance csp s)) s

/-- ABORT_PROVE (R144): request kind 28. -/
def execAbortProve (p : Port) (unit : Nat) (s : State) : Host.Outcome State Fault Refusal :=
  serve p 28 (namedUnits unit) (fun s =>
    unitProver unit s <|
      asHolder p .prover s <|
        if s.proveRunning then okReply (endProve .aborted (some .request) s) else refuse s .state) s

/-! ## Accepting a result (8.9) -/

/-- The distance of a flow from Q. -/
def flowDistance (flow q : Nat) : Nat := (flow - q) + (q - flow)

/-- An enabled point in band (R150 step 1). -/
def inBand (band q : Nat) (x : CurvePoint) : Bool :=
  x.enabled && decide (flowDistance x.flow q * 1000000 ≤ band * q)

/-- The point nearer to Q; of two at the same distance the one of lower flow (R150 step 1). -/
def nearer (q : Nat) (a b : CurvePoint) : CurvePoint :=
  if flowDistance b.flow q < flowDistance a.flow q ∨ (flowDistance b.flow q = flowDistance a.flow q ∧ b.flow < a.flow) then b
  else a

/-- The in-band point that takes the new MF. -/
def nearestInBand (band q : Nat) (c : List CurvePoint) : Option CurvePoint :=
  match c.filter (inBand band q) with
  | [] => none
  | x :: rest => some (rest.foldl (nearer q) x)

/-- The installation chosen by R150: what is done and at which flow. -/
def chooseInstall (band q : Nat) (c : List CurvePoint) : InstallKind × Nat :=
  match nearestInBand band q c with
  | some x => (.replaced, x.flow)
  | none => if hasFlow c q then (.enabled, q) else (.inserted, q)

/-- The curve with the installation made (R50). -/
def installed (how : InstallKind) (flow mf : Nat) (c : List CurvePoint) : List CurvePoint :=
  match how with
  | .replaced => replacePoint flow mf true c
  | .enabled => replacePoint flow mf true c
  | .inserted => insertPoint ⟨flow, mf, true⟩ c

/-- Check 5 of R149: the deviation exceeds the acceptance limit. -/
def deviates (mf limit : Nat) (ref : Option Nat) : Bool :=
  match ref with
  | none => false
  | some m => decide (limit * m < flowDistance mf m * 1000000)

/-- The acceptance of a result: curve and record (R149, R150). DESIGN CHOICE (log entry 19): the forced marker records the force flag
as sent, even where neither check 4 nor check 5 would have refused; R149 does not say when it is set. -/
def acceptResult (r : Run) (mf : Nat) (ref : Option Nat) (force : Bool) (how : InstallKind) (flow : Nat) (s : State) : State :=
  (s.setCurve r (installed how flow mf (s.curve r))).setResult { s.prove.result with
    state := .accepted
    acceptance := some { refMf := ref, deviation := ref.map (flowDistance mf), forced := force, flow := flow, how := how } }

/-- The COMPLETE result of this run, as its MF and Q (check 3 of R149). -/
def completeFor (r : Run) (s : State) : Option (Nat × Nat) :=
  if s.prove.result.state = .complete ∧ s.provedRun = some r then
    match s.prove.result.mf, s.prove.result.q with
    | some mf, some q => some (mf, q)
    | _, _ => none
  else none

/-- ACCEPT_PROVE (R149): request kind 30. -/
def execAcceptProve (p : Port) (unit : Nat) (force : Bool) (s : State) : Host.Outcome State Fault Refusal :=
  serve p 30 (namedUnits unit) (fun s =>
    withRun unit s fun r =>
      asHolder p (.run r) s <|
        match completeFor r s with
        | none => refuse s .state
        | some (mf, q) =>
          let ref := (curveMf? (s.curve r) q).map (·.1)
          let choice := chooseInstall s.prove.config.band q (s.curve r)
          if !hasEnabled (s.curve r) && !force then refuse s .noCurve
          else if deviates mf s.prove.config.acceptLimit ref && !force then refuse s .deviation
          else if choice.1 = .inserted ∧ Config.curveSize ≤ (s.curve r).length then refuse s .curveFull
          else okReply (acceptResult r mf ref force choice.1 choice.2 s)) s

/-- DISCARD_PROVE (R151): request kind 31. -/
def execDiscardProve (p : Port) (unit : Nat) (s : State) : Host.Outcome State Fault Refusal :=
  serve p 31 (namedUnits unit) (fun s =>
    withRun unit s fun r =>
      asHolder p (.run r) s <|
        if s.prove.result.state = .complete ∧ s.provedRun = some r then
          okReply (s.setResult { s.prove.result with state := .discarded })
        else refuse s .state) s

end Sys2Proof.Machine
end

