-- ==== Sys2Proof/Machine/TotalsRequests.lean ====
section
/-! DEFINITION. READ TOTALS and its groups (5.3). -/

namespace Sys2Proof.Machine

/-- The effective width: the port's default, inverted by the override flag (R81). -/
def effectiveWidth (dflt : Width) (override : Bool) : Width :=
  match dflt, override with
  | .narrow, false => .narrow
  | .narrow, true => .wide
  | .wide, false => .wide
  | .wide, true => .narrow

/-- A total in a width (R81). -/
def inWidth (w : Width) (t : Nat) : Nat :=
  match w with
  | .wide => t
  | .narrow => t % Config.narrowModulus

/-- The nine totals of a run in a width. -/
def RunTotals.inWidth (w : Width) (t : RunTotals) : RunTotals where
  iv := Machine.inWidth w t.iv
  gsv := Machine.inWidth w t.gsv
  nsv := Machine.inWidth w t.nsv
  rev := Machine.inWidth w t.rev
  unIv := Machine.inWidth w t.unIv
  unGsv := Machine.inWidth w t.unGsv
  unNsv := Machine.inWidth w t.unNsv
  periods := Machine.inWidth w t.periods
  offline := Machine.inWidth w t.offline

/-- PARCEL PROGRESS (R83, R126). -/
def State.progress (s : State) : ProgressView :=
  let slot := s.currentSlot
  let form := slot.bind (fun i => (s.slot i).form)
  let nsv := (slot.map (fun i => (s.slot i).parcelNsv)).getD 0
  let target := form.bind formTarget
  { slot := slot
    current := s.ring.current
    kind := form.map formKind
    parcelNsv := form.bind (fun f => if formKind f = .hold then none else some nsv)
    target := target
    remaining := target.map (fun t => remainingOf t nsv)
    driven := s.drivenLevel
    resumePending := s.ring.resumePending
    closing := s.ring.closing.map (fun c => (c.slot, c.owing)) }

/-- STATION TOTALS (R82). -/
def State.stationTotals (s : State) (w : Width) : Body :=
  .stationTotals (inWidth w s.bank.iv) (inWidth w s.bank.gsv) (inWidth w s.bank.nsv) (inWidth w s.bank.rev) s.terminalTime
    s.supplyLow w

/-- The units READ TOTALS names: RUN TOTALS and LAST PERIOD name the unit of the unit field (R155). -/
def totalsUnits (unit group : Nat) : List UnitId :=
  match groupOf group with
  | some .runTotals => namedUnits unit
  | some .lastPeriod => namedUnits unit
  | some .stationTotals => []
  | some .parcelProgress => []
  | none => []

/-- READ_TOTALS (R79): request kind 16. -/
def execReadTotals (p : Port) (unit : Nat) (override : Bool) (group : Nat) (s : State) :
    Host.Outcome State Fault Refusal :=
  serve p 16 (totalsUnits unit group) (fun s =>
    let w := effectiveWidth (s.link p).width override
    match groupOf group with
    | none => refuse s .range
    | some .runTotals =>
      withRun unit s fun r => ⟨s, .ok, .runTotals r (s.calcOf r).runState w ((s.totals r).inWidth w)⟩
    | some .lastPeriod => withRun unit s fun r => ⟨s, .ok, .lastPeriod (s.calcOf r).lastPeriod⟩
    | some .stationTotals => unitZero unit s ⟨s, .ok, s.stationTotals w⟩
    | some .parcelProgress => unitZero unit s ⟨s, .ok, .progress s.progress⟩) s

end Sys2Proof.Machine
end

