-- ==== Sys2Proof/Machine/Response.lean ====
section
/-! DEFINITION. The response frame: the codes and sizes of R165, the layouts of 10.8, the page of READ PROVE (R148), and the
readout of the response buffer (R163). -/

namespace Sys2Proof.Machine

/-! ## Codes of names (10.2, 10.4, 10.8, R165) -/

def statusCode : Status → Nat
  | .ok => 0
  | .okPending => 1
  | .okClamped => 2
  | .waiting => 3
  | .notHolder => 4
  | .busy => 5
  | .state => 6
  | .range => 7
  | .order => 8
  | .duplicate => 9
  | .notFound => 10
  | .curveFull => 11
  | .noCurve => 12
  | .inUse => 13
  | .proving => 14
  | .pulseFailed => 15
  | .offline => 16
  | .resultPending => 17
  | .deviation => 18
  | .ringFull => 19
  | .notOwner => 20
  | .frameError => 21
  | .unknown => 22

/-- A run state: 10.8 gives OFFLINE 0 and ONLINE 1. -/
def runStateCode : RunState → Nat
  | .offline => 0
  | .online => 1

/-- A width: 10.8 gives NARROW 0 and WIDE 1. -/
def widthCode : Width → Nat
  | .narrow => 0
  | .wide => 1

/-- Set and clear, in the order of the tables that list them: set is 0 and clear is 1. -/
def setClearCode (b : Bool) : Nat := if b then 0 else 1

/-- Yes and no: no is 0 and yes is 1 (R165). -/
def yesNoCode (b : Bool) : Nat := if b then 1 else 0

def expectationCode : Expectation → Nat
  | .aNext => 0
  | .bNext => 1
  | .either => 2

/-- The security state, in the order in which R9 first names the values. -/
def securityCode : Security → Nat
  | .failed => 0
  | .alert => 1
  | .secure => 2

/-- DESIGN CHOICE (log entry 13): HELD, FAILED, DISAGREE and DEFAULT name flags of 10.8 too, whose bit values are not taken as codes. -/
def selStatusCode : SelStatus → Nat
  | .dflt => 0
  | .held => 1
  | .failed => 2
  | .single => 3
  | .agreed => 4
  | .disagree => 5

def supplyCode : SupplyState → Nat
  | .supplied => 0
  | .holding => 1
  | .lapsed => 2

def healthCode : Health → Nat
  | .good => 0
  | .suspect => 1

def slotStateCode : SlotState → Nat
  | .free => 0
  | .reserved => 1
  | .armed => 2
  | .current => 3
  | .closing => 4
  | .complete => 5
  | .void => 6

def formKindCode : FormKind → Nat
  | .normal => 0
  | .standing => 1
  | .hold => 2

def resumeCode : ResumeMode → Nat
  | .auto => 0
  | .manual => 1

def currentCode : CurrentState → Nat
  | .idle => 0
  | .opened => 1
  | .topped => 2
  | .held => 3

def permissiveCode : Permissive → Nat
  | .full => 0
  | .trim => 1
  | .stop => 2

def closeReasonCode : CloseReason → Nat
  | .cut => 0
  | .cutTopped => 1
  | .quiet => 2

def engineCode : EngineState → Nat
  | .idle => 0
  | .awaitD1 => 1
  | .inPass => 2
  | .awaitEnd => 3

def proveStateCode : ProveState → Nat
  | .none => 0
  | .running => 1
  | .complete => 2
  | .failed => 3
  | .aborted => 4
  | .accepted => 5
  | .discarded => 6

/-- DESIGN CHOICE (log entry 13): OFFLINE, which is a status of 10.2 and a run state of 10.8 too, takes the code of its place in R147's
list as the other reasons do; R165's 'the code that 10.2, 10.4 or 10.8 gives the name' could be read as giving it 16 or 0. -/
def proveReasonCode : ProveReason → Nat
  | .detector => 0
  | .pulse => 1
  | .repeatability => 2
  | .request => 3
  | .claim => 4
  | .offline => 5
  | .restart => 6

/-- DESIGN CHOICE (log entry 13): RANGE, which is a status of 10.2 too, takes the code of its place in R140's list as the other reasons
do; R165's words could be read as giving it 7. -/
def abandonCode : AbandonReason → Nat
  | .detector => 0
  | .noPulses => 1
  | .timeout => 2
  | .pulse => 3
  | .reverse => 4
  | .range => 5
  | .ended => 6

def installCode : InstallKind → Nat
  | .replaced => 0
  | .enabled => 1
  | .inserted => 2

/-! ## Field sizes (R165) -/

/-- Eight bytes of a signed number in two's complement. -/
def beInt8 (n : Int) : List Byte := beBytes 8 (n % 18446744073709551616).toNat

def b1 (n : Nat) : List Byte := beBytes 1 n
def b2 (n : Nat) : List Byte := beBytes 2 n
def b4 (n : Nat) : List Byte := beBytes 4 n
def b8 (n : Nat) : List Byte := beBytes 8 n

/-- A field that may be absent: a presence byte, then its value's bytes, which are 0 when it is absent (R165). -/
def optField {α : Type} (size : Nat) (f : α → List Byte) : Option α → List Byte
  | some x => b1 1 ++ f x
  | none => b1 0 ++ List.replicate size 0

/-- The seconds a timer shows: whole seconds left, a begun second counting. -/
def secondsLeft (ticks : Nat) : Nat := (ticks + Config.ticksPerSecond - 1) / Config.ticksPerSecond

/-- A timer: stopped, or the seconds left. -/
def timerField (t : Option Nat) : List Byte := optField 4 (fun x => b4 (secondsLeft x)) t

def portField (p : Option Port) : List Byte := optField 1 (fun x => b1 (portNumber x)) p
def slotField (i : Option SlotId) : List Byte := optField 1 (fun x => b1 x.val) i
def gradeByte (g : GradeId) : List Byte := b1 (g.val + 1)
def opt1 (x : Option Nat) : List Byte := optField 1 b1 x
def opt4 (x : Option Nat) : List Byte := optField 4 b4 x
def opt8 (x : Option Nat) : List Byte := optField 8 b8 x

/-! ## Bodies -/

/-- The claim record (R161): holder, waiting list, hold time, time left, in a prove. -/
def claimBytes (v : ClaimView) : List Byte :=
  portField v.holder ++ b1 v.waiting.length ++ v.waiting.flatMap (fun p => b1 (portNumber p)) ++ b4 v.holdTime
    ++ timerField v.timer ++ b1 (yesNoCode v.inProve)

/-- The last-period record, in the order of R32. -/
def periodBytes (x : PeriodRecord) : List Byte :=
  b4 x.endTime ++ b1 (yesNoCode x.isPartial) ++ b4 x.pulses ++ b4 x.reversePulses ++ b4 x.missingA ++ b4 x.missingB ++ b4 x.tMs
    ++ b4 x.kmilli ++ b4 x.q ++ b4 x.mf ++ b4 x.ctl ++ b4 x.cpl ++ b4 x.ccf ++ b4 x.csw ++ b8 x.ivInc ++ b8 x.gsvInc
    ++ b8 x.nsvInc ++ b8 x.revInc ++ beInt4 x.temp ++ b4 x.p ++ b4 x.bsw ++ b1 (selStatusCode x.tempStatus)
    ++ b1 (selStatusCode x.pressStatus) ++ b1 (selStatusCode x.bswStatus) ++ b4 x.flags.word ++ slotField x.destination
    ++ gradeByte x.grade

/-- The number of bytes of a last-period record, for the value bytes of an absent one. -/
def periodSize : Nat := 107

/-- The checker items in the order of R15. -/
def checkerBytes (c : Checker) : List Byte :=
  b1 (expectationCode c.expectation) ++ b1 (securityCode c.security) ++ b1 (setClearCode c.failed) ++ b4 c.windowPulses
    ++ b4 c.windowErrors ++ b4 c.windowLength ++ b4 c.errorLimit ++ b4 c.accepted ++ b4 c.reverse ++ b4 c.missingA
    ++ b4 c.missingB ++ b1 (setClearCode c.failureMark) ++ b4 c.offlinePulses

/-- The calculator items in the order of R41. -/
def calculatorBytes (k : Calculator) : List Byte :=
  b1 (runStateCode k.runState) ++ b4 k.kmilli ++ opt4 k.pendingK ++ b4 k.periodLength ++ b4 k.openLength ++ b4 k.elapsed
    ++ b4 k.rI ++ b4 k.rG ++ b4 k.rN ++ b4 k.rR ++ slotField k.target ++ b4 k.quiet
    ++ optField periodSize periodBytes k.lastPeriod

/-- A selection record in the order of R70. -/
def selRecordBytes (x : SelRecord) : List Byte :=
  optField 4 beInt4 x.lastValue ++ optField 1 (fun s => b1 (selStatusCode s)) x.lastStatus ++ b1 (supplyCode x.supply)
    ++ timerField x.holdTimer ++ b1 (setClearCode x.liveFailed)

/-- The state code of a report slot: EMPTY 0, FRESH 1, STALE 2 (R59). -/
def reportState (r : Option Report) : Nat :=
  match r with
  | none => 0
  | some x => if x.timer.isSome then 1 else 2

/-- A report slot in the order of R70; the items of an EMPTY slot are absent. -/
def reportBytes (r : Option Report) : List Byte :=
  b1 (reportState r) ++ optField 4 beInt4 (r.map (·.value)) ++ opt1 (r.map (fun x => healthCode x.health))
    ++ opt1 (r.map (fun x => yesNoCode x.clamped)) ++ opt4 (r.map (·.reportTime)) ++ timerField (r.bind (·.timer))

/-- One quantity of READ LIVE (R70). -/
def liveItemBytes (x : LiveItem) : List Byte :=
  selRecordBytes x.record ++ reportBytes x.slots.p1 ++ reportBytes x.slots.p2 ++ reportBytes x.slots.p3

/-- The live limits in the order of R70. -/
def limitsBytes (l : LiveLimits) (tolBsw : List Byte) : List Byte :=
  b4 l.staleness ++ b4 l.hold ++ b4 l.tolT ++ b4 l.tolP ++ tolBsw ++ b1 (portNumber l.preferred)

/-- RUN TOTALS (10.8). -/
def runTotalsBytes (r : Run) (st : RunState) (w : Width) (t : RunTotals) : List Byte :=
  b1 1 ++ b1 (runNumber r) ++ b1 (runStateCode st) ++ b1 (widthCode w) ++ b8 t.iv ++ b8 t.gsv ++ b8 t.nsv ++ b8 t.rev
    ++ b8 t.unIv ++ b8 t.unGsv ++ b8 t.unNsv ++ b8 t.periods ++ b8 t.offline

/-- PARCEL PROGRESS in the order of R83. DESIGN CHOICE (log entry 14): of the two rows of R83 with two values each, the target and
the remaining volume have a presence byte each, and the closing slot and its owing-run set one before both; R165 leaves it to a
reader whether a row or a value is the field. -/
def progressBytes (v : ProgressView) : List Byte :=
  slotField v.slot ++ b1 (currentCode v.current) ++ opt1 (v.kind.map formKindCode) ++ opt8 v.parcelNsv ++ opt8 v.target
    ++ optField 8 beInt8 v.remaining ++ b1 (permissiveCode v.driven) ++ b1 (setClearCode v.resumePending)
    ++ optField 2 (fun x => b1 x.1.val ++ b1 (runSetByte x.2)) v.closing

/-- The quiet periods and margins of a form, for READ SLOT. -/
def formNumbers (f : ControlForm) : Option (Nat × Nat × Nat × Nat) :=
  match f with
  | .normal _ _ target trim stop quiet _ _ => some (target, trim, stop, quiet)
  | .standing .. => none
  | .hold .. => none

/-- READ SLOT in the order of R95, the control form's fields in the order of 6.1. DESIGN CHOICE (log entry 14): the witness set of a
COMPLETE slot stands twice, as a field of the control form and again before the collected set, since R95 gives it 'as well'; R165's
'first lists' could be read as giving it once. -/
def slotBytes (x : RingSlot) : List Byte :=
  b1 (slotStateCode x.state) ++ portField x.reserver ++ opt1 (x.form.map (fun f => formKindCode (formKind f)))
    ++ opt4 (x.form.map formParcel) ++ optField 1 gradeByte (x.form.bind formGrade)
    ++ opt8 ((x.form.bind formNumbers).map (·.1)) ++ opt8 ((x.form.bind formNumbers).map (·.2.1))
    ++ opt8 ((x.form.bind formNumbers).map (·.2.2.1)) ++ opt4 ((x.form.bind formNumbers).map (·.2.2.2))
    ++ opt1 ((x.form.bind formWitness).map portSetByte) ++ opt1 ((x.form.bind formResume).map resumeCode)
    ++ opt4 x.openTime
    ++ opt1 (if x.state = .complete then (x.form.bind formWitness).map portSetByte else none)
    ++ opt1 (if x.state = .complete then some (portSetByte x.collected) else none)

/-- A portion entry of a ticket body: 73 bytes (10.8). -/
def entryBytes (e : TicketEntry) : List Byte :=
  b1 (runNumber e.run) ++ b4 e.periods ++ b8 e.pulses ++ b8 e.iv ++ b8 e.gsv ++ b8 e.nsv ++ b4 e.kUsed ++ beInt4 e.meanTemp
    ++ b4 e.meanP ++ b4 e.meanBsw ++ b4 e.meanMf ++ b4 e.meanCcf ++ b4 e.flags.word ++ b4 e.firstTime ++ b4 e.lastTime

/-- READ TICKET (10.8): 63 bytes and the entries. -/
def ticketBytes (i : SlotId) (f : ControlForm) (t : Ticket) (c : PortSet) : List Byte :=
  b1 i.val ++ b4 (formParcel f) ++ b1 (formKindCode (formKind f)) ++ b1 (((formGrade f).map (fun g => g.val + 1)).getD 0)
    ++ b8 ((formTarget f).getD 0) ++ b1 (portSetByte ((formWitness f).getD (.all false))) ++ b1 (portSetByte c)
    ++ b1 (closeReasonCode t.reason) ++ b4 t.openTime ++ b4 t.closeTime ++ b4 t.flags.word ++ b8 t.overrun ++ b8 t.iv
    ++ b8 t.gsv ++ b8 t.nsv ++ b1 t.portions.length ++ t.portions.flatMap entryBytes

/-- A selected value with its status (R140, R148). DESIGN CHOICE (log entry 14): in a pass record the value and its selection status
have a presence byte each; R165 could be read as giving a value with its status one. -/
def selectedField (x : Option Selected) : List Byte :=
  optField 4 beInt4 (x.map (·.value)) ++ opt1 (x.map (fun y => selStatusCode y.status))

/-- A pass record in the order of R140, with a presence byte for each of its fields that may be absent (log entry 14). -/
def passBytes (x : PassRecord) : List Byte :=
  b1 x.number ++ b1 (if x.abandoned.isSome then 1 else 0) ++ opt1 (x.abandoned.map abandonCode) ++ b4 x.endTime ++ opt8 x.tD
    ++ opt4 (x.inputs.map (·.n)) ++ opt8 (x.inputs.map (·.tP)) ++ selectedField (x.inputs.map (·.runTemp))
    ++ selectedField (x.inputs.map (·.runPress)) ++ selectedField (x.inputs.map (·.proverTemp))
    ++ selectedField (x.inputs.map (·.proverPress)) ++ optField 1 gradeByte (x.inputs.map (·.grade))
    ++ opt4 (x.inputs.map (·.kmilli)) ++ opt4 (x.figures.map (·.ns)) ++ opt8 (x.figures.map (·.ivm))
    ++ opt4 (x.figures.map (·.q)) ++ opt4 (x.figures.map (·.ctlM)) ++ opt4 (x.figures.map (·.cplM))
    ++ opt4 (x.figures.map (·.ccfM)) ++ opt4 (x.figures.map (·.ctlP)) ++ opt4 (x.figures.map (·.cplP))
    ++ opt4 (x.figures.map (·.ccfP)) ++ opt8 (x.figures.map (·.cpv)) ++ opt8 (x.figures.map (·.cmv))
    ++ opt4 (x.figures.bind (·.mfPass))

/-- A count of the result record: in the record NONE every field but the state is absent (R146). -/
def heldCount (x : ProveResult) (n : Nat) : Option Nat := if x.state = .none then none else some n

/-- The result record without its pass list, in the order of R147. DESIGN CHOICE (log entry 14): one presence byte stands before the
installation's two values, its flow and how it was made; R165 could be read as giving each its own. -/
def resultBytes (x : ProveResult) : List Byte :=
  b1 (proveStateCode x.state) ++ opt1 (x.reason.map proveReasonCode) ++ opt1 (x.setup.map (fun u => runNumber u.run))
    ++ opt1 (x.setup.map (fun u => portNumber u.port)) ++ opt4 (x.setup.map (·.n)) ++ opt4 (x.setup.map (·.maxAttempts))
    ++ opt4 (x.setup.map (·.tolerance)) ++ opt4 (x.setup.map (·.csp)) ++ opt4 (x.setup.map (·.startTime)) ++ opt4 x.endTime
    ++ opt4 (heldCount x x.attempts) ++ opt4 (heldCount x x.consecutive) ++ opt4 (heldCount x x.detectorErrors)
    ++ opt4 x.mf ++ opt4 x.q
    ++ opt4 (x.acceptance.bind (·.refMf)) ++ opt4 (x.acceptance.bind (·.deviation))
    ++ opt1 (x.acceptance.map (fun a => yesNoCode a.forced))
    ++ optField 5 (fun a => b4 a.flow ++ b1 (installCode a.how)) x.acceptance

/-- READ PROVE before its list of pass records (R148). -/
def proveHeadBytes (c : ProverConfig) (e : EngineState) (timer : Option Nat) (w : Option WorkingPass) (x : ProveResult) :
    List Byte :=
  b8 c.bpv ++ b4 c.timeout ++ b4 c.detectorLimit ++ b4 c.acceptLimit ++ b4 c.band ++ b1 (engineCode e) ++ timerField timer
    ++ opt8 (w.map (·.d1)) ++ opt8 (w.bind (·.first)) ++ opt8 (w.bind (·.d2)) ++ opt4 (w.map (·.n)) ++ resultBytes x
    ++ b1 x.passes.length

/-- As many whole records as fit in the bytes left (R148). -/
def fitRecords : Nat → List PassRecord → List PassRecord
  | _, [] => []
  | room, x :: rest => if (passBytes x).length ≤ room then x :: fitRecords (room - (passBytes x).length) rest else []

/-- The page of pass records of a READ PROVE: those from the first pass number, in pass order, as many as the body holds
(R148). -/
def provePage (s : State) (first : Nat) : List PassRecord :=
  let x := s.prove.result
  let head := proveHeadBytes s.prove.config s.prove.engine s.prove.passTimer s.prove.working x
  fitRecords (Config.maxBody - head.length - 1) (x.passes.filter (fun r => decide (first ≤ r.number)))

/-- READ_PROVE (R148): request kind 29. -/
def execReadProve (p : Port) (unit first : Nat) (s : State) : Host.Outcome State Fault Refusal :=
  serve p 29 (namedUnits unit) (fun s =>
    unitProver unit s <|
      if within 1 20 first then
        ⟨s, .ok, .prove { config := s.prove.config, engine := s.prove.engine, passTimer := s.prove.passTimer,
                          working := s.prove.working, result := s.prove.result, page := provePage s first }⟩
      else refuse s .range) s

/-- One kind of a notice set: pending, then its qualifier set (R167). -/
def noticeBytes (n : Notice) : List Byte := b1 (yesNoCode n.pending) ++ b1 n.quals.toNat

/-- A notice set in the order of the codes. -/
def noticeSetBytes (n : NoticeSet) : List Byte := noticeKinds.flatMap (fun k => noticeBytes (n.get k))

/-- The body of a response (R165, 10.8). DESIGN CHOICE (log entry 12): the claim records of a NOT_HOLDER body, of which START PROVE may
give two, are joined with no count byte before them; R165 could be read as making them a list with its count. -/
def bodyBytes : Body → List Byte
  | .empty => []
  | .claims vs => vs.flatMap claimBytes
  | .waiting n v => b1 n ++ claimBytes v
  | .run c k t p b claim proving =>
    checkerBytes c ++ calculatorBytes k ++ selRecordBytes t ++ selRecordBytes p ++ selRecordBytes b ++ claimBytes claim
      ++ b1 (yesNoCode proving)
  | .curve pts => b1 pts.length ++ pts.flatMap (fun x => b4 x.flow ++ b4 x.mf ++ b1 (yesNoCode x.enabled))
  | .grade g inUse =>
    b4 g.f ++ b4 g.bsw ++ b1 g.table.length ++ g.table.flatMap (fun x => beInt4 x.temp ++ b4 x.ctl) ++ b1 (yesNoCode inUse)
  | .runLive l =>
    liveItemBytes l.temp ++ liveItemBytes l.press ++ liveItemBytes l.bsw ++ limitsBytes l.limits (b4 l.tolBsw)
  | .proverLive l => liveItemBytes l.temp ++ liveItemBytes l.press ++ limitsBytes l.limits []
  | .runTotals r st w t => runTotalsBytes r st w t
  | .stationTotals iv gsv nsv rev time low w =>
    b8 iv ++ b8 gsv ++ b8 nsv ++ b8 rev ++ b4 time ++ b1 (yesNoCode low) ++ b1 (widthCode w)
  | .lastPeriod x => optField periodSize periodBytes x
  | .progress v => progressBytes v
  | .slotNumber i => b1 i.val
  | .slot x => slotBytes x
  | .ticket i f t c => ticketBytes i f t c
  | .prove v =>
    proveHeadBytes v.config v.engine v.passTimer v.working v.result ++ b1 v.page.length ++ v.page.flatMap passBytes
  | .notices n m w => noticeSetBytes n ++ b2 m.toNat ++ b1 (widthCode w)
  | .noticesLeft n => noticeSetBytes n

/-- The response frame (10.2). -/
def responseFrame (r : Response) : List Byte :=
  withCrc (b1 (statusCode r.status) ++ b1 r.kind ++ b2 (bodyBytes r.body).length ++ bodyBytes r.body)

/-- The station clocks the response frame out and the buffer becomes empty (R163); an empty buffer answers not-ready. -/
def readOut (p : Port) (s : State) : State :=
  match (s.link p).response with
  | none => s
  | some r => s.setLink p { s.link p with response := none, readout := responseFrame r }

/-- RESPONSE_READOUT (R163). -/
def execResponseReadout (p : Port) (s : State) : Host.Outcome State Fault Refusal := event (readOut p) s

end Sys2Proof.Machine
end

