-- ==== Sys2Proof/Machine/Pulse.lean ====
section
/-! DEFINITION. The Pulse Checker: classification, the period counts, the security window, offline edges (chapter 1). -/

namespace Sys2Proof.Machine

/-- What a classified edge counts (R2). -/
inductive EdgeItem where
  | nothing | forward | forwardMissingA | forwardMissingB | reversePulse
deriving DecidableEq, Repr

/-- The classification of a rising edge: what it counts and the expectation after it (R2). -/
def classify (c : Channel) (otherHigh : Bool) (e : Expectation) : EdgeItem × Expectation :=
  match c, otherHigh, e with
  | .a, false, .aNext => (.forward, .bNext)
  | .a, false, .either => (.forward, .bNext)
  | .a, false, .bNext => (.forwardMissingB, .bNext)
  | .b, true, .bNext => (.nothing, .aNext)
  | .b, true, .either => (.nothing, .aNext)
  | .b, true, .aNext => (.forwardMissingA, .aNext)
  | .a, true, _ => (.reversePulse, .either)
  | .b, false, _ => (.nothing, .either)

/-- An accepted forward pulse in the period and in the window (R5, R7). -/
def Checker.pulse (c : Checker) : Checker :=
  let c1 := { c with accepted := countUp c.accepted Config.maxAccepted }
  if c.windowLength ≤ c.windowPulses + 1 then { c1 with windowPulses := 0, windowErrors := 0 }
  else { c1 with windowPulses := c.windowPulses + 1 }

/-- A missing event in the period and in the window, before the test of R8 (R5, R7). -/
def Checker.missing (c : Checker) (ch : Channel) : Checker :=
  let c1 := { c with windowErrors := c.windowErrors + 1 }
  match ch with
  | .a => { c1 with missingA := countUp c.missingA Config.maxChannel }
  | .b => { c1 with missingB := countUp c.missingB Config.maxChannel }

/-- The window error count has come to E with the latch clear (R8). -/
def Checker.latches (c : Checker) : Bool := !c.failed && decide (c.windowErrors = c.errorLimit)

/-- The FAILED latch and the period failure mark are set (R8). -/
def Checker.latch (c : Checker) : Checker := { c with failed := true, failureMark := true }

/-- An accepted forward pulse, counted and handed (R5, R7, R10). -/
def countPulse (r : Run) (s : State) : State := hand r .pulse (s.setChecker r (s.checker r).pulse)

/-- A missing event, counted, tested and handed; the setting of the latch is handed after it (R7, R8, R10). -/
def countMissing (r : Run) (ch : Channel) (s : State) : State :=
  let c := (s.checker r).missing ch
  if c.latches then
    hand r .latchSet (hand r .missing ((s.setChecker r c.latch).postAll .runFault (unitBit (.run r))))
  else hand r .missing (s.setChecker r c)

/-- A reverse pulse, counted and handed; the first of a period posts REVERSE_FLOW (R4, R5, R10). -/
def countReverse (r : Run) (s : State) : State :=
  let c := s.checker r
  let s1 := s.setChecker r { c with reverse := countUp c.reverse Config.maxChannel }
  hand r .reverse (if c.reverse = 0 then s1.postAll .reverseFlow (unitBit (.run r)) else s1)

/-- What the classification counts, in the order of R7 and R10. -/
def countItem (r : Run) (i : EdgeItem) (s : State) : State :=
  match i with
  | .nothing => s
  | .forward => countPulse r s
  | .forwardMissingA => countPulse r (countMissing r .a s)
  | .forwardMissingB => countPulse r (countMissing r .b s)
  | .reversePulse => countReverse r s

/-- An edge of an ONLINE run (R2). -/
def onlineEdge (r : Run) (c : Channel) (otherHigh : Bool) (s : State) : State :=
  let cl := classify c otherHigh (s.checker r).expectation
  countItem r cl.1 (s.setChecker r { s.checker r with expectation := cl.2 })

/-- An edge of an OFFLINE run: an A edge is one offline pulse at the checker and at the bank (R11, R78). -/
def offlineEdge (r : Run) (c : Channel) (s : State) : State :=
  match c with
  | .b => s
  | .a =>
    let s1 := s.setChecker r { s.checker r with offlinePulses := countUp (s.checker r).offlinePulses Config.max32 }
    s1.setTotals r { s1.totals r with offline := addTotal (s1.totals r).offline 1 }

/-- RISING_EDGE. A rising edge at the run's Pulse Checker (R1, R2, R11). -/
def execRisingEdge (r : Run) (c : Channel) (otherHigh : Bool) (stamp : Nat) (s : State) :
    Host.Outcome State Fault Refusal :=
  event (fun s =>
    let s1 := s.comeTo stamp
    if (s1.calcOf r).runState = .online then onlineEdge r c otherHigh s1 else offlineEdge r c s1) s

/-- DETECTOR_ACTUATION. A detector event at the Prove Engine (R128, R131). -/
def execDetectorActuation (d : Detector) (stamp : Nat) (s : State) : Host.Outcome State Fault Refusal :=
  event (fun s => detectorEvent d (s.comeTo stamp)) s

/-- PASS_TIMER_EXPIRY. The pass is abandoned with TIMEOUT; after the pulse that ends it, taken first, it does
not (R134). -/
def execPassTimerExpiry (s : State) : Host.Outcome State Fault Refusal :=
  event (fun s => if timerDue s.prove.passTimer && s.passInProgress then abandonPass .timeout s else s) s

end Sys2Proof.Machine
end

