-- ==== Sys2Proof/Machine/RunRequests.lean ====
section
/-! DEFINITION. The requests on a run: SET SERVICE, SET PERIOD, SET K-FACTOR, SET SECURITY, CLEAR RUN FAULT, READ RUN; and the
period timer's events (chapters 1 and 2). -/

namespace Sys2Proof.Machine

/-- A run goes ONLINE (R19, R12). -/
def goOnline (r : Run) (s : State) : State :=
  let k := s.calcOf r
  let c := s.checker r
  (s.setCalc r { k with
      runState := .online, openLength := k.periodLength, elapsed := 0, target := s.offeredTarget, quiet := 0 }).setChecker r
    { c with
      expectation := .either, accepted := 0, reverse := 0, missingA := 0, missingB := 0, failureMark := c.failed }

/-- Step 2 of R20: the portion of a run that owes the closing parcel closes. -/
def closeIfOwing (r : Run) (s : State) : State :=
  match s.ring.closing with
  | none => s
  | some c => if c.owing.get r then closePortion r s else s

/-- Steps 5 and 6 of R20, with the checker's part (R12). -/
def takeOffline (r : Run) (s : State) : State :=
  (s.setCalc r { s.calcOf r with target := none, runState := .offline }).setChecker r
    { s.checker r with offlinePulses := 0 }

/-- A run goes OFFLINE (R20): an arrival still waiting at the engine is taken first, and the delivery of the partial period before
steps 2 to 6 (R36), at the bank as at the engine (R34), so that an OFFLINE run's totals hold all its periods (R80). -/
def goOffline (r : Run) (s : State) : State :=
  let s1 := takeAtEngine r s
  let s2 := takeArrivals r (closePeriod r (s1.calcOf r).elapsed false s1)
  let s3 := closeIfOwing r s2
  let s4 := abortIf (s3.provingRun r) .offline s3
  takeOffline r (applyPendingK r s4)

/-- SET_SERVICE (R18): request kind 1. -/
def execSetService (p : Port) (unit service : Nat) (s : State) : Host.Outcome State Fault Refusal :=
  serve p 1 (namedUnits unit) (fun s =>
    withRun unit s fun r =>
      asHolder p (.run r) s <|
        match serviceOf service with
        | none => refuse s .range
        | some v =>
          if (s.calcOf r).runState = v then okReply s
          else
            match v with
            | .online => if hasEnabled (s.curve r) then okReply (goOnline r s) else refuse s .noCurve
            | .offline => okReply (goOffline r s)) s

/-- SET_PERIOD (R23): request kind 2. -/
def execSetPeriod (p : Port) (unit length : Nat) (s : State) : Host.Outcome State Fault Refusal :=
  serve p 2 (namedUnits unit) (fun s =>
    withRun unit s fun r =>
      asHolder p (.run r) s <|
        if within 100 2000 length then okReply (s.setCalc r { s.calcOf r with periodLength := length })
        else refuse s .range) s

/-- The run has an open portion: its target is a slot that is CURRENT or CLOSING (R37). -/
def State.portionOpen (s : State) (r : Run) : Bool :=
  match (s.calcOf r).target with
  | none => false
  | some i => decide ((s.slot i).state = .current) || decide ((s.slot i).state = .closing)

/-- A K-factor in range takes the place of the pending one while the run has an open portion, and is applied at once while it
has none (R37). -/
def putKFactor (r : Run) (k : Nat) (s : State) : Reply :=
  if s.portionOpen r then ⟨s.setCalc r { s.calcOf r with pendingK := some k }, .okPending, .empty⟩
  else okReply (s.setCalc r ((s.calcOf r).applyK k))

/-- SET_K_FACTOR (R37): request kind 3. A request that passes its checks finds the run's arrival taken at the engine first, since a
portion that this arrival closes would otherwise apply the new pending value to the period open now, in which it was set
(log entry 5). -/
def execSetKFactor (p : Port) (unit k : Nat) (s : State) : Host.Outcome State Fault Refusal :=
  serve p 3 (namedUnits unit) (fun s =>
    withRun unit s fun r =>
      asHolder p (.run r) s <|
        if s.provingRun r then refuse s .proving
        else if within 1000 99999999 k then putKFactor r k (takeAtEngine r s)
        else refuse s .range) s

/-- SET_SECURITY (R13): request kind 4. -/
def execSetSecurity (p : Port) (unit window limit : Nat) (s : State) : Host.Outcome State Fault Refusal :=
  serve p 4 (namedUnits unit) (fun s =>
    withRun unit s fun r =>
      asHolder p (.run r) s <|
        if within 100 1000000 window && within 1 1000 limit then
          okReply (s.setChecker r { s.checker r with
            windowLength := window, errorLimit := limit, windowPulses := 0, windowErrors := 0 })
        else refuse s .range) s

/-- The LIVE_FAILED latch of a record cleared (R69). -/
def LiveItem.clearLatch (x : LiveItem) : LiveItem := { x with record := { x.record with liveFailed := false } }

/-- The LIVE_FAILED latches of a run's three records cleared (R69). -/
def clearLiveLatches (r : Run) (s : State) : State :=
  let x := s.live.runs.get r
  let y := { x with temp := x.temp.clearLatch, press := x.press.clearLatch, bsw := x.bsw.clearLatch }
  { s with live := { s.live with runs := s.live.runs.set r y } }

/-- CLEAR_RUN_FAULT (R14): request kind 5. -/
def execClearRunFault (p : Port) (unit : Nat) (s : State) : Host.Outcome State Fault Refusal :=
  serve p 5 (namedUnits unit) (fun s =>
    withRun unit s fun r =>
      asHolder p (.run r) s <|
        okReply (clearLiveLatches r (s.setChecker r { s.checker r with
          failed := false, windowPulses := 0, windowErrors := 0 }))) s

/-- READ_RUN (R173): request kind 6. -/
def execReadRun (p : Port) (unit : Nat) (s : State) : Host.Outcome State Fault Refusal :=
  serve p 6 (namedUnits unit) (fun s =>
    withRun unit s fun r =>
      ⟨s, .ok, .run (s.checker r) (s.calcOf r) (s.liveItem (.run r .temp)).record (s.liveItem (.run r .press)).record
        (s.liveItem (.run r .bsw)).record (s.claimView (.run r)) (s.provingRun r)⟩) s

/-- The period of an ONLINE run expires (R21): its earlier arrival is taken at the engine before the close (R36). -/
def expirePeriod (r : Run) (s : State) : State :=
  let s1 := takeAtEngine r s
  openPeriod r (closePeriod r (s1.calcOf r).openLength false s1)

/-- The next millisecond brings the elapsed ms to the open period length (R21, log entry 4). -/
def Calculator.inLastMs (k : Calculator) : Bool := decide (k.openLength ≤ k.elapsed + 1)

/-- PERIOD_EXPIRY (R21): the millisecond in which the elapsed ms of an ONLINE run reaches the open period length; before it, and
while the run is OFFLINE, no period expires. -/
def execPeriodExpiry (r : Run) (s : State) : Host.Outcome State Fault Refusal :=
  event (fun s => if (s.calcOf r).runState = .online ∧ (s.calcOf r).inLastMs then expirePeriod r s else s) s

/-- PERIOD_TIMER_ADVANCE (R21): the millisecond that reaches the open period length is PERIOD_EXPIRY's own (R84). -/
def execPeriodTimerAdvance (r : Run) (s : State) : Host.Outcome State Fault Refusal :=
  event (fun s =>
    let k := s.calcOf r
    if k.runState = .online ∧ !k.inLastMs then s.setCalc r { k with elapsed := k.elapsed + 1 } else s) s

/-- INCREMENT_ARRIVAL_AT_BANK (R76). -/
def execIncrementArrivalAtBank (r : Run) (s : State) : Host.Outcome State Fault Refusal := event (takeAtBank r) s

/-- INCREMENT_ARRIVAL_AT_ENGINE (R100). -/
def execIncrementArrivalAtEngine (r : Run) (s : State) : Host.Outcome State Fault Refusal := event (takeAtEngine r) s

end Sys2Proof.Machine
end

