-- ==== Sys2Proof/Machine/Start.lean ====
section
/-! DEFINITION. Loss of supply, the retention supply, and the start of the part: the check of the retained domain, the cold
initialization and the restart (5.4, 5.5 and the restart rules of every chapter). -/

namespace Sys2Proof.Machine

/-- The restart partial period of an ONLINE run (R40): the open period closes with the retained elapsed ms, flagged
RESTART_PERIOD, and a new period begins. -/
def restartPeriod (s : State) (r : Run) : State :=
  if (s.calcOf r).runState = .online then openPeriod r (closePeriod r (s.calcOf r).elapsed true s) else s

/-- The parcel engine's resume pending at a restart (R108). -/
def resumeAtRestart (s : State) : State :=
  match s.parcelOpen, (s.currentSlot.bind (fun i => (s.slot i).form)).bind formResume with
  | true, some .manual => { s with ring := { s.ring with resumePending := true } }
  | true, some .auto => { s with ring := { s.ring with resumePending := false } }
  | _, _ => s

/-- The restart values of the blocks, each from its retained items (R17, R40, R72, R108, R146, R162, R169, R170). -/
def restartBlocks (s : State) : State :=
  resumeAtRestart { s with
    checkers := s.checkers.map (fun c => { c with expectation := .either })
    calcs := s.calcs.map (fun k => { k with lastPeriod := none, quiet := 0 })
    live := s.live.restart
    ring := { s.ring with watch := false }
    clockWait := none
    prove := { s.prove with engine := .idle, timebase := 0, passTimer := none, working := none }
    claims := s.claims.map (fun c => { holder := none, waiting := [], holdTime := c.holdTime, timer := none })
    links := .all (.started { restarted := { pending := true } }) }

/-- A RUNNING prove becomes ABORTED with RESTART, and PROVE_END is posted after RESTARTED (R146). -/
def abortAtRestart (s : State) : State :=
  if s.proveRunning then
    (s.setResult { s.prove.result with
      state := .aborted, reason := some .restart, endTime := some s.terminalTime }).postAll .proveEnd 0
  else s

/-- A restart (R87, R89): the blocks take their restart values, then the ONLINE runs close their restart partial periods,
whose arrivals the bank and the engine then take as any arrivals. -/
def restart (s : State) : State := runs.foldl restartPeriod (abortAtRestart (restartBlocks s))

/-- The check of the retained domain passes: lapse latch clear and check word matching (R87). -/
def retainedValid (memoryIntact : Bool) (s : State) : Bool :=
  !s.retention.lapse && (memoryIntact && s.retention.checkMatches)

/-- The start of the part: the check, then a restart or a cold initialization (R87). A start by the reset input finds the part
supplied, and a period close with its arrivals is whole (R84). -/
def startPart (memoryIntact : Bool) (s : State) : State :=
  if retainedValid memoryIntact s then
    let s1 := settleArrivals s
    restart { s1 with retention := { s1.retention with supplied := true, lapse := false } }
  else coldInitialize s

/-- PART_START (R87). The reset input does nothing to a part without supply. DESIGN CHOICE (log entry 11): a power-up of a part that
has supply already starts it as the reset input does; the manual speaks of no such power-up. -/
def execPartStart (cause : StartCause) (memoryIntact : Bool) (s : State) : Host.Outcome State Fault Refusal :=
  match cause with
  | .powerUp => .next (startPart memoryIntact s)
  | .resetInput => event (startPart memoryIntact) s

/-- The memory is left without a holding supply: the lapse latch is set, and whether the check word still matches is free
(R86, 5.8). -/
def lapseMemory (s : State) : State :=
  { s with
    retention := { s.retention with lapse := true, checkMatches := Config.decayedMatch s.freeCount }
    freeCount := s.freeCount + 1 }

/-- LOSS_OF_SUPPLY (R84): the retained domain holds the last whole event, the arrivals of a closed period included, and the
outputs are released. A battery below its holding level lets the memory lapse (R86). -/
def execLossOfSupply (s : State) : Host.Outcome State Fault Refusal :=
  event (fun s =>
    let s1 := settleArrivals s
    let s2 := { s1 with retention := { s1.retention with supplied := false } }
    if s.retention.battery = .lapsed then lapseMemory s2 else s2) s

/-- RETENTION_SUPPLY_CHANGE (R86): the supply state follows the battery; the lapse latch is set when the holding level is lost
while the part is without supply. -/
def execRetentionSupplyChange (level : BatteryLevel) (s : State) : Host.Outcome State Fault Refusal :=
  let s1 := { s with retention := { s.retention with battery := level } }
  .next (if s.retention.supplied = false ∧ level = .lapsed then lapseMemory s1 else s1)

end Sys2Proof.Machine
end

