-- ==== Sys2Proof/Machine/TableRequests.lean ====
section
/-! DEFINITION. The requests on curves and grades: ADD POINT, CHANGE POINT, REMOVE POINT, READ CURVE, LOAD GRADE, READ GRADE
(chapter 3). -/

namespace Sys2Proof.Machine

/-- ADD_POINT (R47): request kind 7. -/
def execAddPoint (p : Port) (unit flow mf enabled : Nat) (s : State) : Host.Outcome State Fault Refusal :=
  serve p 7 (namedUnits unit) (fun s =>
    withRun unit s fun r =>
      asHolder p (.run r) s <|
        if s.provingRun r then refuse s .proving
        else
          match yesNoOf enabled with
          | none => refuse s .range
          | some e =>
            if !(flowOk flow && mfOk mf) then refuse s .range
            else if hasFlow (s.curve r) flow then refuse s .duplicate
            else if Config.curveSize ≤ (s.curve r).length then refuse s .curveFull
            else okReply (s.setCurve r (insertPoint ⟨flow, mf, e⟩ (s.curve r)))) s

/-- CHANGE_POINT (R48): request kind 8. -/
def execChangePoint (p : Port) (unit flow mf enabled : Nat) (s : State) : Host.Outcome State Fault Refusal :=
  serve p 8 (namedUnits unit) (fun s =>
    withRun unit s fun r =>
      asHolder p (.run r) s <|
        if s.provingRun r then refuse s .proving
        else
          match yesNoOf enabled with
          | none => refuse s .range
          | some e =>
            if !mfOk mf then refuse s .range
            else if !hasFlow (s.curve r) flow then refuse s .notFound
            else if (s.calcOf r).runState = .online ∧ onlyEnabled (s.curve r) flow = true ∧ e = false then
              refuse s .noCurve
            else okReply (s.setCurve r (replacePoint flow mf e (s.curve r)))) s

/-- REMOVE_POINT (R49): request kind 9. -/
def execRemovePoint (p : Port) (unit flow : Nat) (s : State) : Host.Outcome State Fault Refusal :=
  serve p 9 (namedUnits unit) (fun s =>
    withRun unit s fun r =>
      asHolder p (.run r) s <|
        if s.provingRun r then refuse s .proving
        else if !hasFlow (s.curve r) flow then refuse s .notFound
        else if (s.calcOf r).runState = .online ∧ onlyEnabled (s.curve r) flow = true then refuse s .noCurve
        else okReply (s.setCurve r (removePointOf flow (s.curve r)))) s

/-- READ_CURVE (R51): request kind 10. -/
def execReadCurve (p : Port) (unit : Nat) (s : State) : Host.Outcome State Fault Refusal :=
  serve p 10 (namedUnits unit) (fun s => withRun unit s fun r => ⟨s, .ok, .curve (s.curve r)⟩) s

/-- LOAD_GRADE (R53): request kind 11. -/
def execLoadGrade (p : Port) (unit grade f bsw : Nat) (points : List RawPoint) (s : State) :
    Host.Outcome State Fault Refusal :=
  serve p 11 [] (fun s =>
    unitZero unit s <|
      match gradeOf grade with
      | none => refuse s .range
      | some g =>
        if !gradeRecordOk f bsw points then refuse s .range
        else if !ascending points then refuse s .order
        else if s.gradeInUse g then refuse s .inUse
        else okReply (s.setGrade g { f := f, bsw := bsw, table := points.map (fun x => ⟨x.temp, x.ctl⟩) })) s

/-- READ_GRADE (R55): request kind 12. -/
def execReadGrade (p : Port) (unit grade : Nat) (s : State) : Host.Outcome State Fault Refusal :=
  serve p 12 [] (fun s =>
    unitZero unit s <|
      match gradeOf grade with
      | none => refuse s .range
      | some g => ⟨s, .ok, .grade (s.grade g) (s.gradeInUse g)⟩) s

end Sys2Proof.Machine
end

