-- ==== Sys2Proof/Machine/Frame.lean ====
section
/-! DEFINITION. A frame as its bytes arrive at a Station Link Interface: the refusals of R164, and the handing on of a frame
that passes them. -/

namespace Sys2Proof.Machine

/-- A frame that passes the interface's checks is handed to the owning block (R163). No frame carries an event. -/
def handOn (i : Instr) (s : State) : Host.Outcome State Fault Refusal :=
  match i with
  | .setService p u v => execSetService p u v s
  | .setPeriod p u l => execSetPeriod p u l s
  | .setKFactor p u k => execSetKFactor p u k s
  | .setSecurity p u w e => execSetSecurity p u w e s
  | .clearRunFault p u => execClearRunFault p u s
  | .readRun p u => execReadRun p u s
  | .addPoint p u f m e => execAddPoint p u f m e s
  | .changePoint p u f m e => execChangePoint p u f m e s
  | .removePoint p u f => execRemovePoint p u f s
  | .readCurve p u => execReadCurve p u s
  | .loadGrade p u g f b pts => execLoadGrade p u g f b pts s
  | .readGrade p u g => execReadGrade p u g s
  | .reportLive p u q v h => execReportLive p u q v h s
  | .setLiveLimits p u st h t pr b pf => execSetLiveLimits p u st h t pr b pf s
  | .readLive p u => execReadLive p u s
  | .readTotals p u w g => execReadTotals p u w g s
  | .reserveSlot p u => execReserveSlot p u s
  | .writeSlot p u i f => execWriteSlot p u i f s
  | .armSlot p u i => execArmSlot p u i s
  | .cancelSlot p u i => execCancelSlot p u i s
  | .readSlot p u i => execReadSlot p u i s
  | .releaseHold p u => execReleaseHold p u s
  | .resumeLoading p u => execResumeLoading p u s
  | .cutParcel p u i => execCutParcel p u i s
  | .readTicket p u i => execReadTicket p u i s
  | .setProver p u b t d a m => execSetProver p u b t d a m s
  | .startProve p u n m t c => execStartProve p u n m t c s
  | .abortProve p u => execAbortProve p u s
  | .readProve p u f => execReadProve p u f s
  | .acceptProve p u force => execAcceptProve p u force s
  | .discardProve p u => execDiscardProve p u s
  | .claim p u h => execClaim p u h s
  | .release p u => execRelease p u s
  | .setPortMode p u w m => execSetPortMode p u w m s
  | .readNotices p u => execReadNotices p u s
  | .ackNotices p u m => execAckNotices p u m s
  | .stationClear p u => execStationClear p u s
  | .setTime p u t => execSetTime p u t s
  | .responseReadout _ => .next s
  | .risingEdge _ _ _ _ => .next s
  | .detectorActuation _ _ => .next s
  | .passTimerExpiry => .next s
  | .periodExpiry _ => .next s
  | .incrementArrivalAtBank _ => .next s
  | .incrementArrivalAtEngine _ => .next s
  | .freshnessTimerExpiry _ _ => .next s
  | .liveHoldTimerExpiry _ => .next s
  | .holdTimerExpiry _ => .next s
  | .terminalTimeAdvance => .next s
  | .partStart _ _ => .next s
  | .lossOfSupply => .next s
  | .retentionSupplyChange _ => .next s
  | .periodTimerAdvance _ => .next s
  | .refusedRequestFrame _ _ => .next s

/-- A response of the interface itself, without a body (R164). -/
def answer (p : Port) (status : Status) (kind : Nat) (s : State) : State :=
  s.respond p { status := status, kind := kind, body := .empty }

/-- REFUSED_REQUEST_FRAME (R164): the bytes of a frame from a port. One that a check refuses is answered by the interface and
changes nothing else; one that passes every check is not refused, and is handed on. -/
def execRefusedRequestFrame (p : Port) (frame : List Byte) (s : State) : Host.Outcome State Fault Refusal :=
  match decodeFrame p frame with
  | .frameError => event (answer p .frameError 0) s
  | .unknown kind => event (answer p .unknown kind) s
  | .range kind => event (answer p .range kind) s
  | .request i => handOn i s

end Sys2Proof.Machine
end

