-- ==== Sys2Proof/Machine/Dispatch.lean ====
section
/-! DEFINITION. The meaning of each command. -/

namespace Sys2Proof.Machine

def exec (i : Instr) (s : State) : Host.Outcome State Fault Refusal :=
  match i with
  | .setService p unit service => Sys2Proof.Machine.execSetService p unit service s
  | .setPeriod p unit length => Sys2Proof.Machine.execSetPeriod p unit length s
  | .setKFactor p unit k => Sys2Proof.Machine.execSetKFactor p unit k s
  | .setSecurity p unit window limit => Sys2Proof.Machine.execSetSecurity p unit window limit s
  | .clearRunFault p unit => Sys2Proof.Machine.execClearRunFault p unit s
  | .readRun p unit => Sys2Proof.Machine.execReadRun p unit s
  | .addPoint p unit flow mf enabled => Sys2Proof.Machine.execAddPoint p unit flow mf enabled s
  | .changePoint p unit flow mf enabled => Sys2Proof.Machine.execChangePoint p unit flow mf enabled s
  | .removePoint p unit flow => Sys2Proof.Machine.execRemovePoint p unit flow s
  | .readCurve p unit => Sys2Proof.Machine.execReadCurve p unit s
  | .loadGrade p unit grade f bsw points => Sys2Proof.Machine.execLoadGrade p unit grade f bsw points s
  | .readGrade p unit grade => Sys2Proof.Machine.execReadGrade p unit grade s
  | .reportLive p unit quantity value health => Sys2Proof.Machine.execReportLive p unit quantity value health s
  | .setLiveLimits p unit staleness hold tolT tolP tolBsw preferred => Sys2Proof.Machine.execSetLiveLimits p unit staleness hold tolT tolP tolBsw preferred s
  | .readLive p unit => Sys2Proof.Machine.execReadLive p unit s
  | .readTotals p unit override group => Sys2Proof.Machine.execReadTotals p unit override group s
  | .reserveSlot p unit => Sys2Proof.Machine.execReserveSlot p unit s
  | .writeSlot p unit slot form => Sys2Proof.Machine.execWriteSlot p unit slot form s
  | .armSlot p unit slot => Sys2Proof.Machine.execArmSlot p unit slot s
  | .cancelSlot p unit slot => Sys2Proof.Machine.execCancelSlot p unit slot s
  | .readSlot p unit slot => Sys2Proof.Machine.execReadSlot p unit slot s
  | .releaseHold p unit => Sys2Proof.Machine.execReleaseHold p unit s
  | .resumeLoading p unit => Sys2Proof.Machine.execResumeLoading p unit s
  | .cutParcel p unit slot => Sys2Proof.Machine.execCutParcel p unit slot s
  | .readTicket p unit slot => Sys2Proof.Machine.execReadTicket p unit slot s
  | .setProver p unit bpv timeout detectorLimit acceptLimit band => Sys2Proof.Machine.execSetProver p unit bpv timeout detectorLimit acceptLimit band s
  | .startProve p unit n maxAttempts tolerance csp => Sys2Proof.Machine.execStartProve p unit n maxAttempts tolerance csp s
  | .abortProve p unit => Sys2Proof.Machine.execAbortProve p unit s
  | .readProve p unit first => Sys2Proof.Machine.execReadProve p unit first s
  | .acceptProve p unit force => Sys2Proof.Machine.execAcceptProve p unit force s
  | .discardProve p unit => Sys2Proof.Machine.execDiscardProve p unit s
  | .claim p unit hold => Sys2Proof.Machine.execClaim p unit hold s
  | .release p unit => Sys2Proof.Machine.execRelease p unit s
  | .setPortMode p unit width mask => Sys2Proof.Machine.execSetPortMode p unit width mask s
  | .readNotices p unit => Sys2Proof.Machine.execReadNotices p unit s
  | .ackNotices p unit mask => Sys2Proof.Machine.execAckNotices p unit mask s
  | .stationClear p unit => Sys2Proof.Machine.execStationClear p unit s
  | .setTime p unit time => Sys2Proof.Machine.execSetTime p unit time s
  | .responseReadout p => Sys2Proof.Machine.execResponseReadout p s
  | .risingEdge r c otherHigh stamp => Sys2Proof.Machine.execRisingEdge r c otherHigh stamp s
  | .detectorActuation d stamp => Sys2Proof.Machine.execDetectorActuation d stamp s
  | .passTimerExpiry => Sys2Proof.Machine.execPassTimerExpiry s
  | .periodExpiry r => Sys2Proof.Machine.execPeriodExpiry r s
  | .incrementArrivalAtBank r => Sys2Proof.Machine.execIncrementArrivalAtBank r s
  | .incrementArrivalAtEngine r => Sys2Proof.Machine.execIncrementArrivalAtEngine r s
  | .freshnessTimerExpiry l p => Sys2Proof.Machine.execFreshnessTimerExpiry l p s
  | .liveHoldTimerExpiry l => Sys2Proof.Machine.execLiveHoldTimerExpiry l s
  | .holdTimerExpiry u => Sys2Proof.Machine.execHoldTimerExpiry u s
  | .terminalTimeAdvance => Sys2Proof.Machine.execTerminalTimeAdvance s
  | .partStart cause memoryIntact => Sys2Proof.Machine.execPartStart cause memoryIntact s
  | .lossOfSupply => Sys2Proof.Machine.execLossOfSupply s
  | .retentionSupplyChange level => Sys2Proof.Machine.execRetentionSupplyChange level s
  | .periodTimerAdvance r => Sys2Proof.Machine.execPeriodTimerAdvance r s
  | .refusedRequestFrame p frame => Sys2Proof.Machine.execRefusedRequestFrame p frame s

end Sys2Proof.Machine
end

