-- ==== Sys2Proof/Machine/Step.lean ====
section
/-! DEFINITION. One step: the command at the front of the queue, or one tick of the timebase. -/

namespace Sys2Proof.Machine

/-- With no command waiting, one tick of the 10 MHz timebase passes (R128): the timebase and every running timer move on. Without
supply nothing moves. -/
def idle (s : State) : State := if s.retention.supplied then s.elapse 1 else s

/-- The command at the front of the queue is taken and has its effect on the state with the queue's rest; an empty queue lets
a tick pass. -/
def step (s : State) : Host.Outcome State Fault Refusal :=
  match s.pending with
  | [] => .next (idle s)
  | c :: rest => exec c { s with pending := rest }

/-- The state with the command that a table word spells put in front of its queue; no row of the table has bits, so no word
spells one. -/
def State.withFetchWord (s : State) (nbits w : Nat) : State :=
  match decodeTableWord nbits w with
  | some c => { s with pending := c :: s.pending }
  | none => s

end Sys2Proof.Machine
end

