-- ==== Sys2Proof/Safety.lean ====
section
/-! DEFINITION. What a sound state of the part is, in the terms of the manual's own statements about the whole part, and the
words that statements about commands share. Every form here is meant to hold at reset and to be kept by every step. -/

namespace Sys2Proof.Machine

/-! ## Words for statements about requests -/

/-- The state in which a block takes a request of port `p`: the hold timers of the units it names are renewed (R155). -/
def renewed (p : Port) (us : List UnitId) (s : State) : State := us.foldl (renew p) s

/-- The state with this response standing in the port's buffer (R163). -/
def answered (p : Port) (status : Status) (kind : Nat) (body : Body) (s : State) : State :=
  s.respond p { status := status, kind := kind, body := body }

/-- The ten requests on a run that only its holder may have carried out (the first row of R154's table, less SET LIVE LIMITS,
which names any unit): the port, the unit field and the request kind. -/
def runConfiguration : Instr → Option (Port × Nat × Nat)
  | .setService p u _ => some (p, u, 1)
  | .setPeriod p u _ => some (p, u, 2)
  | .setKFactor p u _ => some (p, u, 3)
  | .setSecurity p u _ _ => some (p, u, 4)
  | .clearRunFault p u => some (p, u, 5)
  | .addPoint p u _ _ _ => some (p, u, 7)
  | .changePoint p u _ _ _ => some (p, u, 8)
  | .removePoint p u _ => some (p, u, 9)
  | .acceptProve p u _ => some (p, u, 30)
  | .discardProve p u => some (p, u, 31)
  | _ => none

/-- The two commands that act on a part without supply: its power-up (R87) and a change of its battery (R86). -/
def actsUnsupplied : Instr → Bool
  | .partStart .powerUp _ => true
  | .retentionSupplyChange _ => true
  | _ => false

/-- A claim record after a refusal of port `p` (R154): the port joins the list of a unit that another port holds, unless it is
on it. -/
def Claim.refusing (c : Claim) (p : Port) : Claim :=
  if c.holder = none ∨ c.holder = some p ∨ p ∈ c.waiting then c else { c with waiting := c.waiting ++ [p] }

/-- A claim record as the stations see it (R161). -/
def Claim.seen (c : Claim) (inProve : Bool) : ClaimView :=
  { holder := c.holder, waiting := c.waiting, holdTime := c.holdTime, timer := c.timer, inProve := inProve }

/-! ## Words for statements about passes, portions and arrivals -/

/-- The pass in progress in `s` stands in `t` as the last record, abandoned with this reason before its end (R140). -/
def PassAbandoned (reason : AbandonReason) (s t : State) : Prop :=
  t.prove.result.passes = s.prove.result.passes ++ [{
    number := s.prove.result.attempts, abandoned := some reason, endTime := s.terminalTime,
    tD := s.prove.working.bind (fun w => w.d2.map (fun d => d - w.d1)), inputs := none, figures := none }]

/-- What follows an abandoned pass (R141): the consecutive count is 0, no pass is in progress, and the prove goes on in AWAIT_D1
or, at its last attempt, has ended FAILED with REPEATABILITY. -/
def GoesOnOrFails (u : ProveSetup) (s t : State) : Prop :=
  t.prove.result.consecutive = 0 ∧ t.prove.working = none ∧ t.prove.passTimer = none
    ∧ (s.prove.result.attempts < u.maxAttempts → t.prove.engine = .awaitD1 ∧ t.prove.result.state = s.prove.result.state)
    ∧ (u.maxAttempts ≤ s.prove.result.attempts →
        t.prove.engine = .idle ∧ t.prove.result.state = .failed ∧ t.prove.result.reason = some .repeatability)

/-- The flags that a portion and a ticket take as they are from a period and from the portions (R112, R120): those of R32. -/
def periodFlags : List (Flags → Bool) :=
  [(·.pulseFailed), (·.curveClamp), (·.tableClamp), (·.restartPeriod),
    (·.temp.held), (·.temp.failed), (·.temp.disagree), (·.temp.dflt), (·.press.held), (·.press.failed), (·.press.disagree),
    (·.press.dflt), (·.bsw.held), (·.bsw.failed), (·.bsw.disagree), (·.bsw.dflt)]

/-- The commands that take every arrival still waiting, run 1 to run 4, at the engine and at the bank. -/
def arrivalsOf (s : State) : List Instr :=
  runs.flatMap (fun r =>
    .incrementArrivalAtEngine r :: List.replicate (s.toBank.get r).length (.incrementArrivalAtBank r))

/-- The state that these commands leave, one after the other, where each has a next state. -/
def afterCommands : List Instr → State → Option State
  | [], s => some s
  | c :: cs, s =>
    match exec c s with
    | .next t => afterCommands cs t
    | .fault _ => none
    | .refused _ => none

/-! ## Chapter 1 -/

/-- A checker within the ranges of 1.1: the errors of a window come with its pulses, a clear latch has an error count below E
(R8), and a set latch marks the open period (R6). -/
structure Checker.Sound (c : Checker) : Prop where
  accepted : c.accepted ≤ 80000
  reverse : c.reverse ≤ 40000
  missingA : c.missingA ≤ 40000
  missingB : c.missingB ≤ 40000
  window : 100 ≤ c.windowLength ∧ c.windowLength ≤ 1000000
  limit : 1 ≤ c.errorLimit ∧ c.errorLimit ≤ 1000
  pulses : c.windowPulses < c.windowLength
  errors : c.windowErrors ≤ c.windowPulses
  latch : c.failed = false → c.windowErrors < c.errorLimit
  mark : c.failed = true → c.failureMark = true
  offline : c.offlinePulses ≤ 4294967295

def State.CheckersSound (s : State) : Prop := ∀ r, (s.checker r).Sound

/-! ## Chapter 2 -/

/-- A calculator within the ranges of 2.1: each residue stays below its divisor (R25, R29, R30, R31, R38). -/
structure Calculator.Sound (k : Calculator) : Prop where
  kmilli : 1000 ≤ k.kmilli ∧ k.kmilli ≤ 99999999
  pendingK : ∀ x, k.pendingK = some x → 1000 ≤ x ∧ x ≤ 99999999
  length : 100 ≤ k.periodLength ∧ k.periodLength ≤ 2000
  openLength : 100 ≤ k.openLength ∧ k.openLength ≤ 2000
  elapsed : k.elapsed < k.openLength
  rI : k.rI < k.kmilli
  rR : k.rR < k.kmilli
  rG : k.rG < 1000000
  rN : k.rN < 1000000
  quiet : k.quiet ≤ 65535

def State.CalculatorsSound (s : State) : Prop := ∀ r, (s.calcOf r).Sound

/-! ## Chapter 3 -/

/-- The points of a curve stand in strictly ascending flow, at most eight of them (R42). -/
def CurveSound (c : List CurvePoint) : Prop := (c.map (·.flow)).Pairwise (· < ·) ∧ c.length ≤ 8

/-- A grade record as R52 lets one be: F and BSW in range, one to twelve points in strictly ascending temperature, each within
its range. -/
def Grade.Sound (g : Grade) : Prop :=
  g.f ≤ 2000 ∧ g.bsw ≤ 100000 ∧ 1 ≤ g.table.length ∧ g.table.length ≤ 12
    ∧ (g.table.map (·.temp)).Pairwise (· < ·)
    ∧ ∀ x ∈ g.table, -2000 ≤ x.temp ∧ x.temp ≤ 12000 ∧ 900000 ≤ x.ctl ∧ x.ctl ≤ 1100000

/-- The Table Store: every curve and every grade as R42 and R52 say, and an enabled point on the curve of every ONLINE run
(R26, R43). -/
structure State.TablesSound (s : State) : Prop where
  curves : ∀ r, CurveSound (s.curve r)
  grades : ∀ g, (s.grade g).Sound
  online : ∀ r, (s.calcOf r).runState = .online → ∃ x ∈ s.curve r, x.enabled = true

/-! ## Chapter 4 -/

/-- The supply state follows F, HOLDING is the live hold timer's running, and every stored value is within its quantity's range
(R60, R62, R64). -/
structure LiveItem.Sound (x : LiveItem) (q : Quantity) : Prop where
  supplied : x.record.supply = .supplied ↔ x.f ≠ []
  holding : x.record.supply = .holding ↔ x.record.holdTimer.isSome = true
  values : ∀ p r, x.slots.get p = some r → (quantityRange q).1 ≤ r.value ∧ r.value ≤ (quantityRange q).2

def State.LiveSound (s : State) : Prop := ∀ l, (s.liveItem l).Sound (liveQuantity l)

/-! ## Chapter 5 -/

/-- The sum of a total over the four runs. -/
def Bank.sumOfRuns (b : Bank) (f : RunTotals → Nat) : Nat := f b.runs.r1 + f b.runs.r2 + f b.runs.r3 + f b.runs.r4

/-- Every total of a run is below 10¹² (R75). -/
def RunTotals.inRange (t : RunTotals) : Prop :=
  t.iv < 1000000000000 ∧ t.gsv < 1000000000000 ∧ t.nsv < 1000000000000 ∧ t.rev < 1000000000000
    ∧ t.unIv < 1000000000000 ∧ t.unGsv < 1000000000000 ∧ t.unNsv < 1000000000000
    ∧ t.periods < 1000000000000 ∧ t.offline < 1000000000000

/-- The bank: every total in range, and each station total the sum of the run totals modulo 10¹² (R75, R77). -/
structure Bank.Sound (b : Bank) : Prop where
  range : ∀ r, (b.runs.get r).inRange
  iv : b.iv = b.sumOfRuns (·.iv) % 1000000000000
  gsv : b.gsv = b.sumOfRuns (·.gsv) % 1000000000000
  nsv : b.nsv = b.sumOfRuns (·.nsv) % 1000000000000
  rev : b.rev = b.sumOfRuns (·.rev) % 1000000000000

/-! ## Chapters 6 and 7 -/

/-- The ring against the current state, the permissive level, the closing record and the targets of the runs (R96, R98, R99,
R101, R105, R115, R119), and each run's portion under its own run (R112). -/
structure State.RingSound (s : State) : Prop where
  oneCurrent : ∀ i j, (s.slot i).state = .current → (s.slot j).state = .current → i = j
  idle : s.ring.current = .idle ↔ ∀ i, (s.slot i).state ≠ .current
  held : ∀ i f, (s.slot i).state = .current → (s.slot i).form = some f →
    (s.ring.current = .held ↔ formKind f = .hold)
  topped : ∀ i f, (s.slot i).state = .current → (s.slot i).form = some f → s.ring.current = .topped →
    formKind f = .normal
  level : s.ring.current = .opened ↔ s.ring.level ≠ .stop
  closing : ∀ i, (s.slot i).state = .closing ↔ ∃ c, s.ring.closing = some c ∧ c.slot = i
  owing : ∀ c r, s.ring.closing = some c →
    (c.owing.get r = true ↔ (s.calcOf r).runState = .online ∧ (s.calcOf r).target = some c.slot)
  someOwe : ∀ c, s.ring.closing = some c → ∃ r, c.owing.get r = true
  targets : ∀ r i, (s.calcOf r).target = some i →
    (s.calcOf r).runState = .online
      ∧ ((s.slot i).state = .closing ∨ ((s.slot i).state = .current ∧ s.ring.current ≠ .held))
  taken : ∀ r, (s.calcOf r).runState = .online → s.parcelOpen = true → (s.calcOf r).target ≠ none
  portions : ∀ i r x, (s.slot i).portions.get r = some x → x.run = r

/-! ## Chapter 8 -/

/-- The Prove Engine against the result record (R130, R134, R140, R143): it is IDLE but while a prove is RUNNING, the pass timer
runs and a working pass is held during a pass alone, and the pass list counts the attempts. -/
structure Prove.Sound (x : Prove) : Prop where
  idle : x.engine = .idle ↔ x.result.state ≠ .running
  timer : x.passTimer.isSome = true ↔ (x.engine = .inPass ∨ x.engine = .awaitEnd)
  working : x.working.isSome = true ↔ (x.engine = .inPass ∨ x.engine = .awaitEnd)
  d2 : ∀ w, x.working = some w → (w.d2.isSome = true ↔ x.engine = .awaitEnd)
  attempts : x.result.state = .running → ∃ u, x.result.setup = some u ∧ u.maxAttempts ≤ 20
    ∧ x.result.attempts = x.result.passes.length + (if x.working.isSome then 1 else 0)
    ∧ x.result.attempts + (if x.engine = .awaitD1 then 1 else 0) ≤ u.maxAttempts
  passes : x.result.passes.length ≤ 20

/-! ## Chapter 9 -/

/-- A claim record as R152 says: a free unit has no waiter and no timer; the list of a held unit holds each port once and never
the holder; and its hold timer runs unless the unit is in a prove. -/
structure Claim.Sound (c : Claim) (inProve : Bool) : Prop where
  free : c.holder = none → c.waiting = [] ∧ c.timer = none
  held : ∀ p, c.holder = some p → c.waiting.Nodup ∧ p ∉ c.waiting ∧ (c.timer = none ↔ inProve = true)

/-- Every claim record is as R152 says, and a prove is RUNNING only while one port, the proving port, holds the prover and the
proved run, and that run is ONLINE (R145). -/
structure State.ClaimsSound (s : State) : Prop where
  claims : ∀ u, (s.claim u).Sound (s.inProve u)
  proving : s.proveRunning = true → ∃ u, s.prove.result.setup = some u
    ∧ (s.claim (.run u.run)).holder = some u.port ∧ (s.claim .prover).holder = some u.port
    ∧ (s.calcOf u.run).runState = .online

/-! ## Chapter 10 -/

/-- A kind that is not pending has an empty qualifier set (R166). -/
def State.NoticesSound (s : State) : Prop :=
  ∀ p k, ((s.link p).notices.get k).pending = false → ((s.link p).notices.get k).quals = 0

/-! ## The whole part -/

/-- A state of the part that every one of the manual's whole-part statements allows. -/
structure State.Sound (s : State) : Prop where
  checkers : s.CheckersSound
  calculators : s.CalculatorsSound
  tables : s.TablesSound
  live : s.LiveSound
  bank : s.bank.Sound
  ring : s.RingSound
  prove : s.prove.Sound
  claims : s.ClaimsSound
  notices : s.NoticesSound

end Sys2Proof.Machine
end

