-- ==== Sys2Proof/Certificates/Slice0/Obligations.lean ====
section
/-! DEFINITION. The statements for the provers. Where a request is carried out, the statement gives the whole next state, or the
part of it that the rules name together with what stays as it was; `renewed p us s` is the state in which the block takes the
request (R155), and `answered` puts the response in the port's buffer (R163). -/

open Sys2Proof Sys2Proof.Machine

/-! ## The queue, the step, supply -/

/-- A step takes the command at the front of the queue and runs it on the state with the queue's rest; with no command waiting,
the model lets one tick of the timebase pass (log entry 1). When ticks pass, the timebase goes up by them, each running timer of
pass, claim, report slot and selection record counts down by them and stands at one until its expiry is taken (log entry 2), a
stopped timer stays stopped, the second that a SET TIME began runs out (log entry 30), and nothing else changes; an event at a later reading is preceded by the ticks between (log entry
8). -/
def Obligations.StepTakesFrontCommand : Prop :=
  (∀ (c : Instr) (rest : List Instr) (s : State), s.pending = c :: rest → step s = exec c { s with pending := rest })
    ∧ (∀ s : State, s.pending = [] → step s = .next (if s.retention.supplied = true then s.elapse 1 else s))
    ∧ (∀ (n stamp : Nat) (s : State),
      let down (timer : Option Nat) : Option Nat := timer.map (fun left => max 1 (left - n))
      let t := s.elapse n
      t = { s with
          prove := { s.prove with timebase := s.prove.timebase + n, passTimer := down s.prove.passTimer }
          live := t.live, claims := t.claims, clockWait := t.clockWait }
        ∧ (∀ left, s.clockWait = some left → t.clockWait = if n < left then some (left - n) else none)
        ∧ (s.clockWait = none → t.clockWait = none)
        ∧ (∀ u, t.claim u = { s.claim u with timer := down (s.claim u).timer })
        ∧ (∀ l, (t.liveItem l).record = { (s.liveItem l).record with holdTimer := down (s.liveItem l).record.holdTimer }
            ∧ ∀ p, (t.liveItem l).slots.get p
              = ((s.liveItem l).slots.get p).map (fun x => { x with timer := down x.timer }))
        ∧ (∀ u, t.limits u = s.limits u) ∧ (∀ r, (t.live.runs.get r).tolBsw = (s.live.runs.get r).tolBsw)
        ∧ s.comeTo stamp = s.elapse (stamp - s.prove.timebase))

/-- Every command has a next state in every state, and none touches the queue. -/
def Obligations.EveryCommandGoesOn : Prop :=
  ∀ (c : Instr) (s : State), ∃ t, exec c s = .next t ∧ t.pending = s.pending

/-- Without supply only the power-up and the change of the battery act: no request is taken, no edge is seen, no timer expires
(log entry 11). -/
def Obligations.UnsuppliedPartIsInert : Prop :=
  ∀ (c : Instr) (s : State), s.retention.supplied = false → actsUnsupplied c = false → exec c s = .next s

/-! ## Frames (10.1, 10.2) -/

/-- Every well-formed request is read back from its own frame, in the field order and sizes of log entry 14. -/
def Obligations.RequestFramesRoundTrip : Prop :=
  ∀ (i : Instr) (p : Port) (frame : List Byte), i.wf = true → requestPort i = some p → encodeRequest i = some frame →
    decodeFrame p frame = .request i

/-- The checks of R164 in their order: each refusal leaves a response without a body and changes nothing else (bytes after the
CRC are dropped, log entry 15). -/
def Obligations.RefusedFrameIsAnsweredAlone : Prop :=
  ∀ (p : Port) (frame : List Byte) (s : State), s.retention.supplied = true →
    let len := fieldAt frame 3 2
    let kind := fieldAt frame 0 1
    let flags := fieldAt frame 2 1
    let whole := 5 ≤ frame.length ∧ len ≤ 512 ∧ 5 + len + 2 ≤ frame.length
    let sound := fieldAt frame (5 + len) 2 = crc (frame.take (5 + len))
    let turnedAway (st : Status) (k : Nat) : Prop :=
      exec (.refusedRequestFrame p frame) s = .next (answered p st k .empty s)
    (¬ whole → turnedAway .frameError 0)
      ∧ (whole → ¬ sound → turnedAway .frameError 0)
      ∧ (whole → sound → (kind = 0 ∨ 38 < kind) → turnedAway .unknown kind)
      ∧ (whole → sound → 1 ≤ kind → kind ≤ 38 → 4 ≤ flags → turnedAway .range kind)
      ∧ (whole → sound → 1 ≤ kind → kind ≤ 38 → flags < 4 →
          bodyLength kind (fieldAt frame 1 1) ((frame.drop 5).take len) ≠ some len → turnedAway .range kind)

/-- The response in the buffer is clocked out once, as its status, kind, body length, body and CRC; an empty buffer gives
nothing (the bytes stand in the model's own field readout, log entry 21). -/
def Obligations.ResponseIsReadOutOnce : Prop :=
  ∀ (p : Port) (s : State), s.retention.supplied = true →
    ((s.link p).response = none → exec (.responseReadout p) s = .next s)
      ∧ ∀ r, (s.link p).response = some r →
        let bytes := beBytes 1 (statusCode r.status) ++ beBytes 1 r.kind ++ beBytes 2 (bodyBytes r.body).length
          ++ bodyBytes r.body
        exec (.responseReadout p) s
          = .next (s.setLink p { s.link p with response := none, readout := bytes ++ beBytes 2 (crc bytes) })

/-! ## Chapter 1: edges -/

/-- Edges of an ONLINE run in phase and in reverse. Forward, the A edge is one accepted pulse of the period and of the window
and the B edge counts nothing; an A edge that finds B high is a reverse pulse, whose first in a period posts REVERSE_FLOW to
every port, and which the window does not see. On the run of a RUNNING prove a reverse pulse abandons the pass in progress with
REVERSE and is ignored in AWAIT_D1 (the part comes to the timebase reading that the event carries, log entry 8). -/
def Obligations.ClassifiedEdges : Prop :=
  (∀ (r : Run) (stamp : Nat) (s : State), s.retention.supplied = true → (s.calcOf r).runState = .online →
      s.provingRun r = false →
      let c := s.checker r
      let t := s.comeTo stamp
      let full := c.windowLength ≤ c.windowPulses + 1
      (c.expectation ≠ .bNext → exec (.risingEdge r .a false stamp) s = .next (t.setChecker r { c with
          expectation := .bNext
          accepted := if c.accepted < 80000 then c.accepted + 1 else c.accepted
          windowPulses := if full then 0 else c.windowPulses + 1
          windowErrors := if full then 0 else c.windowErrors }))
        ∧ (c.expectation ≠ .aNext →
            exec (.risingEdge r .b true stamp) s = .next (t.setChecker r { c with expectation := .aNext }))
        ∧ exec (.risingEdge r .b false stamp) s = .next (t.setChecker r { c with expectation := .either }))
  ∧ (∀ (r : Run) (stamp : Nat) (s : State), s.retention.supplied = true → (s.calcOf r).runState = .online →
      s.provingRun r = false →
      let c := s.checker r
      let t := if c.reverse = 0 then (s.comeTo stamp).postAll .reverseFlow (unitBit (.run r)) else s.comeTo stamp
      exec (.risingEdge r .a true stamp) s = .next (t.setChecker r { c with
        expectation := .either
        reverse := if c.reverse < 40000 then c.reverse + 1 else c.reverse }))
  ∧ (∀ (r : Run) (stamp : Nat) (s : State) (u : ProveSetup), s.retention.supplied = true →
      (s.calcOf r).runState = .online → s.prove.result.state = .running → s.prove.result.setup = some u → u.run = r →
      let c := s.checker r
      exec (.risingEdge r .b false stamp) s = .next ((s.comeTo stamp).setChecker r { c with expectation := .either })
        ∧ (c.expectation ≠ .aNext → exec (.risingEdge r .b true stamp) s
            = .next ((s.comeTo stamp).setChecker r { c with expectation := .aNext }))
        ∧ ∃ t, exec (.risingEdge r .a true stamp) s = .next t
          ∧ t.checker r = { c with
              expectation := .either, reverse := if c.reverse < 40000 then c.reverse + 1 else c.reverse }
          ∧ (c.reverse = 0 → ∀ p, (t.link p).notices.reverseFlow.pending = true)
          ∧ (s.passInProgress = true → PassAbandoned .reverse s t ∧ GoesOnOrFails u s t)
          ∧ (s.passInProgress = false → t.prove = (s.comeTo stamp).prove ∧ t.claims = (s.comeTo stamp).claims))

/-- A missing pulse: the error is counted first and tested against E, and then the substituted pulse is counted. On the run of a
RUNNING prove the error abandons the pass in progress with PULSE and is ignored in AWAIT_D1, and the setting of the FAILED latch
then ends the prove FAILED with PULSE, unless that abandonment has ended it at its last attempt (the part comes to the timebase
reading that the event carries, log entry 8). -/
def Obligations.MissingPulseIsSubstituted : Prop :=
  (∀ (r : Run) (ch : Channel) (stamp : Nat) (s : State), s.retention.supplied = true → (s.calcOf r).runState = .online →
    s.provingRun r = false →
    let c := s.checker r
    let latch := c.failed = false ∧ c.windowErrors + 1 = c.errorLimit
    let full := c.windowLength ≤ c.windowPulses + 1
    let up (n : Nat) : Nat := if n < 40000 then n + 1 else n
    let t := if latch then (s.comeTo stamp).postAll .runFault (unitBit (.run r)) else s.comeTo stamp
    c.expectation = (match ch with | .a => .bNext | .b => .aNext) →
      exec (.risingEdge r ch (decide (ch = .b)) stamp) s = .next (t.setChecker r { c with
        accepted := if c.accepted < 80000 then c.accepted + 1 else c.accepted
        missingA := if ch = .b then up c.missingA else c.missingA
        missingB := if ch = .a then up c.missingB else c.missingB
        windowPulses := if full then 0 else c.windowPulses + 1
        windowErrors := if full then 0 else c.windowErrors + 1
        failed := if latch then true else c.failed
        failureMark := if latch then true else c.failureMark }))
  ∧ (∀ (r : Run) (ch : Channel) (stamp : Nat) (s : State) (u : ProveSetup), s.retention.supplied = true →
    (s.calcOf r).runState = .online → s.prove.result.state = .running → s.prove.result.setup = some u → u.run = r →
    s.prove.engine ≠ .idle →
    let c := s.checker r
    let latch := c.failed = false ∧ c.windowErrors + 1 = c.errorLimit
    let full := c.windowLength ≤ c.windowPulses + 1
    let up (n : Nat) : Nat := if n < 40000 then n + 1 else n
    let lastAttempt := s.passInProgress = true ∧ u.maxAttempts ≤ s.prove.result.attempts
    c.expectation = (match ch with | .a => .bNext | .b => .aNext) →
      ∃ t, exec (.risingEdge r ch (decide (ch = .b)) stamp) s = .next t
        ∧ t.checker r = { c with
          accepted := if c.accepted < 80000 then c.accepted + 1 else c.accepted
          missingA := if ch = .b then up c.missingA else c.missingA
          missingB := if ch = .a then up c.missingB else c.missingB
          windowPulses := if full then 0 else c.windowPulses + 1
          windowErrors := if full then 0 else c.windowErrors + 1
          failed := if latch then true else c.failed
          failureMark := if latch then true else c.failureMark }
        ∧ (s.passInProgress = true → PassAbandoned .pulse s t)
        ∧ (s.passInProgress = false → t.prove.result.passes = s.prove.result.passes)
        ∧ (¬ latch → s.passInProgress = true → GoesOnOrFails u s t)
        ∧ (¬ latch → s.passInProgress = false → t.prove = (s.comeTo stamp).prove)
        ∧ (latch → t.prove.engine = .idle ∧ t.prove.passTimer = none ∧ t.prove.working = none
            ∧ t.prove.result.state = .failed ∧ t.prove.result.endTime = some s.terminalTime
            ∧ t.prove.result.reason = some (if lastAttempt then .repeatability else .pulse)
            ∧ ∀ p, (t.link p).notices.runFault.pending = true ∧ (t.link p).notices.proveEnd.pending = true))

/-- An OFFLINE run counts its A edges at the checker, up to the greatest count, and at the bank; B edges count nothing (the part
comes to the timebase reading that the event carries, log entry 8). -/
def Obligations.OfflineEdges : Prop :=
  ∀ (r : Run) (high : Bool) (stamp : Nat) (s : State), s.retention.supplied = true → (s.calcOf r).runState = .offline →
    let c := s.checker r
    let t := s.comeTo stamp
    exec (.risingEdge r .a high stamp) s = .next ((t.setChecker r { c with
        offlinePulses := if c.offlinePulses < 4294967295 then c.offlinePulses + 1 else c.offlinePulses }).setTotals r
        { s.totals r with offline := ((s.totals r).offline + 1) % 1000000000000 })
      ∧ exec (.risingEdge r .b high stamp) s = .next t

/-! ## Chapter 8: passes -/

/-- A pulse of the proved run before D2: while the displacer travels the first gives the first-pulse time and each later one
raises N; a pulse before D1 is ignored. The period counts it as any pulse (readings as log entry 8). -/
def Obligations.PulseDuringPass : Prop :=
  ∀ (r : Run) (stamp : Nat) (s : State), s.retention.supplied = true → (s.calcOf r).runState = .online →
    s.provingRun r = true → (s.checker r).expectation ≠ .bNext → s.prove.engine ≠ .awaitEnd →
    ∃ t, exec (.risingEdge r .a false stamp) s = .next t
      ∧ (t.checker r).accepted = (if (s.checker r).accepted < 80000 then (s.checker r).accepted + 1 else (s.checker r).accepted)
      ∧ t.links = s.links ∧ t.ring = s.ring ∧ t.calcs = s.calcs ∧ t.bank = s.bank
      ∧ (s.prove.engine = .awaitD1 → t.prove = (s.comeTo stamp).prove)
      ∧ (s.prove.engine = .inPass → ∀ w, s.prove.working = some w →
          t.prove = { (s.comeTo stamp).prove with
            working := some (if w.first.isSome then { w with n := w.n + 1 }
              else { w with first := some (max s.prove.timebase stamp) }) })

/-- The first pulse after D2 ends the pass: one record is appended, with N, t_D and t_P (both 0 where no pulse came before D2), the
four values selected in the order run T, run P, prover T, prover P, the K-factor and the grade in force, and the figures of the
pass arithmetic; it is VALID, or abandoned with NO_PULSES or RANGE. A VALID pass raises the consecutive count, and once the last n
passes are within the tolerance the prove is COMPLETE with their mean MF and mean Q; otherwise, and after an abandoned pass, the
prove goes on, or fails with REPEATABILITY at its last attempt (readings as log entry 8). -/
def Obligations.PassEndIsRecorded : Prop :=
  ∀ (r : Run) (stamp : Nat) (s : State) (u : ProveSetup) (w : WorkingPass) (d2 : Nat),
    s.retention.supplied = true → (s.calcOf r).runState = .online → s.prove.result.state = .running →
    s.prove.result.setup = some u → u.run = r → s.prove.engine = .awaitEnd → s.prove.working = some w →
    w.d2 = some d2 → (s.checker r).expectation ≠ .bNext →
    let n := if w.first.isSome = true then w.n + 1 else 0
    let tP := (w.first.map (fun first => max s.prove.timebase stamp - first)).getD 0
    let g := s.gradeOfDestination (s.calcOf r).target
    let runT := select (.run r .temp) g (s.comeTo stamp)
    let runP := select (.run r .press) g runT.2
    let proverT := select .proverTemp g runP.2
    let proverP := select .proverPress g proverT.2
    ∃ t x i, exec (.risingEdge r .a false stamp) s = .next t
      ∧ t.prove.result.passes = s.prove.result.passes ++ [x]
      ∧ x.number = s.prove.result.attempts ∧ x.endTime = s.terminalTime ∧ x.tD = some (d2 - w.d1)
      ∧ x.inputs = some i ∧ i.n = n ∧ i.tP = tP ∧ i.kmilli = (s.calcOf r).kmilli ∧ i.grade = g
      ∧ i.runTemp = runT.1 ∧ i.runPress = runP.1 ∧ i.proverTemp = proverT.1 ∧ i.proverPress = proverP.1
      ∧ t.live = proverP.2.live
      ∧ ((n = 0 ∨ tP = 0) → x.abandoned = some .noPulses ∧ x.figures = none)
      ∧ (n ≠ 0 → tP ≠ 0 → ∃ f, f = passFigures s.prove.config.bpv u.csp (d2 - w.d1) (s.grade g) i ∧ x.figures = some f
          ∧ x.abandoned = (if figuresValid f = true then none else some .range))
      ∧ (x.abandoned ≠ none → GoesOnOrFails u s t)
      ∧ (x.abandoned = none →
        let all := s.prove.result.passes ++ [x]
        let window := all.drop (all.length - u.n)
        let repeats := ∀ a ∈ window, ∀ b ∈ window, (a.mfOf - b.mfOf) * 1000000 ≤ u.tolerance * b.mfOf
        let k := s.prove.result.consecutive + 1
        t.prove.result.consecutive = k ∧ t.prove.working = none ∧ t.prove.passTimer = none
          ∧ (u.n ≤ k → repeats → t.prove.engine = .idle ∧ t.prove.result.state = .complete ∧ t.prove.result.reason = none
              ∧ t.prove.result.mf = some (halfUp (window.map (·.mfOf)).sum u.n)
              ∧ t.prove.result.q = some (halfUp (window.map (·.qOf)).sum u.n)
              ∧ ∀ p, (t.link p).notices.proveEnd.pending = true)
          ∧ (¬ (u.n ≤ k ∧ repeats) → t.prove.result.mf = s.prove.result.mf
              ∧ (s.prove.result.attempts < u.maxAttempts →
                  t.prove.engine = .awaitD1 ∧ t.prove.result.state = .running ∧ t.claims = (s.comeTo stamp).claims)
              ∧ (u.maxAttempts ≤ s.prove.result.attempts → t.prove.engine = .idle ∧ t.prove.result.state = .failed
                  ∧ t.prove.result.reason = some .repeatability)))

/-- The figures of a pass by the formulas of R137 and R138, where half-up is the nearest integer with a half going up. A VALID pass
has a flow of 1 to 999,999 and a factor of 800,000 to 1,200,000, the rounded quotient of the corrected volumes, whatever its
inputs; and a pass whose figures are such is VALID (R139). -/
def Obligations.ValidPassFigures : Prop :=
  (∀ (bpv csp tD : Nat) (g : Grade) (i : PassInputs),
    let f := passFigures bpv csp tD g i
    let nearest (m x d : Nat) : Prop := 2 * m * d ≤ 2 * x + d ∧ 2 * x + d < (2 * m + 2) * d
    (i.tP ≠ 0 → nearest f.ns (i.n * tD * 10000) i.tP)
      ∧ (i.kmilli ≠ 0 → nearest f.ivm (f.ns * 1000000) i.kmilli)
      ∧ (tD = 0 → f.q = 0) ∧ (tD ≠ 0 → f.ivm * 36000 / tD ≤ 999999 →
          f.q * tD ≤ f.ivm * 36000 ∧ f.ivm * 36000 < (f.q + 1) * tD)
      ∧ (tD ≠ 0 → 999999 < f.ivm * 36000 / tD → f.q = 999999)
      ∧ f.ctlM = (gradeCtl g i.runTemp.value).1 ∧ f.cplM = gradeCpl g i.runPress.value
      ∧ nearest f.ccfM (f.ctlM * f.cplM) 1000000 ∧ nearest f.cmv (f.ivm * f.ccfM) 1000000
      ∧ f.ctlP = (gradeCtl g i.proverTemp.value).1 ∧ f.cplP = gradeCpl g i.proverPress.value
      ∧ (∃ steel, nearest steel (csp * f.ctlP) 1000000 ∧ nearest f.ccfP (steel * f.cplP) 1000000)
      ∧ nearest f.cpv (bpv * f.ccfP) 1000000
      ∧ (f.cmv = 0 → f.mfPass = none)
      ∧ (f.cmv ≠ 0 → ∃ m, f.mfPass = some m ∧ nearest m (f.cpv * 1000000) f.cmv))
  ∧ (∀ (bpv csp tD : Nat) (g : Grade) (i : PassInputs), figuresValid (passFigures bpv csp tD g i) = true →
    let f := passFigures bpv csp tD g i
    1 ≤ f.q ∧ f.q ≤ 999999 ∧ 0 < f.cmv
      ∧ ∃ m, f.mfPass = some m ∧ 800000 ≤ m ∧ m ≤ 1200000
        ∧ 2 * (f.cpv * 1000000) < (2 * m + 1) * f.cmv ∧ (2 * m) * f.cmv ≤ 2 * (f.cpv * 1000000) + f.cmv)
  ∧ (∀ (bpv csp tD m : Nat) (g : Grade) (i : PassInputs),
    let f := passFigures bpv csp tD g i
    0 < f.cmv → 1 ≤ f.q → f.q ≤ 999999 → 2 * m * f.cmv ≤ 2 * (f.cpv * 1000000) + f.cmv →
    2 * (f.cpv * 1000000) + f.cmv < (2 * m + 2) * f.cmv → 800000 ≤ m → m ≤ 1200000 →
    f.mfPass = some m ∧ figuresValid f = true)

/-- A detector event by R131 and R132 (readings as log entry 8). A D1 begins a pass, a D2 in a pass is recorded, and IDLE is not
affected. An event out of order adds one to the error count of the prove: below the limit a stray D2 changes nothing more, and a
stray D1 abandons its pass with DETECTOR and begins the next attempt; at the limit the prove ends FAILED with DETECTOR. -/
def Obligations.DetectorActuations : Prop :=
  (∀ (d : Detector) (stamp : Nat) (s : State), s.retention.supplied = true →
      let t := s.comeTo stamp
      let now := max s.prove.timebase stamp
      (s.prove.engine = .idle → exec (.detectorActuation d stamp) s = .next t)
        ∧ (s.prove.engine = .awaitD1 → d = .d1 → exec (.detectorActuation d stamp) s = .next { t with
            prove := { t.prove with
              engine := .inPass
              passTimer := some (s.prove.config.timeout * 10000000)
              working := some { d1 := now, first := none, d2 := none, n := 0 }
              result := { s.prove.result with attempts := s.prove.result.attempts + 1 } } })
        ∧ (s.prove.engine = .inPass → d = .d2 → ∀ w, s.prove.working = some w →
            exec (.detectorActuation d stamp) s = .next { t with
              prove := { t.prove with engine := .awaitEnd, working := some { w with d2 := some now } } }))
  ∧ (∀ (d : Detector) (stamp : Nat) (s : State) (u : ProveSetup), s.retention.supplied = true → s.prove.Sound →
      s.prove.result.state = .running → s.prove.result.setup = some u →
      let x := s.prove.result
      let errors := x.detectorErrors + 1
      (d = .d2 ∧ s.prove.engine ≠ .inPass ∨ d = .d1 ∧ s.passInProgress = true) →
      ∃ t, exec (.detectorActuation d stamp) s = .next t ∧ t.prove.result.detectorErrors = errors
        ∧ (errors < s.prove.config.detectorLimit → d = .d2 →
            t.prove = { (s.comeTo stamp).prove with result := { x with detectorErrors := errors } })
        ∧ (errors < s.prove.config.detectorLimit → d = .d1 → x.attempts < u.maxAttempts →
            t.prove.engine = .inPass ∧ t.prove.result.attempts = x.attempts + 1 ∧ t.prove.result.consecutive = 0
              ∧ t.prove.result.state = .running
              ∧ ∃ y, t.prove.result.passes = x.passes ++ [y] ∧ y.number = x.attempts ∧ y.abandoned = some .detector)
        ∧ (errors < s.prove.config.detectorLimit → d = .d1 → u.maxAttempts ≤ x.attempts →
            t.prove.engine = .idle ∧ t.prove.result.state = .failed ∧ t.prove.result.reason = some .repeatability)
        ∧ (s.prove.config.detectorLimit ≤ errors →
            t.prove.engine = .idle ∧ t.prove.result.state = .failed ∧ t.prove.result.reason = some .detector))

/-- The pass timer's expiry abandons the pass with TIMEOUT, clears the consecutive count and, but for the last attempt, returns to
AWAIT_D1. It comes at the last tick of the timer (log entries 2 and 3): a timer that the pulse ending its pass has stopped, or that
has ticks to run, does not expire. -/
def Obligations.PassTimerExpiry : Prop :=
  ∀ (s : State) (u : ProveSetup), s.retention.supplied = true → s.prove.result.setup = some u →
    (s.prove.passTimer ≠ some 1 → exec .passTimerExpiry s = .next s)
      ∧ (s.prove.passTimer = some 1 → s.passInProgress = true →
        ∃ t y, exec .passTimerExpiry s = .next t
          ∧ t.prove.result.passes = s.prove.result.passes ++ [y] ∧ y.abandoned = some .timeout
          ∧ y.number = s.prove.result.attempts ∧ y.endTime = s.terminalTime ∧ y.inputs = none ∧ y.figures = none
          ∧ t.prove.result.consecutive = 0 ∧ t.prove.passTimer = none ∧ t.prove.working = none
          ∧ (s.prove.result.attempts < u.maxAttempts → t.prove.engine = .awaitD1 ∧ t.links = s.links ∧ t.claims = s.claims)
          ∧ (u.maxAttempts ≤ s.prove.result.attempts →
              t.prove.engine = .idle ∧ t.prove.result.state = .failed ∧ t.prove.result.reason = some .repeatability))

/-! ## Chapter 2: periods -/

/-- A period expiry of an ONLINE run, in the millisecond in which its elapsed ms reaches the open period length: one arrival is
delivered to the bank and one to the engine, no pulse is lost (what the division leaves is carried), and the next period begins; and
an arrival that still waits at the engine is taken before the close (R36, log entry 5). Before that millisecond, which is the expiry's
own (log entry 4), and while the run is OFFLINE (log entry 3), no period expires. -/
def Obligations.PeriodExpiryDelivers : Prop :=
  (∀ (r : Run) (s : State), s.retention.supplied = true → (s.calcOf r).runState = .online → s.toEngine.get r = none →
      0 < (s.calcOf r).kmilli → (s.calcOf r).openLength ≤ (s.calcOf r).elapsed + 1 →
      let k := s.calcOf r
      let c := s.checker r
      ∃ t a, exec (.periodExpiry r) s = .next t
        ∧ t.toEngine = s.toEngine.set r (some a) ∧ t.toBank = s.toBank.set r (s.toBank.get r ++ [a])
        ∧ a.run = r ∧ a.destination = k.target ∧ a.pulses = c.accepted ∧ a.reversePulses = c.reverse ∧ a.tMs = k.openLength
        ∧ a.kmilli = k.kmilli ∧ a.endTime = s.terminalTime ∧ a.flags.pulseFailed = c.failureMark
        ∧ a.flags.restartPeriod = false
        ∧ a.ivInc * k.kmilli + (t.calcOf r).rI = c.accepted * 1000000 + k.rI ∧ (t.calcOf r).rI < k.kmilli
        ∧ a.revInc * k.kmilli + (t.calcOf r).rR = c.reverse * 1000000 + k.rR ∧ (t.calcOf r).rR < k.kmilli
        ∧ a.q = (if k.openLength = 0 then 0 else min 999999 (c.accepted * 36000000000 / (k.kmilli * k.openLength)))
        ∧ (t.calcOf r).elapsed = 0 ∧ (t.calcOf r).openLength = k.periodLength ∧ (t.calcOf r).periodLength = k.periodLength
        ∧ (t.calcOf r).kmilli = k.kmilli ∧ (t.calcOf r).target = k.target ∧ (t.calcOf r).runState = .online
        ∧ (t.calcOf r).quiet = (if c.accepted = 0 then (if k.quiet < 65535 then k.quiet + 1 else k.quiet) else 0)
        ∧ t.checker r = { c with accepted := 0, reverse := 0, missingA := 0, missingB := 0, failureMark := c.failed }
        ∧ (∀ q, q ≠ r → t.calcOf q = s.calcOf q ∧ t.checker q = s.checker q)
        ∧ t.bank = s.bank ∧ t.ring = s.ring ∧ t.prove = s.prove ∧ t.curves = s.curves ∧ t.grades = s.grades
        ∧ t.claims = s.claims ∧ t.terminalTime = s.terminalTime ∧ t.retention = s.retention)
  ∧ (∀ (r : Run) (s : State), s.retention.supplied = true → (s.calcOf r).runState = .online →
      (s.calcOf r).openLength ≤ (s.calcOf r).elapsed + 1 →
      ∃ t, exec (.incrementArrivalAtEngine r) s = .next t ∧ t.toEngine.get r = none
        ∧ exec (.periodExpiry r) s = exec (.periodExpiry r) t)
  ∧ (∀ (r : Run) (s : State), s.retention.supplied = true →
      ((s.calcOf r).runState = .offline ∨ (s.calcOf r).elapsed + 1 < (s.calcOf r).openLength) →
      exec (.periodExpiry r) s = .next s)

/-- The first, second and third stages of every period close, and its reverse volume. No pulse is lost in IV or in the reverse
volume, because what each division leaves is carried; Q rests on the accepted pulses alone and stops at 999,999, and MF is the
curve's at that Q; and the reverse pulses take no part in IV, Q, GSV or NSV. -/
def Obligations.IndicatedVolumeAndFlow : Prop :=
  ∀ (r : Run) (tMs : Nat) (restart : Bool) (s : State), 0 < (s.calcOf r).kmilli →
    let k := s.calcOf r
    let c := s.checker r
    let t := closePeriod r tMs restart s
    let k' := t.calcOf r
    let flow := c.accepted * 36000000000 / (k.kmilli * tMs)
    ∃ a rec, t.toEngine.get r = some a ∧ k'.lastPeriod = some rec
      ∧ rec.ivInc = a.ivInc ∧ rec.revInc = a.revInc ∧ rec.q = a.q
      ∧ a.ivInc = (c.accepted * 1000000 + k.rI) / k.kmilli
      ∧ k'.rI < k.kmilli ∧ a.ivInc * k.kmilli + k'.rI = c.accepted * 1000000 + k.rI
      ∧ (tMs = 0 → a.q = 0) ∧ (tMs ≠ 0 → flow ≤ 999999 → a.q = flow) ∧ (tMs ≠ 0 → 999999 < flow → a.q = 999999)
      ∧ (rec.mf, rec.flags.curveClamp) = curveMf (s.curve r) a.q
      ∧ a.revInc = (c.reverse * 1000000 + k.rR) / k.kmilli
      ∧ k'.rR < k.kmilli ∧ a.revInc * k.kmilli + k'.rR = c.reverse * 1000000 + k.rR
      ∧ ∀ n m, ∃ a', (closePeriod r tMs restart
            ((s.setChecker r { c with reverse := n }).setCalc r { k with rR := m })).toEngine.get r = some a'
          ∧ a'.ivInc = a.ivInc ∧ a'.q = a.q ∧ a'.gsvInc = a.gsvInc ∧ a'.nsvInc = a.nsvInc

/-- The fourth and fifth stages, and the sixth to ninth stages of every period close, full, partial or after a restart. The
temperature, the pressure and the water content are selected in that order at the grade of the destination (the standing grade for
none), and CTL and CPL are that grade's. The factor is MF by CTL rounded, then by CPL rounded, and the same factor is recorded,
delivered and weighted; and no part of a litre is lost in GSV or NSV, because what each division leaves is carried. -/
def Obligations.PeriodStagesAreExact : Prop :=
  (∀ (r : Run) (tMs : Nat) (restart : Bool) (s : State),
      let k := s.calcOf r
      let t := closePeriod r tMs restart s
      ∃ a rec g, t.toEngine.get r = some a ∧ (t.calcOf r).lastPeriod = some rec ∧ rec.grade = g ∧ rec.destination = k.target
        ∧ (k.target = none → g = s.ring.standingGrade)
        ∧ (∀ i f x, k.target = some i → (s.slot i).form = some f → formGrade f = some x → g = x)
        ∧ (let temp := select (.run r .temp) g s
           let press := select (.run r .press) g temp.2
           let bsw := select (.run r .bsw) g press.2
           rec.temp = temp.1.value ∧ rec.tempStatus = temp.1.status
            ∧ (rec.p : Int) = max 0 (min 15000 press.1.value) ∧ rec.pressStatus = press.1.status
            ∧ (rec.bsw : Int) = max 0 bsw.1.value ∧ rec.bswStatus = bsw.1.status
            ∧ (rec.ctl, rec.flags.tableClamp) = gradeCtl (s.grade g) temp.1.value
            ∧ rec.cpl = gradeCpl (s.grade g) press.1.value
            ∧ t.live = bsw.2.live ∧ t.links = bsw.2.links
            ∧ a.temp = rec.temp ∧ a.p = rec.p ∧ a.bsw = rec.bsw ∧ a.tempWeighted = rec.temp * a.ivInc
            ∧ a.pWeighted = rec.p * a.ivInc ∧ a.bswWeighted = rec.bsw * a.ivInc))
  ∧ (∀ (r : Run) (tMs : Nat) (restart : Bool) (s : State),
      let t := closePeriod r tMs restart s
      ∃ a rec f x, t.toEngine.get r = some a ∧ (t.calcOf r).lastPeriod = some rec
        ∧ (2 * f * 1000000 ≤ 2 * (rec.mf * rec.ctl) + 1000000 ∧ 2 * (rec.mf * rec.ctl) < (2 * f + 1) * 1000000)
        ∧ (2 * x * 1000000 ≤ 2 * (f * rec.cpl) + 1000000 ∧ 2 * (f * rec.cpl) < (2 * x + 1) * 1000000)
        ∧ rec.ccf = x ∧ a.ccf = x ∧ a.ccfWeighted = x * a.ivInc ∧ a.mf = rec.mf ∧ a.mfWeighted = rec.mf * a.ivInc)
  ∧ (∀ (r : Run) (tMs : Nat) (restart : Bool) (s : State),
      let k := s.calcOf r
      let t := closePeriod r tMs restart s
      let k' := t.calcOf r
      ∃ a rec, t.toEngine.get r = some a ∧ t.toBank.get r = s.toBank.get r ++ [a] ∧ k'.lastPeriod = some rec
        ∧ rec.ivInc = a.ivInc ∧ rec.gsvInc = a.gsvInc ∧ rec.nsvInc = a.nsvInc ∧ rec.ccf = a.ccf ∧ rec.bsw = a.bsw
        ∧ a.gsvInc = (a.ivInc * a.ccf + k.rG) / 1000000
        ∧ k'.rG < 1000000 ∧ a.gsvInc * 1000000 + k'.rG = a.ivInc * a.ccf + k.rG
        ∧ (a.ivInc = 0 → k.rG < 1000000 → a.gsvInc = 0 ∧ k'.rG = k.rG)
        ∧ rec.csw = 1000000 - min a.bsw 100000 ∧ 900000 ≤ rec.csw ∧ rec.csw ≤ 1000000
        ∧ a.nsvInc = (a.gsvInc * rec.csw + k.rN) / 1000000
        ∧ k'.rN < 1000000 ∧ a.nsvInc * 1000000 + k'.rN = a.gsvInc * rec.csw + k.rN)

/-- The period timer advances the elapsed ms of an ONLINE run by one, short of the open period length; the millisecond that reaches it is
the expiry's own (log entry 4), and an OFFLINE run's timer stands. -/
def Obligations.PeriodTimerAdvances : Prop :=
  ∀ (r : Run) (s : State), s.retention.supplied = true →
    ((s.calcOf r).runState = .online → (s.calcOf r).elapsed + 1 < (s.calcOf r).openLength →
      exec (.periodTimerAdvance r) s
        = .next (s.setCalc r { s.calcOf r with elapsed := (s.calcOf r).elapsed + 1 }))
      ∧ ((s.calcOf r).runState = .offline ∨ (s.calcOf r).openLength ≤ (s.calcOf r).elapsed + 1 →
        exec (.periodTimerAdvance r) s = .next s)

/-! ## Service and settings of a run -/

/-- SET SERVICE ONLINE from the holder: the items of R19 and of R12, and nothing else. -/
def Obligations.GoingOnline : Prop :=
  ∀ (p : Port) (r : Run) (s : State), s.retention.supplied = true → s.holds p (.run r) = true →
    (s.calcOf r).runState = .offline →
    let n := renewed p [.run r] s
    let k := s.calcOf r
    let c := s.checker r
    ((∀ x ∈ s.curve r, x.enabled = false) →
        exec (.setService p (runNumber r) 1) s = .next (answered p .noCurve 1 .empty n))
      ∧ ((∃ x ∈ s.curve r, x.enabled = true) →
        exec (.setService p (runNumber r) 1) s = .next (answered p .ok 1 .empty ((n.setCalc r { k with
          runState := .online, openLength := k.periodLength, elapsed := 0, quiet := 0,
          target := if s.ring.current = .opened ∨ s.ring.current = .topped then s.currentSlot else none }).setChecker r { c with
          expectation := .either, accepted := 0, reverse := 0, missingA := 0, missingB := 0, failureMark := c.failed })))

/-- SET SERVICE OFFLINE from the holder of an ONLINE run: the partial period is closed with the elapsed ms and delivered, and every
arrival of the run is taken at the engine and added at the bank within the request, so that the totals of an OFFLINE run hold all
its periods (R36, R80, log entry 5); the run owes no closing parcel, a prove RUNNING on it ends ABORTED with OFFLINE by the common end
(R145), and it is OFFLINE with no target and no pending K (its elapsed ms stands, log entry 18). -/
def Obligations.GoingOffline : Prop :=
  ∀ (p : Port) (r : Run) (s : State), s.retention.supplied = true → s.holds p (.run r) = true →
    (s.calcOf r).runState = .online →
    ∃ t a rec, exec (.setService p (runNumber r) 0) s = .next t
      ∧ (t.calcOf r).runState = .offline ∧ (t.calcOf r).target = none ∧ (t.calcOf r).pendingK = none
      ∧ (t.calcOf r).periodLength = (s.calcOf r).periodLength ∧ (t.calcOf r).elapsed = (s.calcOf r).elapsed
      ∧ (t.calcOf r).lastPeriod = some rec ∧ rec.tMs = (s.calcOf r).elapsed ∧ rec.pulses = (s.checker r).accepted
      ∧ t.toEngine.get r = none ∧ t.toBank.get r = [] ∧ t.bank = (s.toBank.get r ++ [a]).foldl Bank.add s.bank
      ∧ a.run = r ∧ a.tMs = rec.tMs ∧ a.pulses = rec.pulses ∧ a.destination = rec.destination ∧ a.ivInc = rec.ivInc
      ∧ a.gsvInc = rec.gsvInc ∧ a.nsvInc = rec.nsvInc ∧ a.revInc = rec.revInc
      ∧ (∀ q, q ≠ r → t.toBank.get q = s.toBank.get q ∧ t.toEngine.get q = s.toEngine.get q)
      ∧ (t.checker r).accepted = 0 ∧ (t.checker r).offlinePulses = 0 ∧ (t.checker r).failed = (s.checker r).failed
      ∧ (t.checker r).windowPulses = (s.checker r).windowPulses
      ∧ t.provingRun r = false ∧ (∀ c, t.ring.closing = some c → c.owing.get r = false)
      ∧ (s.provingRun r = false → t.prove = s.prove)
      ∧ (s.provingRun r = true → t.prove.engine = .idle ∧ t.prove.passTimer = none ∧ t.prove.working = none
          ∧ t.prove.result.state = .aborted ∧ t.prove.result.reason = some .offline
          ∧ t.prove.result.endTime = some s.terminalTime
          ∧ (s.passInProgress = true → PassAbandoned .ended s t)
          ∧ (s.passInProgress = false → t.prove.result.passes = s.prove.result.passes)
          ∧ (∀ q, (t.link q).notices.proveEnd.pending = true)
          ∧ ∀ v, v = .run r ∨ v = .prover → t.claim v = { s.claim v with
              timer := if (s.claim v).holder = none then (s.claim v).timer else some ((s.claim v).holdTime * 10000000) })
      ∧ (t.link p).response = some { status := .ok, kind := 1, body := .empty }
      ∧ t.curves = s.curves ∧ t.grades = s.grades ∧ t.terminalTime = s.terminalTime
      ∧ (∀ q, q ≠ r → t.checker q = s.checker q)

/-- The settings of a run, from its holder. SET SERVICE for the state the run is in changes nothing; SET PERIOD sets the configured length
alone; SET SECURITY sets W and E and begins a window; values out of range are refused with RANGE. CLEAR RUN FAULT clears the FAILED
latch, both window counts and the three LIVE_FAILED latches of the run, and nothing else. -/
def Obligations.RunSettings : Prop :=
  (∀ (p : Port) (r : Run) (s : State), s.retention.supplied = true → s.holds p (.run r) = true →
      let n := renewed p [.run r] s
      let u := runNumber r
      let c := s.checker r
      exec (.setService p u (if (s.calcOf r).runState = .online then 1 else 0)) s = .next (answered p .ok 1 .empty n)
        ∧ (∀ v, 1 < v → exec (.setService p u v) s = .next (answered p .range 1 .empty n))
        ∧ (∀ len, 100 ≤ len → len ≤ 2000 → exec (.setPeriod p u len) s
            = .next (answered p .ok 2 .empty (n.setCalc r { s.calcOf r with periodLength := len })))
        ∧ (∀ len, (len < 100 ∨ 2000 < len) → exec (.setPeriod p u len) s = .next (answered p .range 2 .empty n))
        ∧ (∀ w e, 100 ≤ w → w ≤ 1000000 → 1 ≤ e → e ≤ 1000 → exec (.setSecurity p u w e) s
            = .next (answered p .ok 4 .empty (n.setChecker r { c with
                windowLength := w, errorLimit := e, windowPulses := 0, windowErrors := 0 })))
        ∧ (∀ w e, (w < 100 ∨ 1000000 < w ∨ e < 1 ∨ 1000 < e) →
            exec (.setSecurity p u w e) s = .next (answered p .range 4 .empty n)))
  ∧ (∀ (p : Port) (r : Run) (s : State), s.retention.supplied = true → s.holds p (.run r) = true →
      let n := renewed p [.run r] s
      ∃ t, exec (.clearRunFault p (runNumber r)) s = .next t
        ∧ t = answered p .ok 5 .empty { n.setChecker r { s.checker r with failed := false, windowPulses := 0, windowErrors := 0 }
            with live := t.live }
        ∧ (∀ q, t.liveItem (.run r q)
            = { s.liveItem (.run r q) with record := { (s.liveItem (.run r q)).record with liveFailed := false } })
        ∧ (∀ l, liveUnit l ≠ .run r → t.liveItem l = s.liveItem l)
        ∧ (∀ u, t.limits u = s.limits u) ∧ ∀ q, (t.live.runs.get q).tolBsw = (s.live.runs.get q).tolBsw)

/-- SET K-FACTOR from the holder: refused with PROVING while a prove is RUNNING on the run, and then with RANGE; otherwise, with the run's
arrival taken at the engine first (log entry 5), at once with both indicated residues rescaled while the run has no open portion, and
pending while it has one; the period open at that moment then closes with the K-factor it had. -/
def Obligations.KFactorNowOrPending : Prop :=
  ∀ (p : Port) (r : Run) (x : Nat) (s : State), s.retention.supplied = true → s.holds p (.run r) = true →
    let n := renewed p [.run r] s
    let put := exec (.setKFactor p (runNumber r) x) s
    let good := 1000 ≤ x ∧ x ≤ 99999999
    (s.provingRun r = true → put = .next (answered p .proving 3 .empty n))
      ∧ (s.provingRun r = false → ¬ good → put = .next (answered p .range 3 .empty n))
      ∧ (s.provingRun r = false → good → ∃ t, exec (.incrementArrivalAtEngine r) n = .next t ∧ t.toEngine.get r = none
          ∧ (s.toEngine.get r = none → t = n)
          ∧ ((t.calcOf r).target = none → put = .next (answered p .ok 3 .empty (t.setCalc r { t.calcOf r with
              kmilli := x, rI := (t.calcOf r).rI * x / (t.calcOf r).kmilli, rR := (t.calcOf r).rR * x / (t.calcOf r).kmilli
              pendingK := none })))
          ∧ ∀ i, (t.calcOf r).target = some i → ((t.slot i).state = .current ∨ (t.slot i).state = .closing) →
            let waiting := answered p .okPending 3 .empty (t.setCalc r { t.calcOf r with pendingK := some x })
            put = .next waiting ∧ ((t.calcOf r).runState = .online → ∀ ms, (t.calcOf r).openLength ≤ ms + 1 →
              ∃ v rec, exec (.periodExpiry r) (waiting.setCalc r { waiting.calcOf r with elapsed := ms }) = .next v
                ∧ (v.calcOf r).lastPeriod = some rec ∧ rec.kmilli = (t.calcOf r).kmilli))

/-- A request that only a unit's holder may have carried out, from another port, is refused with NOT_HOLDER: the port joins the list of
a unit that another port holds, unless it is on it, and nothing else changes (the bodies as log entry 12). So are the ten requests on a
run, SET LIVE LIMITS of any unit, SET PROVER and ABORT PROVE; START PROVE needs the run and the prover, and its port is queued for each
that it lacks. A unit field that names no unit of the request is refused with RANGE before (START PROVE's renewal there as log entry
29). -/
def Obligations.OnlyTheHolderConfiguresARun : Prop :=
  (∀ (i : Instr) (p : Port) (unit kind : Nat) (s : State), s.retention.supplied = true →
    runConfiguration i = some (p, unit, kind) →
    (runOf unit = none → exec i s = .next (answered p .range kind .empty (renewed p (namedUnits unit) s)))
      ∧ ∀ r, runOf unit = some r → s.holds p (.run r) = false →
        let c := (s.claim (.run r)).refusing p
        exec i s = .next (answered p .notHolder kind (.claims [c.seen (s.provingRun r)]) (s.setClaim (.run r) c)))
  ∧ (∀ (p : Port) (u : UnitId) (st hold tolT tolP tolB pref bpv timeout det acc band : Nat) (s : State),
    s.retention.supplied = true → s.holds p u = false →
    let c := (s.claim u).refusing p
    let refused (i : Instr) (kind : Nat) : Prop :=
      exec i s = .next (answered p .notHolder kind (.claims [c.seen (s.inProve u)]) (s.setClaim u c))
    refused (.setLiveLimits p (unitNumber u) st hold tolT tolP tolB pref) 14
      ∧ (u = .prover → refused (.setProver p 5 bpv timeout det acc band) 26 ∧ refused (.abortProve p 5) 28))
  ∧ (∀ (p : Port) (r : Run) (k m tol csp : Nat) (s : State), s.retention.supplied = true →
    (s.holds p (.run r) && s.holds p .prover) = false →
    let n := renewed p [.run r, .prover] s
    let t := (n.setClaim (.run r) ((n.claim (.run r)).refusing p)).setClaim .prover ((n.claim .prover).refusing p)
    let lacked : List UnitId :=
      (if s.holds p (.run r) = true then [] else [.run r]) ++ (if s.holds p .prover = true then [] else [.prover])
    let views := lacked.map (fun u => (t.claim u).seen (s.inProve u))
    exec (.startProve p (runNumber r) k m tol csp) s = .next (answered p .notHolder 27 (.claims views) t))
  ∧ (∀ (p : Port) (unit st hold tolT tolP tolB pref bpv timeout det acc band k m tol csp : Nat) (s : State),
    s.retention.supplied = true →
    (unitOf unit = none → exec (.setLiveLimits p unit st hold tolT tolP tolB pref) s = .next (answered p .range 14 .empty s))
      ∧ (unit ≠ 5 → exec (.setProver p unit bpv timeout det acc band) s
            = .next (answered p .range 26 .empty (renewed p (namedUnits unit) s))
          ∧ exec (.abortProve p unit) s = .next (answered p .range 28 .empty (renewed p (namedUnits unit) s)))
      ∧ (runOf unit = none → exec (.startProve p unit k m tol csp) s
          = .next (answered p .range 27 .empty (renewed p [.prover] s))))

/-! ## Chapter 3: tables -/

/-- ADD POINT, CHANGE POINT and REMOVE POINT from the holder while no prove runs on the run: the curve takes the edit and stays in
strictly ascending flow, and nothing else changes. -/
def Obligations.CurveEdits : Prop :=
  ∀ (p : Port) (r : Run) (flow mf : Nat) (on : Bool) (s : State), s.retention.supplied = true →
    s.holds p (.run r) = true → s.provingRun r = false → CurveSound (s.curve r) → 800000 ≤ mf → mf ≤ 1200000 →
    let n := renewed p [.run r] s
    let u := runNumber r
    let c := s.curve r
    let here (x : CurvePoint) : Prop := x.flow = flow
    let last := (s.calcOf r).runState = .online ∧ ∀ x ∈ c, x.enabled = true → x.flow = flow
    (1 ≤ flow → flow ≤ 999999 → (∀ x ∈ c, ¬ here x) → c.length < 8 →
        ∃ c', exec (.addPoint p u flow mf (if on then 1 else 0)) s = .next (answered p .ok 7 .empty (n.setCurve r c'))
          ∧ c'.Perm (⟨flow, mf, on⟩ :: c) ∧ CurveSound c')
      ∧ ((∃ x ∈ c, here x) → (on = true ∨ ¬ last) →
        ∃ c', exec (.changePoint p u flow mf (if on then 1 else 0)) s = .next (answered p .ok 8 .empty (n.setCurve r c'))
          ∧ c' = c.map (fun x => if x.flow = flow then ⟨flow, mf, on⟩ else x) ∧ CurveSound c')
      ∧ ((∃ x ∈ c, here x) → ¬ last →
        ∃ c', exec (.removePoint p u flow) s = .next (answered p .ok 9 .empty (n.setCurve r c'))
          ∧ (∀ x, x ∈ c' ↔ x ∈ c ∧ ¬ here x) ∧ CurveSound c')

/-- The refusals of the curve edits from the holder: PROVING before any value is looked at, then each edit's own. -/
def Obligations.CurveEditRefusals : Prop :=
  ∀ (p : Port) (r : Run) (flow mf e : Nat) (s : State), s.retention.supplied = true → s.holds p (.run r) = true →
    let n := renewed p [.run r] s
    let u := runNumber r
    let c := s.curve r
    let bad := mf < 800000 ∨ 1200000 < mf ∨ 1 < e
    let absent := ∀ x ∈ c, x.flow ≠ flow
    (s.provingRun r = true →
        exec (.addPoint p u flow mf e) s = .next (answered p .proving 7 .empty n)
          ∧ exec (.changePoint p u flow mf e) s = .next (answered p .proving 8 .empty n)
          ∧ exec (.removePoint p u flow) s = .next (answered p .proving 9 .empty n))
      ∧ (s.provingRun r = false →
        ((bad ∨ flow < 1 ∨ 999999 < flow) → exec (.addPoint p u flow mf e) s = .next (answered p .range 7 .empty n))
          ∧ (¬ bad → 1 ≤ flow → flow ≤ 999999 → ¬ absent →
              exec (.addPoint p u flow mf e) s = .next (answered p .duplicate 7 .empty n))
          ∧ (¬ bad → 1 ≤ flow → flow ≤ 999999 → absent → 8 ≤ c.length →
              exec (.addPoint p u flow mf e) s = .next (answered p .curveFull 7 .empty n))
          ∧ (bad → exec (.changePoint p u flow mf e) s = .next (answered p .range 8 .empty n))
          ∧ (¬ bad → absent → exec (.changePoint p u flow mf e) s = .next (answered p .notFound 8 .empty n))
          ∧ (absent → exec (.removePoint p u flow) s = .next (answered p .notFound 9 .empty n))
          ∧ (CurveSound c → (s.calcOf r).runState = .online → (∃ x ∈ c, x.flow = flow ∧ x.enabled = true) →
              (∀ x ∈ c, x.enabled = true → x.flow = flow) →
              exec (.removePoint p u flow) s = .next (answered p .noCurve 9 .empty n)
                ∧ (800000 ≤ mf → mf ≤ 1200000 →
                    exec (.changePoint p u flow mf 0) s = .next (answered p .noCurve 8 .empty n))))

/-- LOAD GRADE replaces a record whole when it is in range, in strictly ascending temperature, and the grade is not in use, and is
refused with RANGE, ORDER or IN_USE, in that order, when it is not; no claim is needed and no timer is renewed. -/
def Obligations.GradeIsLoadedWhole : Prop :=
  ∀ (p : Port) (g : GradeId) (f bsw : Nat) (points : List RawPoint) (s : State), s.retention.supplied = true →
    let rec' : Grade := { f := f, bsw := bsw, table := points.map (fun x => ⟨x.temp, x.ctl⟩) }
    let inUse := s.ring.standingGrade = g ∨ ∃ i x, (s.slot i).form = some x ∧ formGrade x = some g
      ∧ ((s.slot i).state = .current ∨ (s.slot i).state = .closing ∨ (s.slot i).state = .armed)
    let put := exec (.loadGrade p 0 (g.val + 1) f bsw points) s
    let inRange := f ≤ 2000 ∧ bsw ≤ 100000 ∧ 1 ≤ points.length ∧ points.length ≤ 12
      ∧ ∀ x ∈ points, -2000 ≤ x.temp ∧ x.temp ≤ 12000 ∧ 900000 ≤ x.ctl ∧ x.ctl ≤ 1100000
    (rec'.Sound → ¬ inUse → put = .next (answered p .ok 11 .empty (s.setGrade g rec')))
      ∧ (rec'.Sound → inUse → put = .next (answered p .inUse 11 .empty s))
      ∧ (¬ inRange → put = .next (answered p .range 11 .empty s))
      ∧ (inRange → ¬ rec'.Sound → put = .next (answered p .order 11 .empty s))
      ∧ (∀ unit n, (unit ≠ 0 ∨ n = 0 ∨ 8 < n) →
          exec (.loadGrade p unit n f bsw points) s = .next (answered p .range 11 .empty s))

/-- The Table Store's answers. For a flow: the point's own MF, unclamped, at an enabled point; between two neighbours an MF between theirs,
unclamped; the end point's MF, clamped, outside the enabled span. For a temperature the same over the points of a grade's table. For a
pressure: the rounded quotient of R45 at the limited pressure, within 1,000,000 to 1,030,928, and exactly 1,000,000 with no
compressibility or at no gauge pressure. -/
def Obligations.TableAnswers : Prop :=
  (∀ (c : List CurvePoint) (q : Nat), CurveSound c →
      let on := c.filter (·.enabled)
      (∀ x ∈ on, x.flow = q → curveMf? c q = some (x.mf, false))
        ∧ (∀ x rest, on = x :: rest → q < x.flow → curveMf? c q = some (x.mf, true))
        ∧ (∀ x init, on = init ++ [x] → x.flow < q → curveMf? c q = some (x.mf, true))
        ∧ (∀ a b init rest, on = init ++ a :: b :: rest → a.flow < q → q < b.flow →
            ∃ m, curveMf? c q = some (m, false) ∧ min a.mf b.mf ≤ m ∧ m ≤ max a.mf b.mf
              ∧ (m : Int) = a.mf + halfAway (((b.mf : Int) - a.mf) * ((q : Int) - a.flow)) (b.flow - a.flow)))
  ∧ (∀ (g : Grade) (temp : Int), g.Sound →
      (∀ x ∈ g.table, x.temp = temp → gradeCtl g temp = (x.ctl, false))
        ∧ (∀ x rest, g.table = x :: rest → temp < x.temp → gradeCtl g temp = (x.ctl, true))
        ∧ (∀ x init, g.table = init ++ [x] → x.temp < temp → gradeCtl g temp = (x.ctl, true))
        ∧ (∀ a b init rest, g.table = init ++ a :: b :: rest → a.temp < temp → temp < b.temp →
            ∃ m, gradeCtl g temp = (m, false) ∧ min a.ctl b.ctl ≤ m ∧ m ≤ max a.ctl b.ctl
              ∧ (m : Int) = a.ctl + halfAway (((b.ctl : Int) - a.ctl) * (temp - a.temp)) (b.temp - a.temp).toNat))
  ∧ (∀ (g : Grade) (pressure : Int), g.f ≤ 2000 →
      let p := limitPressure pressure
      let d := 1000000000 - g.f * p
      let c := gradeCpl g pressure
      (p : Int) = min (max pressure 0) 15000 ∧ 970000000 ≤ d
        ∧ 2 * c * d ≤ 2 * 1000000000000000 + d ∧ 2 * 1000000000000000 < (2 * c + 1) * d
        ∧ 1000000 ≤ c ∧ c ≤ 1030928 ∧ (g.f = 0 ∨ pressure ≤ 0 → c = 1000000))

/-! ## Chapter 4: live values -/

/-- REPORT LIVE from any port: the value is brought to its range and stored FRESH with the terminal time, its timer runs for the
staleness limit, a GOOD report makes the record SUPPLIED and a SUSPECT one that empties F starts the live hold timer; the
LIVE_FAILED latch of a run stands, and the prover's is cleared by the GOOD report that makes its record SUPPLIED; no other slot,
place or limit changes. An expiry of the slot's timer at the same moment then does not happen, and after a GOOD report neither does one
of the live hold timer (log entry 3 tells such an expiry by its timer). A unit, quantity or health out of range is refused with RANGE. -/
def Obligations.ReportIsStored : Prop :=
  (∀ (p : Port) (l : LivePoint) (quantity : Nat) (value : Int) (h : Health) (s : State), s.retention.supplied = true →
      livePointOf (liveUnit l) quantity = some l →
      let u := liveUnit l
      let lo := (quantityRange (liveQuantity l)).1
      let hi := (quantityRange (liveQuantity l)).2
      let v := max lo (min hi value)
      let n := renewed p [u] s
      let old := (s.liveItem l).record
      ∃ t : State,
        let a := answered p (if v = value then .ok else .okClamped) 13 .empty { n with live := t.live }
        exec (.reportLive p (unitNumber u) quantity value (if h = .good then 0 else 1)) s = .next a
        ∧ exec (.freshnessTimerExpiry l p) a = .next a ∧ (h = .good → exec (.liveHoldTimerExpiry l) a = .next a)
        ∧ (t.liveItem l).slots.get p = some {
            value := v, health := h, clamped := decide (v ≠ value), reportTime := s.terminalTime,
            timer := some ((s.limits u).staleness * 10000000) }
        ∧ (∀ q, q ≠ p → (t.liveItem l).slots.get q = (s.liveItem l).slots.get q)
        ∧ (∀ l', l' ≠ l → t.liveItem l' = s.liveItem l') ∧ (∀ u', t.limits u' = s.limits u')
        ∧ (∀ r, (t.live.runs.get r).tolBsw = (s.live.runs.get r).tolBsw)
        ∧ (h = .good → (t.liveItem l).record = { old with
            supply := .supplied, holdTimer := none
            liveFailed := if u = .prover ∧ old.supply ≠ .supplied then false else old.liveFailed })
        ∧ (h = .suspect → (s.liveItem l).f ≠ [] → (t.liveItem l).f = [] →
            (t.liveItem l).record = { old with supply := .holding, holdTimer := some ((s.limits u).hold * 10000000) })
        ∧ (h = .suspect → ((s.liveItem l).f = [] ∨ (t.liveItem l).f ≠ []) → (t.liveItem l).record = old))
  ∧ (∀ (p : Port) (unit quantity : Nat) (value : Int) (health : Nat) (s : State), s.retention.supplied = true →
      (unit = 0 ∨ 5 < unit ∨ 2 < quantity ∨ (unit = 5 ∧ 1 < quantity) ∨ 1 < health) →
      exec (.reportLive p unit quantity value health) s
        = .next (answered p .range 13 .empty (renewed p (namedUnits unit) s)))

/-- The two timers of the Live Value Table: a freshness timer's expiry makes its slot STALE, and the last fresh and good slot's
starts the live hold timer; the live hold timer's expiry makes the record LAPSED and sets its latch, and posts RUN_FAULT to every
port if the latch was clear. Each comes at the last tick of its timer (log entries 2 and 3): a timer that is stopped, or that a report
has started again, does not expire. -/
def Obligations.LiveTimersExpire : Prop :=
  ∀ (l : LivePoint) (p : Port) (s : State), s.retention.supplied = true →
    let x := s.liveItem l
    (∀ r, x.slots.get p = some r → r.timer = some 1 →
        let y := { x with slots := x.slots.set p (some { r with timer := none }) }
        exec (.freshnessTimerExpiry l p) s = .next (s.setLiveItem l (if x.f ≠ [] ∧ y.f = [] then { y with
            record := { x.record with
              supply := .holding, holdTimer := some ((s.limits (liveUnit l)).hold * 10000000) } } else y)))
      ∧ ((∀ r, x.slots.get p = some r → r.timer ≠ some 1) → exec (.freshnessTimerExpiry l p) s = .next s)
      ∧ (x.record.holdTimer = some 1 →
        let t := s.setLiveItem l { x with record := { x.record with supply := .lapsed, holdTimer := none, liveFailed := true } }
        exec (.liveHoldTimerExpiry l) s
          = .next (if x.record.liveFailed = true then t else t.postAll .runFault (unitBit (liveUnit l))))
      ∧ (x.record.holdTimer ≠ some 1 → exec (.liveHoldTimerExpiry l) s = .next s)

/-- The value and status of a selection by the tables of R67 and R68, the record after it, and LIVE_DISAGREE on entry into DISAGREE
alone. -/
def Obligations.SelectionChooses : Prop :=
  ∀ (l : LivePoint) (g : GradeId) (s : State),
    let x := s.liveItem l
    let sel := (select l g s).1
    let t := (select l g s).2
    let tol : Int := s.tolerance l
    let near := ∀ a ∈ x.f, ∀ b ∈ x.f, a.2 - b.2 ≤ tol
    let dflt : Int := match liveQuantity l with | .temp => 1500 | .press => 0 | .bsw => (s.grade g).bsw
    (x.f = [] → x.record.lastValue = none → sel = ⟨dflt, .dflt⟩)
      ∧ (∀ v, x.f = [] → x.record.lastValue = some v → x.record.supply = .holding → sel = ⟨v, .held⟩)
      ∧ (∀ v, x.f = [] → x.record.lastValue = some v → x.record.supply = .lapsed → sel = ⟨v, .failed⟩)
      ∧ (∀ a, x.f = [a] → sel = ⟨a.2, .single⟩)
      ∧ (2 ≤ x.f.length → near → sel = ⟨halfAway (x.f.map (·.2)).sum x.f.length, .agreed⟩)
      ∧ (2 ≤ x.f.length → ¬ near → sel.status = .disagree
          ∧ (∀ v, ((s.limits (liveUnit l)).preferred, v) ∈ x.f → sel.value = v)
          ∧ ((∀ v, ((s.limits (liveUnit l)).preferred, v) ∉ x.f) → x.f.head?.map (·.2) = some sel.value))
      ∧ (t.liveItem l).slots = x.slots ∧ (t.liveItem l).record = { x.record with
          lastStatus := some sel.status
          lastValue := if sel.status = .single ∨ sel.status = .agreed ∨ sel.status = .disagree then some sel.value
            else x.record.lastValue }
      ∧ t.links = (if sel.status = .disagree ∧ x.record.lastStatus ≠ some .disagree then
          (s.postAll .liveDisagree (unitBit (liveUnit l))).links else s.links)

/-- SET LIVE LIMITS from the holder of a unit: the limits take the values, the BSW tolerance only for a run, and slots, records and
timers keep theirs; for the prover it is refused with PROVING while a prove is RUNNING, whatever its values, and then a value outside its
range is refused with RANGE. -/
def Obligations.LiveLimitsAreSet : Prop :=
  (∀ (p : Port) (u : UnitId) (st hold tolT tolP tolB : Nat) (pref : Port) (s : State), s.retention.supplied = true →
    s.holds p u = true → 1 ≤ st → st ≤ 60 → 10 ≤ hold → hold ≤ 3600 → tolT ≤ 1000 → tolP ≤ 1000 →
    (u ≠ .prover → tolB ≤ 100000) →
    let n := renewed p [u] s
    let put : Host.Outcome State Fault Refusal :=
      exec (.setLiveLimits p (unitNumber u) st hold tolT tolP tolB (portNumber pref)) s
    (u = .prover → s.proveRunning = true → put = .next (answered p .proving 14 .empty n))
      ∧ ((u = .prover → s.proveRunning = false) → ∃ t : State, put = .next (answered p .ok 14 .empty { n with live := t.live })
        ∧ t.limits u = { staleness := st, hold := hold, tolT := tolT, tolP := tolP, preferred := pref }
        ∧ (∀ r, (t.live.runs.get r).tolBsw = if u = .run r then tolB else (s.live.runs.get r).tolBsw)
        ∧ (∀ u', u' ≠ u → t.limits u' = s.limits u') ∧ ∀ l, t.liveItem l = s.liveItem l))
  ∧ (∀ (p : Port) (st hold tolT tolP tolB pref : Nat) (s : State), s.retention.supplied = true →
    s.holds p .prover = true → s.proveRunning = true →
    exec (.setLiveLimits p 5 st hold tolT tolP tolB pref) s = .next (answered p .proving 14 .empty (renewed p [.prover] s)))
  ∧ (∀ (p : Port) (u : UnitId) (st hold tolT tolP tolB pref : Nat) (s : State), s.retention.supplied = true →
    s.holds p u = true → (u = .prover → s.proveRunning = false) →
    (st < 1 ∨ 60 < st ∨ hold < 10 ∨ 3600 < hold ∨ 1000 < tolT ∨ 1000 < tolP ∨ (u ≠ .prover ∧ 100000 < tolB)
      ∨ pref < 1 ∨ 3 < pref) →
    exec (.setLiveLimits p (unitNumber u) st hold tolT tolP tolB pref) s
      = .next (answered p .range 14 .empty (renewed p [u] s)))

/-! ## Chapter 5: totals and readings -/

/-- The bank takes the run's oldest arrival: the run's totals, its unassigned totals when there is no destination, its period count
and the station totals, all modulo 10¹². With none waiting nothing arrives (log entry 5). -/
def Obligations.BankAddsArrival : Prop :=
  ∀ (r : Run) (s : State), s.retention.supplied = true →
    (s.toBank.get r = [] → exec (.incrementArrivalAtBank r) s = .next s)
      ∧ ∀ a rest, s.toBank.get r = a :: rest →
        let b := s.bank
        let x := b.runs.get a.run
        let m := 1000000000000
        let un (n : Nat) : Nat := if a.destination = none then n else 0
        exec (.incrementArrivalAtBank r) s = .next { s with
          toBank := s.toBank.set r rest
          bank := {
            runs := b.runs.set a.run { x with
              iv := (x.iv + a.ivInc) % m, gsv := (x.gsv + a.gsvInc) % m, nsv := (x.nsv + a.nsvInc) % m
              rev := (x.rev + a.revInc) % m, periods := (x.periods + 1) % m
              unIv := (x.unIv + un a.ivInc) % m, unGsv := (x.unGsv + un a.gsvInc) % m
              unNsv := (x.unNsv + un a.nsvInc) % m }
            iv := (b.iv + a.ivInc) % m, gsv := (b.gsv + a.gsvInc) % m, nsv := (b.nsv + a.nsvInc) % m
            rev := (b.rev + a.revInc) % m } }

/-- READ TOTALS in the effective width of R81: NARROW gives each total modulo 10⁸, the override flag inverts the port's width, and a
reading changes nothing. PARCEL PROGRESS gives the fields of R83 for the CURRENT slot, its NSV summed over its portions, with the level
that is driven. -/
def Obligations.TotalsAreRead : Prop :=
  ∀ (p : Port) (r : Run) (flag : Bool) (s : State), s.retention.supplied = true →
    let w : Width := if ((s.link p).width = .narrow) ↔ flag = true then .wide else .narrow
    let give (n : Nat) : Nat := if w = .narrow then n % 100000000 else n
    let x := s.totals r
    let b := s.bank
    let n := renewed p [.run r] s
    let nsv (i : SlotId) : Nat := ((runs.filterMap (s.slot i).portions.get).map (·.nsv)).sum
    exec (.readTotals p (runNumber r) flag 1) s = .next (answered p .ok 16 (.runTotals r (s.calcOf r).runState w
        { iv := give x.iv, gsv := give x.gsv, nsv := give x.nsv, rev := give x.rev, unIv := give x.unIv, unGsv := give x.unGsv,
          unNsv := give x.unNsv, periods := give x.periods, offline := give x.offline }) n)
      ∧ exec (.readTotals p 0 flag 2) s = .next (answered p .ok 16 (.stationTotals (give b.iv) (give b.gsv) (give b.nsv)
          (give b.rev) s.terminalTime (decide (s.retention.battery ≠ .normal)) w) s)
      ∧ exec (.readTotals p (runNumber r) flag 3) s = .next (answered p .ok 16 (.lastPeriod (s.calcOf r).lastPeriod) n)
      ∧ (∃ v, exec (.readTotals p 0 flag 4) s = .next (answered p .ok 16 (.progress v) s)
        ∧ (∀ i, v.slot = some i → (s.slot i).state = .current) ∧ (v.slot = none → ∀ i, (s.slot i).state ≠ .current)
        ∧ v.current = s.ring.current ∧ v.resumePending = s.ring.resumePending
        ∧ v.driven = (if s.ring.resumePending = true then .stop else s.ring.level)
        ∧ v.closing = s.ring.closing.map (fun c => (c.slot, c.owing))
        ∧ (v.slot = none → v.kind = none ∧ v.parcelNsv = none ∧ v.target = none ∧ v.remaining = none)
        ∧ ∀ i f, v.slot = some i → (s.slot i).form = some f → v.kind = some (formKind f)
          ∧ v.parcelNsv = (if formKind f = .hold then none else some (nsv i))
          ∧ v.target = formTarget f ∧ v.remaining = (formTarget f).map (fun target => (target : Int) - nsv i))
      ∧ (∀ unit group, (group = 0 ∨ 4 < group) →
          exec (.readTotals p unit flag group) s = .next (answered p .range 16 .empty s))
      ∧ (∀ unit, unit ≠ 0 → exec (.readTotals p unit flag 2) s = .next (answered p .range 16 .empty s)
          ∧ exec (.readTotals p unit flag 4) s = .next (answered p .range 16 .empty s))
      ∧ (∀ unit, runOf unit = none →
          exec (.readTotals p unit flag 1) s = .next (answered p .range 16 .empty (renewed p (namedUnits unit) s))
            ∧ exec (.readTotals p unit flag 3) s = .next (answered p .range 16 .empty (renewed p (namedUnits unit) s)))

/-- The readings that need no claim: each answers OK from the state it is taken in and changes nothing but the buffer and, where it
names a unit, the holder's timer; a unit or grade outside its range is refused with RANGE (READ SLOT's in SlotsBeforeTheTake). -/
def Obligations.ReadingsChangeNothing : Prop :=
  (∀ (p : Port) (r : Run) (g : GradeId) (i : SlotId) (s : State), s.retention.supplied = true →
      let n := renewed p [.run r] s
      let m := renewed p [.prover] s
      let x := s.slot i
      exec (.readRun p (runNumber r)) s = .next (answered p .ok 6 (.run (s.checker r) (s.calcOf r)
          (s.liveItem (.run r .temp)).record (s.liveItem (.run r .press)).record (s.liveItem (.run r .bsw)).record
          (n.claimView (.run r)) (s.provingRun r)) n)
        ∧ exec (.readCurve p (runNumber r)) s = .next (answered p .ok 10 (.curve (s.curve r)) n)
        ∧ exec (.readGrade p 0 (g.val + 1)) s = .next (answered p .ok 12 (.grade (s.grade g) (s.gradeInUse g)) s)
        ∧ exec (.readLive p (runNumber r)) s = .next (answered p .ok 15 (.runLive (s.live.runs.get r)) n)
        ∧ exec (.readLive p 5) s = .next (answered p .ok 15 (.proverLive s.live.prover) m)
        ∧ exec (.readNotices p 0) s
            = .next (answered p .ok 35 (.notices (s.link p).notices (s.link p).mask (s.link p).width) s)
        ∧ ∃ y, exec (.readSlot p 0 i.val) s = .next (answered p .ok 21 (.slot y) s)
          ∧ y.state = x.state ∧ y.reserver = x.reserver ∧ y.form = x.form ∧ y.ticket = none
          ∧ (y.openTime = if x.state = .current ∨ x.state = .closing ∨ x.state = .complete then x.openTime else none)
          ∧ (x.state = .complete → y.collected = x.collected))
  ∧ (∀ (p : Port) (unit grade : Nat) (s : State), s.retention.supplied = true →
      let n := renewed p (namedUnits unit) s
      ((unit = 0 ∨ 4 < unit) → exec (.readRun p unit) s = .next (answered p .range 6 .empty n)
          ∧ exec (.readCurve p unit) s = .next (answered p .range 10 .empty n))
        ∧ ((unit = 0 ∨ 5 < unit) → exec (.readLive p unit) s = .next (answered p .range 15 .empty s))
        ∧ ((unit ≠ 0 ∨ grade = 0 ∨ 8 < grade) → exec (.readGrade p unit grade) s = .next (answered p .range 12 .empty s))
        ∧ (unit ≠ 0 → exec (.readNotices p unit) s = .next (answered p .range 35 .empty s)))

/-- READ PROVE: the configuration, the engine, the record and the records from the first pass number on, in order and whole, as many
as a body of 512 bytes holds, by the record sizes of log entry 14; and nothing changes. A unit other than 5, or a first pass number
outside 1 to 20, is refused with RANGE. -/
def Obligations.ProveIsRead : Prop :=
  (∀ (p : Port) (first : Nat) (s : State), s.retention.supplied = true →
      let m := renewed p [.prover] s
      let wanted := s.prove.result.passes.filter (fun x => decide (first ≤ x.number))
      let body (page : List PassRecord) : Body := .prove {
        config := s.prove.config, engine := s.prove.engine, passTimer := s.prove.passTimer, working := s.prove.working,
        result := s.prove.result, page := page }
      ((first = 0 ∨ 20 < first) → exec (.readProve p 5 first) s = .next (answered p .range 29 .empty m))
        ∧ (1 ≤ first → first ≤ 20 → ∃ page rest, exec (.readProve p 5 first) s = .next (answered p .ok 29 (body page) m)
          ∧ wanted = page ++ rest
          ∧ (page ≠ [] → (bodyBytes (body page)).length ≤ 512)
          ∧ ∀ y rest', rest = y :: rest' → 512 < (bodyBytes (body page)).length + (passBytes y).length))
  ∧ (∀ (p : Port) (unit first : Nat) (s : State), s.retention.supplied = true → unit ≠ 5 →
      exec (.readProve p unit first) s = .next (answered p .range 29 .empty (renewed p (namedUnits unit) s)))

/-! ## Chapters 6 and 7: the ring -/

/-- RESERVE SLOT gives slot[tail] to the port and advances the tail, or answers RING_FULL; WRITE SLOT sets the control form of a slot that
the port has reserved, ARM SLOT fixes it, and CANCEL SLOT makes a RESERVED or ARMED slot of its reserver VOID; where the slot is the
head slot and the engine is IDLE, ARM SLOT and CANCEL SLOT take the next slot in the same event, and elsewhere no take follows. Each is
refused with STATE, NOT_OWNER, RANGE or ORDER as its checks say, and every slot request with RANGE for a unit field other than 0 or a
slot number above 7. -/
def Obligations.SlotsBeforeTheTake : Prop :=
  (∀ (p : Port) (i : SlotId) (s : State), s.retention.supplied = true →
      let tail := s.ring.tail
      let x := s.slot i
      ((s.slot tail).state = .free → exec (.reserveSlot p 0) s = .next (answered p .ok 17 (.slotNumber tail) { s with
          ring := { s.ring with
            tail := tail + 1
            slots := s.ring.slots.set tail { state := .reserved, reserver := some p, form := none, openTime := none,
                                             portions := .all none, ticket := none, collected := .all false } } }))
        ∧ ((s.slot tail).state ≠ .free → exec (.reserveSlot p 0) s = .next (answered p .ringFull 17 .empty s))
        ∧ (x.state = .reserved → x.reserver = some p → ∀ (f : RawForm) (g : GradeId), f.parcel ≤ 4294967295 →
            let wit : PortSet := ⟨decide (f.witness % 2 = 1), decide (f.witness / 2 % 2 = 1), decide (f.witness / 4 % 2 = 1)⟩
            let mode : ResumeMode := if f.resume = 0 then .auto else .manual
            let put (form : ControlForm) : Prop :=
              exec (.writeSlot p 0 i.val f) s = .next (answered p .ok 18 .empty (s.setSlot i { x with form := some form }))
            let common := f.grade = g.val + 1 ∧ 1 ≤ f.witness ∧ f.witness ≤ 7 ∧ f.resume ≤ 1
            (f.kind = 0 → common → 1 ≤ f.target → f.target ≤ 10000000000 → f.trim ≤ 10000000000 → f.stop ≤ 10000000000 →
                1 ≤ f.quiet → f.quiet ≤ 255 → put (.normal f.parcel g f.target f.trim f.stop f.quiet wit mode))
              ∧ (f.kind = 1 → common → put (.standing f.parcel g wit mode))
              ∧ (f.kind = 2 → put (.hold f.parcel)))
        ∧ (x.state = .reserved → x.reserver = some p → ∀ f : RawForm,
            (2 < f.kind
              ∨ (f.kind < 2 ∧ (f.grade < 1 ∨ 8 < f.grade ∨ f.witness < 1 ∨ 7 < f.witness ∨ 1 < f.resume))
              ∨ (f.kind = 0 ∧ (f.target < 1 ∨ 10000000000 < f.target ∨ 10000000000 < f.trim ∨ 10000000000 < f.stop
                  ∨ f.quiet < 1 ∨ 255 < f.quiet))) →
            exec (.writeSlot p 0 i.val f) s = .next (answered p .range 18 .empty s))
        ∧ (x.state ≠ .reserved → ∀ f, exec (.writeSlot p 0 i.val f) s = .next (answered p .state 18 .empty s)
            ∧ exec (.armSlot p 0 i.val) s = .next (answered p .state 19 .empty s))
        ∧ (x.state = .reserved → x.reserver ≠ some p → ∀ f,
            exec (.writeSlot p 0 i.val f) s = .next (answered p .notOwner 18 .empty s)
              ∧ exec (.armSlot p 0 i.val) s = .next (answered p .notOwner 19 .empty s))
        ∧ (x.state ≠ .reserved → x.state ≠ .armed →
          exec (.cancelSlot p 0 i.val) s = .next (answered p .state 20 .empty s))
        ∧ ((x.state = .reserved ∨ x.state = .armed) → x.reserver ≠ some p →
          exec (.cancelSlot p 0 i.val) s = .next (answered p .notOwner 20 .empty s)))
  ∧ (∀ (p : Port) (i : SlotId) (f : ControlForm) (s : State), s.retention.supplied = true →
      let x := s.slot i
      x.reserver = some p →
      let awaits := s.ring.head ≠ i ∨ s.ring.current ≠ .idle
      let armed := s.setSlot i { x with state := .armed }
      let void := s.setSlot i { x with state := .void }
      let fits := match f with | .normal _ _ target trim stop _ _ _ => stop ≤ trim ∧ trim ≤ target | _ => True
      (x.state = .reserved → x.form = some f → fits → awaits →
          exec (.armSlot p 0 i.val) s = .next (answered p .ok 19 .empty armed))
        ∧ (x.state = .reserved → x.form = some f → fits → ¬ awaits →
          exec (.armSlot p 0 i.val) s = .next (answered p .ok 19 .empty (takeNext armed)))
        ∧ (x.state = .reserved → x.form = some f → ¬ fits →
          exec (.armSlot p 0 i.val) s = .next (answered p .order 19 .empty s))
        ∧ (x.state = .reserved → x.form = none →
          exec (.armSlot p 0 i.val) s = .next (answered p .range 19 .empty s))
        ∧ (x.state = .reserved ∨ x.state = .armed → awaits →
          exec (.cancelSlot p 0 i.val) s = .next (answered p .ok 20 .empty void))
        ∧ (x.state = .reserved ∨ x.state = .armed → ¬ awaits →
          exec (.cancelSlot p 0 i.val) s = .next (answered p .ok 20 .empty (takeNext void))))
  ∧ (∀ (p : Port) (unit n : Nat) (f : RawForm) (s : State), s.retention.supplied = true →
      (unit ≠ 0 → exec (.reserveSlot p unit) s = .next (answered p .range 17 .empty s)
          ∧ exec (.releaseHold p unit) s = .next (answered p .range 22 .empty s)
          ∧ exec (.resumeLoading p unit) s = .next (answered p .range 23 .empty s))
        ∧ ((unit ≠ 0 ∨ 7 < n) → exec (.writeSlot p unit n f) s = .next (answered p .range 18 .empty s)
          ∧ exec (.armSlot p unit n) s = .next (answered p .range 19 .empty s)
          ∧ exec (.cancelSlot p unit n) s = .next (answered p .range 20 .empty s)
          ∧ exec (.readSlot p unit n) s = .next (answered p .range 21 .empty s)
          ∧ exec (.cutParcel p unit n) s = .next (answered p .range 24 .empty s)
          ∧ exec (.readTicket p unit n) s = .next (answered p .range 25 .empty s)))

/-- Arming the head slot while the engine is IDLE takes it: a parcel opens with FULL and becomes the target of every ONLINE run that
has none, and a hold begins with STOP and PARCEL_STAGE held at every port. Every take follows the table of R98: a VOID head slot becomes
FREE, head advances and the next slot is taken; any other slot that is not ARMED leaves the engine IDLE with STOP. -/
def Obligations.TakeOpensTheHeadSlot : Prop :=
  (∀ (p : Port) (f : ControlForm) (s : State), s.retention.supplied = true →
    let i := s.ring.head
    let x := s.slot i
    x.state = .reserved → x.reserver = some p → x.form = some f → marginsOk f = true → s.ring.current = .idle →
    let taken := { x with state := .current, openTime := some s.terminalTime, portions := .all none }
    ∃ t, exec (.armSlot p 0 i.val) s = .next (answered p .ok 19 .empty t)
      ∧ t.slot i = taken ∧ (∀ j, j ≠ i → t.slot j = s.slot j) ∧ t.ring.head = i + 1 ∧ t.ring.tail = s.ring.tail
      ∧ t.ring.closing = s.ring.closing ∧ t.bank = s.bank ∧ t.live = s.live ∧ t.prove = s.prove ∧ t.claims = s.claims
      ∧ (formKind f ≠ .hold → t.ring.current = .opened ∧ t.ring.level = .full ∧ t.links = s.links
          ∧ ∀ r, t.calcOf r = if (s.calcOf r).runState = .online ∧ (s.calcOf r).target = none
              then { s.calcOf r with target := some i } else s.calcOf r)
      ∧ (formKind f = .hold → t.ring.current = .held ∧ t.ring.level = .stop ∧ t.calcs = s.calcs
          ∧ t.links = (s.postAll .parcelStage stageHeld).links))
  ∧ (∀ s : State,
    let i := s.ring.head
    let x := s.slot i
    let free : RingSlot := { state := .free, reserver := none, form := none, openTime := none, portions := .all none,
                             ticket := none, collected := .all false }
    let opened (current : CurrentState) (level : Permissive) : State := { s with ring := { s.ring with
      slots := s.ring.slots.set i { x with state := .current, openTime := some s.terminalTime, portions := .all none }
      current := current, level := level, head := i + 1 } }
    (x.state = .void → takeNext s
        = takeNext { s with ring := { s.ring with slots := s.ring.slots.set i free, head := i + 1 } })
      ∧ (x.state = .armed → ∀ f, x.form = some f → formKind f ≠ .hold → takeNext s = { opened .opened .full with
          calcs := s.calcs.map (fun k =>
            if k.runState = .online ∧ k.target = none then { k with target := some i } else k) })
      ∧ (x.state = .armed → ∀ f, x.form = some f → formKind f = .hold →
          takeNext s = (opened .held .stop).postAll .parcelStage stageHeld)
      ∧ (x.state ≠ .void → x.state ≠ .armed →
          takeNext s = { s with ring := { s.ring with current := .idle, level := .stop } }))

/-- RELEASE HOLD frees the HOLD slot and takes the next, whatever the head slot is, and is refused with STATE outside HELD; RESUME LOADING
clears resume pending, whereupon the outputs follow the permissive level, and is refused with STATE while it is clear. -/
def Obligations.HoldAndResume : Prop :=
  ∀ (p : Port) (s : State), s.retention.supplied = true →
    (s.ring.current ≠ .held → exec (.releaseHold p 0) s = .next (answered p .state 22 .empty s))
      ∧ (∀ i, s.ring.current = .held → s.currentSlot = some i →
          exec (.releaseHold p 0) s = .next (answered p .ok 22 .empty (takeNext { s with
            ring := { s.ring with slots := s.ring.slots.set i .empty } })))
      ∧ (∀ i, s.ring.current = .held → s.currentSlot = some i →
          (s.ring.head ≠ i → (s.slot s.ring.head).state ≠ .void ∧ (s.slot s.ring.head).state ≠ .armed) →
          exec (.releaseHold p 0) s = .next (answered p .ok 22 .empty { s with
            ring := { s.ring with slots := s.ring.slots.set i .empty, current := .idle, level := .stop } }))
      ∧ (s.ring.resumePending = false → exec (.resumeLoading p 0) s = .next (answered p .state 23 .empty s))
      ∧ (s.ring.resumePending = true → ∃ t, exec (.resumeLoading p 0) s = .next (answered p .ok 23 .empty t)
          ∧ t = { s with ring := { s.ring with resumePending := false } }
          ∧ (t.fullPermit = true ↔ s.ring.level = .full) ∧ (t.trimPermit = true ↔ s.ring.level ≠ .stop)
          ∧ s.fullPermit = false ∧ s.trimPermit = false)

/-- CUT PARCEL of the CURRENT parcel starts its closing: the slot is CLOSING with the reason and the time, every ONLINE run whose
target it is owes its last delivery, and resume pending is cleared. It is refused with STATE in IDLE and in HELD and for a slot that is
not CURRENT, and then with BUSY while a closing is in progress. As the last step of the event the engine takes the next slot by the
table of R98 (R115 step 6), after the ticket where no run owes: an ARMED head slot becomes CURRENT at once. -/
def Obligations.CutStartsAClosing : Prop :=
  ∀ (p : Port) (i : SlotId) (s : State), s.retention.supplied = true →
    ((s.ring.current = .idle ∨ s.ring.current = .held ∨ (s.slot i).state ≠ .current) →
        exec (.cutParcel p 0 i.val) s = .next (answered p .state 24 .empty s))
      ∧ (s.parcelOpen = true → (s.slot i).state = .current → s.ring.closing ≠ none →
          exec (.cutParcel p 0 i.val) s = .next (answered p .busy 24 .empty s))
      ∧ (s.parcelOpen = true → (s.slot i).state = .current → s.ring.closing = none →
          let begun : State := { s with ring := { s.ring with
            slots := s.ring.slots.set i { s.slot i with state := .closing }
            current := .idle, resumePending := false
            closing := some { slot := i, reason := if s.ring.current = .topped then .cutTopped else .cut, closeTime := s.terminalTime,
                              owing := s.calcs.map (fun k => decide (k.runState = .online ∧ k.target = some i)) } } }
          ∃ t, exec (.cutParcel p 0 i.val) s = .next (answered p .ok 24 .empty t)
            ∧ t.ring.resumePending = false ∧ t.bank = s.bank ∧ t.live = s.live ∧ t.prove = s.prove ∧ t.claims = s.claims
            ∧ (t.slot i).portions = (s.slot i).portions ∧ (t.slot i).form = (s.slot i).form
            ∧ ((∃ r, (s.calcOf r).runState = .online ∧ (s.calcOf r).target = some i) →
                (t.slot i).state = .closing ∧ ∃ c, t.ring.closing = some c ∧ c.slot = i
                  ∧ c.reason = (if s.ring.current = .topped then .cutTopped else .cut) ∧ c.closeTime = s.terminalTime
                  ∧ ∀ r, c.owing.get r = true ↔ (s.calcOf r).runState = .online ∧ (s.calcOf r).target = some i)
            ∧ ((∀ r, (s.calcOf r).runState = .offline ∨ (s.calcOf r).target ≠ some i) →
                (t.slot i).state = .complete ∧ t.ring.closing = none ∧ (t.slot i).ticket.isSome = true)
            ∧ ((∃ r, (s.calcOf r).runState = .online ∧ (s.calcOf r).target = some i) → t = takeNext begun)
            ∧ ((∀ r, (s.calcOf r).runState = .offline ∨ (s.calcOf r).target ≠ some i) → t = takeNext (writeTicket begun))
            ∧ (∀ f, (s.slot s.ring.head).state = .armed → (s.slot s.ring.head).form = some f →
                (t.slot s.ring.head).state = .current ∧ t.ring.head = s.ring.head + 1
                  ∧ t.ring.current = (if formKind f = .hold then .held else .opened)
                  ∧ t.ring.level = (if formKind f = .hold then .stop else .full)))

/-- An arrival joins its run's portion of its destination parcel, whatever else it brings about: the portion is created from it, or each of
its sums grows by the arrival's own, its last values become the arrival's, and its flags take in the arrival's, with K_CHANGED where the
K-factor is not the portion's first. -/
def Obligations.ArrivalJoinsItsPortion : Prop :=
  ∀ (r : Run) (a : Arrival) (i : SlotId) (s : State), s.retention.supplied = true → s.toEngine.get r = some a →
    a.destination = some i → ((s.slot i).state = .current ∨ (s.slot i).state = .closing) →
    ∃ t y, exec (.incrementArrivalAtEngine r) s = .next t ∧ t.toEngine.get r = none ∧ t.bank = s.bank
      ∧ t.ring.watch = true ∧ (t.slot i).portions.get a.run = some y ∧ (∀ q, q ≠ a.run →
        (t.slot i).portions.get q = (s.slot i).portions.get q)
      ∧ y.lastTemp = a.temp ∧ y.lastP = a.p ∧ y.lastBsw = a.bsw ∧ y.lastMf = a.mf ∧ y.lastCcf = a.ccf ∧ y.lastTime = a.endTime
      ∧ ((s.slot i).portions.get a.run = none → y.run = a.run ∧ y.periods = 1 ∧ y.pulses = a.pulses ∧ y.iv = a.ivInc
          ∧ y.gsv = a.gsvInc ∧ y.nsv = a.nsvInc ∧ y.kUsed = a.kmilli ∧ y.tempSum = a.tempWeighted
          ∧ y.pSum = a.pWeighted ∧ y.bswSum = a.bswWeighted ∧ y.mfSum = a.mfWeighted ∧ y.ccfSum = a.ccfWeighted
          ∧ y.flags = a.flags ∧ y.firstTime = a.endTime)
      ∧ (∀ x, (s.slot i).portions.get a.run = some x → y.run = x.run ∧ y.periods = x.periods + 1
          ∧ y.pulses = x.pulses + a.pulses ∧ y.iv = x.iv + a.ivInc ∧ y.gsv = x.gsv + a.gsvInc ∧ y.nsv = x.nsv + a.nsvInc
          ∧ y.kUsed = x.kUsed ∧ y.tempSum = x.tempSum + a.tempWeighted ∧ y.pSum = x.pSum + a.pWeighted
          ∧ y.bswSum = x.bswSum + a.bswWeighted ∧ y.mfSum = x.mfSum + a.mfWeighted ∧ y.ccfSum = x.ccfSum + a.ccfWeighted
          ∧ (∀ flag ∈ periodFlags, flag y.flags = (flag x.flags || flag a.flags))
          ∧ y.flags.kChanged = (x.flags.kChanged || a.flags.kChanged || decide (a.kmilli ≠ x.kUsed))
          ∧ y.flags.toppedReached = (x.flags.toppedReached || a.flags.toppedReached)
          ∧ y.firstTime = x.firstTime)

/-- What an arrival at the Parcel Engine brings about besides joining its portion. With no destination the unassigned watch is all it
touches, and PARCEL_STAGE unassigned is posted at the first that carries pulses after an assigned one (with none waiting nothing
arrives, log entry 5). To the CURRENT slot of kind NORMAL, the permissive is evaluated by the table of R101 with the arrival's NSV in.
From a run that owes the closing parcel, its portion closes: a pending K is applied, its target moves on and it leaves the owing set,
and the last to leave has the ticket written with an entry for it (an arrival that waited when the closing started, log entry 23). To
a TOPPED parcel while every ONLINE run has been quiet for its quiet periods, the closing starts with QUIET, the delivering run owes
nothing, and as the last step the engine takes the next slot by the table of R98 (R115 step 6), which that run may have as its
target. -/
def Obligations.WatchAndPermissive : Prop :=
  (∀ (r : Run) (s : State), s.retention.supplied = true →
      (s.toEngine.get r = none → exec (.incrementArrivalAtEngine r) s = .next s)
        ∧ ∀ a, s.toEngine.get r = some a → a.destination = none →
          let t := { s with toEngine := s.toEngine.set r none }
          let u := { t with ring := { s.ring with watch := false } }
          exec (.incrementArrivalAtEngine r) s = .next (if a.pulses = 0 then t
            else if s.ring.watch = true then u.postAll .parcelStage stageUnassigned else u))
  ∧ (∀ (i : SlotId) (s : State) (n : Nat) (g : GradeId) (target trim stop quiet : Nat) (w : PortSet) (m : ResumeMode),
      (s.slot i).state = .current → (s.slot i).form = some (.normal n g target trim stop quiet w m) →
      let remaining : Int := (target : Int) - (s.slot i).parcelNsv
      (s.ring.current = .opened → remaining ≤ stop → evaluatePermissive i s
          = { s with ring := { s.ring with current := .topped, level := .stop } }.postAll .parcelStage stageStop)
        ∧ (s.ring.current = .opened → s.ring.level = .full → (stop : Int) < remaining → remaining ≤ trim →
            evaluatePermissive i s = { s with ring := { s.ring with level := .trim } }.postAll .parcelStage stageTrim)
        ∧ (s.ring.current = .opened → s.ring.level = .full → (stop : Int) < remaining → (trim : Int) < remaining →
            evaluatePermissive i s = s)
        ∧ (s.ring.current = .opened → s.ring.level = .trim → (stop : Int) < remaining → evaluatePermissive i s = s)
        ∧ (s.ring.current = .topped → evaluatePermissive i s = s))
  ∧ (∀ (r : Run) (a : Arrival) (i : SlotId) (s : State) (n : Nat) (g : GradeId) (target trim stop quiet : Nat) (w : PortSet)
        (m : ResumeMode), s.retention.supplied = true → s.RingSound → s.toEngine.get r = some a → a.destination = some i →
      (s.slot i).state = .current → (s.slot i).form = some (.normal n g target trim stop quiet w m) → s.ring.current = .opened →
      (∃ q, (s.calcOf q).runState = .online ∧ (s.calcOf q).quiet < quiet) →
      let remaining : Int := (target : Int) - ((s.slot i).parcelNsv + a.nsvInc)
      ∃ t, exec (.incrementArrivalAtEngine r) s = .next t ∧ t.calcs = s.calcs ∧ t.ring.closing = s.ring.closing
        ∧ (remaining ≤ stop → t.ring.current = .topped ∧ t.ring.level = .stop
            ∧ t.links = (s.postAll .parcelStage stageStop).links)
        ∧ ((stop : Int) < remaining → t.ring.current = .opened)
        ∧ ((stop : Int) < remaining → s.ring.level = .full → remaining ≤ trim → t.ring.level = .trim
            ∧ t.links = (s.postAll .parcelStage stageTrim).links)
        ∧ ((stop : Int) < remaining → (s.ring.level = .trim ∨ (trim : Int) < remaining) →
            t.ring.level = s.ring.level ∧ t.links = s.links))
  ∧ (∀ (r : Run) (a : Arrival) (c : Closing) (s : State), s.retention.supplied = true → s.RingSound →
      s.toEngine.get r = some a → a.run = r → s.ring.closing = some c → c.owing.get r = true → a.destination = some c.slot →
      let k := s.calcOf r
      let k' := match k.pendingK with
        | none => k
        | some x => { k with kmilli := x, rI := k.rI * x / k.kmilli, rR := k.rR * x / k.kmilli, pendingK := none }
      ∃ t, exec (.incrementArrivalAtEngine r) s = .next t
        ∧ t.calcs = s.calcs.set r { k' with
            target := if s.ring.current = .opened ∨ s.ring.current = .topped then s.currentSlot else none }
        ∧ t.ring.head = s.ring.head ∧ t.ring.current = s.ring.current ∧ t.ring.level = s.ring.level
        ∧ ((∃ q, q ≠ r ∧ c.owing.get q = true) → t.ring.closing = some { c with owing := c.owing.set r false }
            ∧ (t.slot c.slot).state = .closing ∧ t.links = s.links)
        ∧ ((∀ q, q ≠ r → c.owing.get q = false) → t.ring.closing = none ∧ (t.slot c.slot).state = .complete
            ∧ ∃ x, (t.slot c.slot).ticket = some x ∧ x.reason = c.reason ∧ x.closeTime = c.closeTime
              ∧ ∃ y ∈ x.portions, y.run = r))
  ∧ (∀ (r : Run) (a : Arrival) (i : SlotId) (s : State) (n : Nat) (g : GradeId) (target trim stop quiet : Nat) (w : PortSet)
        (m : ResumeMode), s.retention.supplied = true → s.RingSound → s.toEngine.get r = some a → a.run = r →
      a.destination = some i → (s.slot i).state = .current → (s.slot i).form = some (.normal n g target trim stop quiet w m) →
      s.ring.current = .topped → s.ring.closing = none → (s.calcOf r).runState = .online → (s.calcOf r).target = some i →
      (∀ q, (s.calcOf q).runState = .online → quiet ≤ (s.calcOf q).quiet) →
      let owes (q : Run) : Prop := q ≠ r ∧ (s.calcOf q).runState = .online ∧ (s.calcOf q).target = some i
      let k := s.calcOf r
      ∃ t, exec (.incrementArrivalAtEngine r) s = .next t ∧ t.ring.resumePending = false
        ∧ (t.calcOf r).pendingK = none ∧ (t.calcOf r).kmilli = k.pendingK.getD k.kmilli
        ∧ (t.calcOf r).target = (if t.ring.current = .opened then t.currentSlot else none)
        ∧ ((∃ q, owes q) → (t.slot i).state = .closing ∧ ∃ c, t.ring.closing = some c ∧ c.slot = i ∧ c.reason = .quiet
            ∧ c.closeTime = s.terminalTime ∧ ∀ q, c.owing.get q = true ↔ owes q)
        ∧ ((∀ q, ¬ owes q) → (t.slot i).state = .complete ∧ t.ring.closing = none
            ∧ ∃ x, (t.slot i).ticket = some x ∧ x.reason = .quiet ∧ x.closeTime = s.terminalTime)
        ∧ (∃ u, t = takeNext u ∧ u.ring.head = s.ring.head ∧ u.ring.tail = s.ring.tail ∧ u.ring.current = .idle
            ∧ u.slot i = t.slot i ∧ (∀ j, j ≠ i → u.slot j = s.slot j) ∧ u.ring.closing = t.ring.closing
            ∧ (u.calcOf r).target = none ∧ (∀ q, q ≠ r → u.calcOf q = s.calcOf q) ∧ u.terminalTime = s.terminalTime)
        ∧ (∀ f, (s.slot s.ring.head).state = .armed → (s.slot s.ring.head).form = some f →
            (t.slot s.ring.head).state = .current ∧ t.ring.head = s.ring.head + 1
              ∧ t.ring.current = (if formKind f = .hold then .held else .opened)
              ∧ t.ring.level = (if formKind f = .hold then .stop else .full)
              ∧ (formKind f ≠ .hold → (t.calcOf r).target = some s.ring.head)))

/-- The ticket of a closing: the closing record's reason and time, the open time, the sums over the portions, the summary flags as the
union of theirs, the overrun of a NORMAL parcel, and for each portion an entry with its times, its flags and its five means; the slot is
COMPLETE, its grade is standing, and each witness alone is told. -/
def Obligations.TicketIsWritten : Prop :=
  ∀ (s : State) (c : Closing) (f : ControlForm) (g : GradeId) (w : PortSet), s.ring.closing = some c →
    (s.slot c.slot).form = some f → formGrade f = some g → formWitness f = some w →
    let x := s.slot c.slot
    let t := writeTicket s
    let parts := x.portions.r1.toList ++ x.portions.r2.toList ++ x.portions.r3.toList ++ x.portions.r4.toList
    let mean (sum : Int) (iv : Nat) (last : Int) : Int := if iv = 0 then last else halfAway sum iv
    ∃ k, (t.slot c.slot) = { x with state := .complete, ticket := some k, collected := .all false }
      ∧ t.ring.closing = none ∧ t.ring.standingGrade = g ∧ (∀ j, j ≠ c.slot → t.slot j = s.slot j)
      ∧ t.ring.head = s.ring.head ∧ t.ring.current = s.ring.current ∧ t.calcs = s.calcs ∧ t.bank = s.bank
      ∧ k.reason = c.reason ∧ k.closeTime = c.closeTime ∧ (∀ n, x.openTime = some n → k.openTime = n)
      ∧ k.iv = (parts.map (·.iv)).sum ∧ k.gsv = (parts.map (·.gsv)).sum ∧ k.nsv = (parts.map (·.nsv)).sum
      ∧ (∀ target, formTarget f = some target → k.overrun = k.nsv - target) ∧ (formTarget f = none → k.overrun = 0)
      ∧ (k.flags.toppedReached = true ↔ c.reason ≠ .cut ∨ ∃ y ∈ parts, y.flags.toppedReached = true)
      ∧ (k.flags.kChanged = true ↔ ∃ y ∈ parts, y.flags.kChanged = true)
      ∧ (∀ flag ∈ periodFlags, flag k.flags = true ↔ ∃ y ∈ parts, flag y.flags = true)
      ∧ k.portions.length = parts.length
      ∧ (∀ (n : Nat) y, parts[n]? = some y → ∃ e, k.portions[n]? = some e ∧ e.run = y.run ∧ e.periods = y.periods
          ∧ e.pulses = y.pulses ∧ e.iv = y.iv ∧ e.gsv = y.gsv ∧ e.nsv = y.nsv ∧ e.kUsed = y.kUsed ∧ e.flags = y.flags
          ∧ e.firstTime = y.firstTime ∧ e.lastTime = y.lastTime
          ∧ e.meanTemp = mean y.tempSum y.iv y.lastTemp ∧ (e.meanP : Int) = mean y.pSum y.iv y.lastP
          ∧ (e.meanBsw : Int) = mean y.bswSum y.iv y.lastBsw ∧ (e.meanMf : Int) = mean y.mfSum y.iv y.lastMf
          ∧ (e.meanCcf : Int) = mean y.ccfSum y.iv y.lastCcf)
      ∧ ∀ p, t.link p = if w.get p = true then
          { s.link p with notices := (s.link p).notices.post .ticketReady (slotBit c.slot) } else s.link p

/-- READ TICKET of a COMPLETE slot carries the ticket and the collected set after the read; a witness joins the set, the read that
completes it frees the slot, and a slot that is not COMPLETE is refused with STATE. -/
def Obligations.TicketIsReadAndCollected : Prop :=
  ∀ (p : Port) (i : SlotId) (f : ControlForm) (k : Ticket) (w : PortSet) (s : State), s.retention.supplied = true →
    let x := s.slot i
    let c := if w.get p = true then x.collected.set p true else x.collected
    (x.state ≠ .complete → exec (.readTicket p 0 i.val) s = .next (answered p .state 25 .empty s))
      ∧ (x.state = .complete → x.form = some f → x.ticket = some k → formWitness f = some w →
          exec (.readTicket p 0 i.val) s = .next (answered p .ok 25 (.ticket i f k c)
            (s.setSlot i (if c = w then { state := .free, reserver := none, form := none, openTime := none,
                                          portions := .all none, ticket := none, collected := .all false }
              else { x with collected := c }))))

/-! ## Chapter 8: requests -/

/-- SET PROVER from the prover's holder, refused with PROVING while a prove runs and then with RANGE; and START PROVE from the port that
holds the run and the prover: the checks in their order, and the items of R130, with both hold timers stopped. -/
def Obligations.ProveIsSetUp : Prop :=
  (∀ (p : Port) (bpv timeout det acc band : Nat) (s : State), s.retention.supplied = true → s.holds p .prover = true →
      let good := 10000 ≤ bpv ∧ bpv ≤ 500000000 ∧ 1 ≤ timeout ∧ timeout ≤ 600
        ∧ 1 ≤ det ∧ det ≤ 10 ∧ 100 ≤ acc ∧ acc ≤ 20000
        ∧ 1000 ≤ band ∧ band ≤ 200000
      let n := renewed p [.prover] s
      let put := exec (.setProver p 5 bpv timeout det acc band) s
      (s.proveRunning = true → put = .next (answered p .proving 26 .empty n))
        ∧ (s.proveRunning = false → ¬ good → put = .next (answered p .range 26 .empty n))
        ∧ (s.proveRunning = false → good → put = .next (answered p .ok 26 .empty { n with
            prove := { s.prove with
              config := { bpv := bpv, timeout := timeout, detectorLimit := det, acceptLimit := acc, band := band } } })))
  ∧ (∀ (p : Port) (r : Run) (k m tol csp : Nat) (s : State), s.retention.supplied = true → s.holds p (.run r) = true →
      s.holds p .prover = true →
      let n := renewed p [.run r, .prover] s
      let put := exec (.startProve p (runNumber r) k m tol csp) s
      let good := 2 ≤ k ∧ k ≤ 10 ∧ k ≤ m ∧ m ≤ 20 ∧ 50 ≤ tol ∧ tol ≤ 5000 ∧ 990000 ≤ csp ∧ csp ≤ 1010000
      let turnedAway (st : Status) : Prop := put = .next (answered p st 27 .empty n)
      (s.prove.result.state = .running → turnedAway .state)
        ∧ (s.prove.result.state = .complete → turnedAway .resultPending)
        ∧ (s.prove.result.state ≠ .running → s.prove.result.state ≠ .complete →
          (¬ good → turnedAway .range)
            ∧ (good → (s.calcOf r).runState = .offline → turnedAway .offline)
            ∧ (good → (s.calcOf r).runState = .online → (s.checker r).failed = true → turnedAway .pulseFailed)
            ∧ (good → (s.calcOf r).runState = .online → (s.checker r).failed = false →
                put = .next (answered p .ok 27 .empty { s with
                  claims := (s.claims.set (.run r) { s.claim (.run r) with timer := none }).set .prover
                    { s.claim .prover with timer := none }
                  prove := { s.prove with
                    engine := .awaitD1, passTimer := none, working := none
                    result := {
                      state := .running, reason := none, endTime := none, attempts := 0, consecutive := 0, detectorErrors := 0
                      mf := none, q := none, acceptance := none, passes := []
                      setup := some { run := r, port := p, n := k, maxAttempts := m, tolerance := tol, csp := csp,
                                      startTime := s.terminalTime } } } }))))

/-- ABORT PROVE from the prover's holder ends a RUNNING prove by the common end: the pass in progress is recorded ENDED, the engine is
IDLE, the held units' timers restart and PROVE_END is posted to every port; with no prove RUNNING it is refused with STATE. -/
def Obligations.ProveIsAborted : Prop :=
  ∀ (p : Port) (r : Run) (u : ProveSetup) (s : State), s.retention.supplied = true → s.holds p .prover = true →
    (s.proveRunning = false → exec (.abortProve p 5) s = .next (answered p .state 28 .empty (renewed p [.prover] s)))
      ∧ (s.prove.result.state = .running → s.prove.result.setup = some u → u.run = r →
        ∃ t, exec (.abortProve p 5) s = .next (answered p .ok 28 .empty t)
          ∧ t.prove.engine = .idle ∧ t.prove.passTimer = none ∧ t.prove.working = none
          ∧ t.prove.result.state = .aborted ∧ t.prove.result.reason = some .request
          ∧ t.prove.result.endTime = some s.terminalTime ∧ t.prove.result.mf = s.prove.result.mf
          ∧ (s.passInProgress = false → t.prove.result.passes = s.prove.result.passes)
          ∧ (s.passInProgress = true → ∃ y, t.prove.result.passes = s.prove.result.passes ++ [y]
              ∧ y.abandoned = some .ended ∧ y.number = s.prove.result.attempts)
          ∧ t.links = (s.postAll .proveEnd 0).links
          ∧ (∀ v, v = .run r ∨ v = .prover → (t.claim v).holder = (s.claim v).holder
              ∧ ((s.claim v).holder ≠ none → (t.claim v).timer = some ((s.claim v).holdTime * 10000000)))
          ∧ t.calcs = s.calcs ∧ t.checkers = s.checkers ∧ t.curves = s.curves ∧ t.ring = s.ring ∧ t.bank = s.bank)

/-- ACCEPT PROVE of a COMPLETE result: an enabled point in band takes the new MF, the nearest to Q and the lower of two as near;
with none in band a disabled point at Q is enabled with it, and else a point is inserted; a deviation above the limit needs the
force flag. That the deviation is recorded as a magnitude, and the forced marker as the flag was sent, is the model's choice (log
entry 19). With no COMPLETE result, or one of another run, it is refused with STATE. -/
def Obligations.ResultIsAccepted : Prop :=
  (∀ (p : Port) (r : Run) (u : ProveSetup) (mf q : Nat) (force : Bool) (s : State), s.retention.supplied = true →
      s.holds p (.run r) = true → s.prove.result.state = .complete → s.prove.result.setup = some u → u.run = r →
      s.prove.result.mf = some mf → s.prove.result.q = some q → CurveSound (s.curve r) →
      let n := renewed p [.run r] s
      let c := s.curve r
      let dist (x : CurvePoint) : Nat := (x.flow - q) + (q - x.flow)
      let near (x : CurvePoint) : Prop := x.enabled = true ∧ dist x * 1000000 ≤ s.prove.config.band * q
      let ref := (curveMf? c q).map (·.1)
      let far := ∃ m, ref = some m ∧ s.prove.config.acceptLimit * m < ((mf - m) + (m - mf)) * 1000000
      let put := exec (.acceptProve p (runNumber r) force) s
      let install (how : InstallKind) (flow : Nat) (c' : List CurvePoint) : Prop :=
        put = .next (answered p .ok 30 .empty ((n.setCurve r c').setResult { s.prove.result with
          state := .accepted
          acceptance := some { refMf := ref, deviation := ref.map (fun m => (mf - m) + (m - mf)), forced := force,
                               flow := flow, how := how } }))
      let write (flow : Nat) : List CurvePoint := c.map (fun x => if x.flow = flow then ⟨flow, mf, true⟩ else x)
      (force = false → (∀ x ∈ c, x.enabled = false) → put = .next (answered p .noCurve 30 .empty n))
        ∧ (force = false → far → put = .next (answered p .deviation 30 .empty n))
        ∧ (((∃ x ∈ c, x.enabled = true) ∧ ¬ far ∨ force = true) →
          (∀ x ∈ c, near x → (∀ y ∈ c, near y → dist x < dist y ∨ (dist x = dist y ∧ x.flow ≤ y.flow)) →
              install .replaced x.flow (write x.flow))
            ∧ ((∀ x ∈ c, ¬ near x) → (∃ x ∈ c, x.flow = q) → install .enabled q (write q))
            ∧ ((∀ x ∈ c, ¬ near x) → (∀ x ∈ c, x.flow ≠ q) → c.length < 8 →
                ∃ c', install .inserted q c' ∧ c'.Perm (⟨q, mf, true⟩ :: c) ∧ CurveSound c')
            ∧ ((∀ x ∈ c, ¬ near x) → (∀ x ∈ c, x.flow ≠ q) → 8 ≤ c.length →
                put = .next (answered p .curveFull 30 .empty n))))
  ∧ (∀ (p : Port) (r : Run) (force : Bool) (s : State), s.retention.supplied = true → s.holds p (.run r) = true →
      (s.prove.result.state ≠ .complete ∨ ∃ u, s.prove.result.setup = some u ∧ u.run ≠ r) →
      exec (.acceptProve p (runNumber r) force) s = .next (answered p .state 30 .empty (renewed p [.run r] s)))

/-- DISCARD PROVE by R151: RANGE, NOT_HOLDER with the waiting list, STATE, or DISCARDED with curve, MF, Q and passes as they were;
after it, a further ACCEPT PROVE or DISCARD PROVE of the holder is refused with STATE. -/
def Obligations.ResultIsDiscarded : Prop :=
  ∀ (p : Port) (unit : Nat) (s : State), s.retention.supplied = true →
    let n := renewed p (namedUnits unit) s
    let put := exec (.discardProve p unit) s
    (runOf unit = none → put = .next (answered p .range 31 .empty n))
      ∧ ∀ r, runOf unit = some r →
        let c := s.claim (.run r)
        let mine := s.prove.result.state = .complete ∧ s.provedRun = some r
        (c.holder ≠ some p → ∃ v, put = .next (answered p .notHolder 31 (.claims [v]) (s.setClaim (.run r)
            (if c.holder = none ∨ p ∈ c.waiting then c else { c with waiting := c.waiting ++ [p] }))))
          ∧ (c.holder = some p → ¬ mine → put = .next (answered p .state 31 .empty n))
          ∧ (c.holder = some p → mine → ∃ t, put = .next t
              ∧ t = answered p .ok 31 .empty (n.setResult { s.prove.result with state := .discarded })
              ∧ exec (.discardProve p unit) t = .next (answered p .state 31 .empty (renewed p (namedUnits unit) t))
              ∧ ∀ force, exec (.acceptProve p unit force) t
                  = .next (answered p .state 30 .empty (renewed p (namedUnits unit) t)))

/-! ## Chapter 9: claims -/

/-- The table of R153: a free unit is granted, the holder renews, and another port waits at the end of the list; a hold time above 60 s
or a unit field that names no unit is refused with RANGE. RELEASE and the hold timer's expiry of a unit that is in no prove: the head of
the list becomes the holder with CLAIM_GRANTED and a started timer, or the unit becomes free; CLAIM_LOST goes to a port that lost the
unit, not to one that gave it up. The expiry comes at the timer's last tick (log entries 2 and 3): after a request of the holder that
names the unit, such as its CLAIM, and after its RELEASE, an expiry of the same moment does not happen. The bodies are log entry 12's.
RELEASE of a unit that the port does not hold is refused with NOT_HOLDER and changes nothing, and RELEASE by the proving port of a unit in its prove hands
the unit over and ends the prove ABORTED with CLAIM. -/
def Obligations.ClaimsAreMadeAndHandedOver : Prop :=
  (∀ (p : Port) (u : UnitId) (hold : Nat) (s : State), s.retention.supplied = true → hold ≤ 60 →
      let c := s.claim u
      let h := if hold = 0 then c.holdTime else hold
      let mine : Claim := { c with
        holder := some p, holdTime := h, timer := if s.inProve u = true then c.timer else some (h * 10000000) }
      let line := if p ∈ c.waiting then c.waiting else c.waiting ++ [p]
      let t := answered p .ok 32 (.claims [mine.seen (s.inProve u)]) (s.setClaim u mine)
      ((c.holder = none ∨ c.holder = some p) → exec (.claim p (unitNumber u) hold) s = .next t)
        ∧ (s.inProve u = false → exec (.holdTimerExpiry u) t = .next t)
        ∧ (∀ q, c.holder = some q → q ≠ p → exec (.claim p (unitNumber u) hold) s = .next (answered p .waiting 32
            (.waiting (line.idxOf p + 1) ({ c with waiting := line : Claim }.seen (s.inProve u)))
            (s.setClaim u { c with waiting := line }))))
  ∧ (∀ (p : Port) (u : UnitId) (unit hold : Nat) (s : State), s.retention.supplied = true →
      (60 < hold → exec (.claim p (unitNumber u) hold) s = .next (answered p .range 32 .empty (renewed p [u] s)))
        ∧ (unitOf unit = none → exec (.claim p unit hold) s = .next (answered p .range 32 .empty s)
            ∧ exec (.release p unit) s = .next (answered p .range 33 .empty s))
        ∧ ((s.claim u).holder ≠ some p → exec (.release p (unitNumber u)) s
            = .next (answered p .notHolder 33 (.claims [(s.claim u).seen (s.inProve u)]) s)))
  ∧ (∀ (p : Port) (u : UnitId) (s : State), s.retention.supplied = true → (s.claim u).holder = some p →
      s.inProve u = false →
      let c := s.claim u
      let c' : Claim := match c.waiting with
        | [] => { c with holder := none, timer := none }
        | q :: rest => { c with holder := some q, waiting := rest, timer := some (c.holdTime * 10000000) }
      let grant (x : State) : State := match c.waiting with
        | [] => x.setClaim u c'
        | q :: _ => (x.setClaim u c').post q .claimGranted (unitBit u)
      let t := answered p .ok 33 (.claims [c'.seen false]) (grant s)
      exec (.release p (unitNumber u)) s = .next t ∧ exec (.holdTimerExpiry u) t = .next t
        ∧ exec (.holdTimerExpiry u) (renewed p [u] s) = .next (renewed p [u] s)
        ∧ (c.timer = some 1 → exec (.holdTimerExpiry u) s = .next (grant (s.post p .claimLost (unitBit u))))
        ∧ (c.timer ≠ some 1 → exec (.holdTimerExpiry u) s = .next s))
  ∧ (∀ (p : Port) (u : UnitId) (x : ProveSetup) (s : State), s.retention.supplied = true → (s.claim u).holder = some p →
      s.prove.result.state = .running → s.prove.result.setup = some x → x.port = p → (u = .run x.run ∨ u = .prover) →
      let c := s.claim u
      ∃ t, exec (.release p (unitNumber u)) s = .next t
        ∧ t.prove.engine = .idle ∧ t.prove.result.state = .aborted ∧ t.prove.result.reason = some .claim
        ∧ t.prove.result.endTime = some s.terminalTime
        ∧ t.claim u = { c with
            holder := c.waiting.head?, waiting := c.waiting.tail
            timer := c.waiting.head?.map (fun _ => c.holdTime * 10000000) }
        ∧ (∀ v, v ≠ u → (v = .run x.run ∨ v = .prover) → t.claim v = { s.claim v with
            timer := if (s.claim v).holder = none then (s.claim v).timer else some ((s.claim v).holdTime * 10000000) })
        ∧ (t.link p).response = some { status := .ok, kind := 33, body := .claims [(t.claim u).seen false] }
        ∧ (∀ q, (t.link q).notices.proveEnd.pending = true)
        ∧ (∀ q, c.waiting.head? = some q → (t.link q).notices.claimGranted.pending = true)
        ∧ t.calcs = s.calcs ∧ t.checkers = s.checkers ∧ t.ring = s.ring)

/-! ## Chapter 10: links and time -/

/-- SET PORT MODE, ACK NOTICES, SET TIME and the whole second of terminal time: each changes its own item, and a mask beyond the ten
kinds, and a unit field other than 0, are refused with RANGE. The attention line is asserted exactly while a pending kind is enabled,
and the first two bring it to the new mask and the kinds left pending. After a SET TIME the time stands at the value set, an advance at
the same moment or before a whole second has passed does not happen, and the one that comes a whole second later does; the clock's
second is that of the timebase, and its pace otherwise is that of the advances (log entry 30). -/
def Obligations.LinkAndClockSettings : Prop :=
  ∀ (p : Port) (mask : Nat) (s : State), s.retention.supplied = true →
    let l := s.link p
    let rings (t : State) (enabled : NoticeKind → Prop) : Prop :=
      t.attention p = true ↔ ∃ k, (l.notices.get k).pending = true ∧ enabled k
    rings s (fun k => l.mask.getLsbD (noticeCode k) = true)
      ∧ (∀ (w : Width), mask < 1024 → ∃ t, exec (.setPortMode p 0 (if w = .narrow then 0 else 1) mask) s = .next t
          ∧ t = answered p .ok 34 .empty (s.setLink p { l with width := w, mask := BitVec.ofNat 10 mask })
          ∧ rings t (fun k => mask.testBit (noticeCode k) = true))
      ∧ (∀ w, 1 < w ∨ 1024 ≤ mask → exec (.setPortMode p 0 w mask) s = .next (answered p .range 34 .empty s))
      ∧ (mask < 1024 → ∃ t x, exec (.ackNotices p 0 mask) s = .next t
          ∧ t = answered p .ok 36 (.noticesLeft x) (s.setLink p { l with notices := x })
          ∧ (∀ k, x.get k = if mask.testBit (noticeCode k) then { pending := false, quals := 0 } else l.notices.get k)
          ∧ rings t (fun k => l.mask.getLsbD (noticeCode k) = true ∧ mask.testBit (noticeCode k) = false))
      ∧ (1024 ≤ mask → exec (.ackNotices p 0 mask) s = .next (answered p .range 36 .empty s))
      ∧ (∀ time, time < 4294967296 →
          let t := answered p .ok 38 .empty { s with terminalTime := time, clockWait := some 10000000 }
          exec (.setTime p 0 time) s = .next t
            ∧ (∀ n, n < 10000000 → exec .terminalTimeAdvance (t.elapse n) = .next (t.elapse n))
            ∧ ∀ n, 10000000 ≤ n → exec .terminalTimeAdvance (t.elapse n)
                = .next { t.elapse n with terminalTime := (time + 1) % 4294967296 })
      ∧ (∀ unit w time, unit ≠ 0 → exec (.setPortMode p unit w mask) s = .next (answered p .range 34 .empty s)
          ∧ exec (.ackNotices p unit mask) s = .next (answered p .range 36 .empty s)
          ∧ exec (.setTime p unit time) s = .next (answered p .range 38 .empty s))
      ∧ (s.clockWait = none →
          exec .terminalTimeAdvance s = .next { s with terminalTime := (s.terminalTime + 1) % 4294967296 })
      ∧ (s.clockWait ≠ none → exec .terminalTimeAdvance s = .next s)

/-- STATION CLEAR hands over each unit that its port holds (R157, R160): the head of its list becomes the holder with CLAIM_GRANTED
and a started timer, or the unit is free; and the port leaves every list. It leaves its port no claim, no place on a list, no RESERVED
or ARMED slot, no notice, and the reset mode; it does not touch totals, tables, live values, checkers, the hold times or what is
CURRENT, CLOSING or COMPLETE, and of a run's calculator only a target that was none, which the take after its slots became VOID may
set. A unit field other than 0 is refused with RANGE. -/
def Obligations.StationIsCleared : Prop :=
  (∀ (p : Port) (s : State), s.retention.supplied = true → s.ClaimsSound →
      ∃ t, exec (.stationClear p 0) s = .next t
        ∧ (∀ u, (t.claim u).holder ≠ some p ∧ p ∉ (t.claim u).waiting ∧ (t.claim u).holdTime = (s.claim u).holdTime)
        ∧ (∀ u, (s.claim u).holder = some p → t.claim u = { s.claim u with
              holder := (s.claim u).waiting.head?, waiting := (s.claim u).waiting.tail
              timer := (s.claim u).waiting.head?.map (fun _ => (s.claim u).holdTime * 10000000) })
        ∧ (∀ u q, (s.claim u).holder = some p → (s.claim u).waiting.head? = some q →
            (t.link q).notices.claimGranted.pending = true
              ∧ (t.link q).notices.claimGranted.quals &&& unitBit u = unitBit u)
        ∧ (∀ u, (s.claim u).holder ≠ some p →
            t.claim u = { s.claim u with waiting := (s.claim u).waiting.filter (fun q => decide (q ≠ p)) })
        ∧ (∀ q, q ≠ p → (t.link q).notices.claimLost = (s.link q).notices.claimLost
            ∧ ((∀ u, (s.claim u).holder = some p → (s.claim u).waiting.head? ≠ some q) →
              (t.link q).notices.claimGranted = (s.link q).notices.claimGranted))
        ∧ (∀ i, (t.slot i).reserver = some p → (t.slot i).state ≠ .reserved ∧ (t.slot i).state ≠ .armed)
        ∧ (∀ i, (s.slot i).state = .current ∨ (s.slot i).state = .closing ∨ (s.slot i).state = .complete → t.slot i = s.slot i)
        ∧ (∀ r, t.calcOf r = { s.calcOf r with target := (t.calcOf r).target }
            ∧ ((s.calcOf r).target ≠ none → (t.calcOf r).target = (s.calcOf r).target))
        ∧ t.link p = { response := some { status := .ok, kind := 37, body := .empty }, width := .wide, mask := 0x3FF,
                       notices := {}, readout := (s.link p).readout }
        ∧ (∀ q, q ≠ p → (t.link q).width = (s.link q).width ∧ (t.link q).mask = (s.link q).mask
            ∧ (t.link q).response = (s.link q).response)
        ∧ (s.provingPort p = true → t.prove.result.state = .aborted ∧ t.prove.result.reason = some .claim
            ∧ ∀ q, q ≠ p → (t.link q).notices.proveEnd.pending = true)
        ∧ (s.provingPort p = false → t.prove = s.prove)
        ∧ t.bank = s.bank ∧ t.live = s.live ∧ t.curves = s.curves ∧ t.grades = s.grades ∧ t.checkers = s.checkers
        ∧ t.terminalTime = s.terminalTime)
  ∧ (∀ (p : Port) (unit : Nat) (s : State), s.retention.supplied = true → unit ≠ 0 →
      exec (.stationClear p unit) s = .next (answered p .range 37 .empty s))

/-! ## Chapter 5: supply and start -/

/-- A start that finds the retained contents changed or the lapse latch set makes a cold initialization: the state right after reset,
but for the battery and the model's own fields (a power-up of a part that has supply is a start too, log entry 11). A start that finds
the domain valid is a restart: first the arrivals still waiting are taken, as their own commands take them (log entry 6); what is
retained stands: tables, totals, the ring but for the watch and resume pending (which the current parcel's resume mode decides),
windows, latches, K-factors, periods and targets, live limits and last values, the prover's configuration and the result; every claim
is gone with its hold time kept, RESTARTED is posted with what the restart causes, and each ONLINE run has closed its restart partial
period. That no second of a SET TIME runs after a start (`clockWait`) is the model's choice, log entry 30. -/
def Obligations.StartOfThePart : Prop :=
  (∀ (cause : StartCause) (intact : Bool) (s : State), (cause = .resetInput → s.retention.supplied = true) →
      (s.retention.lapse = true ∨ s.retention.checkMatches = false ∨ intact = false) →
      exec (.partStart cause intact) s = .next { State.reset with
        retention := { State.reset.retention with battery := s.retention.battery }
        pending := s.pending, freeCount := s.freeCount })
  ∧ (∀ (cause : StartCause) (s : State), (cause = .resetInput → s.retention.supplied = true) → s.retention.lapse = false →
      s.retention.checkMatches = true →
      ∃ t, exec (.partStart cause true) s = .next t ∧ t.retention.supplied = true ∧ t.retention.lapse = false
        ∧ t.retention.battery = s.retention.battery
        ∧ t.curves = s.curves ∧ t.grades = s.grades ∧ t.terminalTime = s.terminalTime ∧ t.clockWait = none
        ∧ t.prove.config = s.prove.config ∧ t.prove.engine = .idle ∧ t.prove.passTimer = none ∧ t.prove.timebase = 0
        ∧ (s.prove.result.state = .running → t.prove.result.state = .aborted ∧ t.prove.result.reason = some .restart
            ∧ t.prove.result.endTime = some s.terminalTime ∧ t.prove.result.passes = s.prove.result.passes)
        ∧ (s.prove.result.state ≠ .running → t.prove.result = s.prove.result)
        ∧ (∀ u, t.claim u = { holder := none, waiting := [], holdTime := (s.claim u).holdTime, timer := none })
        ∧ (∀ p, (t.link p).response = none ∧ (t.link p).width = .wide ∧ (t.link p).mask = 0x3FF
            ∧ (t.link p).notices.restarted.pending = true ∧ (t.link p).notices.retentionLost.pending = false
            ∧ ((t.link p).notices.proveEnd.pending = true ↔ s.prove.result.state = .running))
        ∧ t.ring.watch = false
        ∧ (∀ r, t.checker r = if (s.calcOf r).runState = .online then { s.checker r with
              expectation := .either, accepted := 0, reverse := 0, missingA := 0, missingB := 0
              failureMark := (s.checker r).failed }
            else { s.checker r with expectation := .either })
        ∧ (∀ u, t.limits u = s.limits u) ∧ (∀ r, (t.live.runs.get r).tolBsw = (s.live.runs.get r).tolBsw)
        ∧ (∀ l, (t.liveItem l).slots = .all none ∧ (t.liveItem l).record.liveFailed = false
            ∧ (t.liveItem l).record.lastValue = (s.liveItem l).record.lastValue
            ∧ ((s.liveItem l).record.lastValue ≠ none → (t.liveItem l).record.supply = .holding
                ∧ (t.liveItem l).record.holdTimer = some ((s.limits (liveUnit l)).hold * 10000000))
            ∧ ((s.liveItem l).record.lastValue = none → (t.liveItem l).record.supply = .lapsed
                ∧ (t.liveItem l).record.holdTimer = none))
        ∧ (∀ r, (s.calcOf r).runState = .online → (t.calcOf r).runState = .online ∧ (t.calcOf r).elapsed = 0
            ∧ (t.calcOf r).periodLength = (s.calcOf r).periodLength ∧ (t.calcOf r).openLength = (s.calcOf r).periodLength
            ∧ ∃ x a, (t.calcOf r).lastPeriod = some x ∧ x.flags.restartPeriod = true
              ∧ x.tMs = (s.calcOf r).elapsed ∧ x.pulses = (s.checker r).accepted
              ∧ (x.tempStatus = .held ∨ x.tempStatus = .dflt)
              ∧ t.toEngine.get r = some a ∧ t.toBank.get r = [a] ∧ a.ivInc = x.ivInc)
        ∧ (∀ r, (s.calcOf r).runState = .offline → (t.calcOf r).lastPeriod = none ∧ t.toEngine.get r = none
            ∧ t.toBank.get r = [])
        ∧ t.bank = (runs.flatMap s.toBank.get).foldl Bank.add s.bank
        ∧ ((∀ r, s.toEngine.get r = none) →
          t.ring = { s.ring with watch := false, resumePending := t.ring.resumePending }
            ∧ (s.ring.current ≠ .opened → s.ring.current ≠ .topped → t.ring.resumePending = s.ring.resumePending)
            ∧ (∀ i f m, s.ring.current = .opened ∨ s.ring.current = .topped → s.currentSlot = some i →
                (s.slot i).form = some f → formResume f = some m → t.ring.resumePending = decide (m = .manual))
            ∧ (∀ r, (s.calcOf r).runState = .offline → t.calcOf r = { s.calcOf r with lastPeriod := none, quiet := 0 })
            ∧ (∀ r, (s.calcOf r).runState = .online → t.calcOf r = { s.calcOf r with
                elapsed := 0, openLength := (s.calcOf r).periodLength, lastPeriod := (t.calcOf r).lastPeriod
                rI := (t.calcOf r).rI, rR := (t.calcOf r).rR, rG := (t.calcOf r).rG, rN := (t.calcOf r).rN
                quiet := if (s.checker r).accepted = 0 then 1 else 0 })
            ∧ (∀ r a, (s.calcOf r).runState = .online → 0 < (s.calcOf r).kmilli → t.toEngine.get r = some a →
                a.destination = (s.calcOf r).target
                  ∧ a.ivInc * (s.calcOf r).kmilli + (t.calcOf r).rI = (s.checker r).accepted * 1000000 + (s.calcOf r).rI
                  ∧ a.revInc * (s.calcOf r).kmilli + (t.calcOf r).rR = (s.checker r).reverse * 1000000 + (s.calcOf r).rR)))
  ∧ (∀ (cause : StartCause) (s : State), (cause = .resetInput → s.retention.supplied = true) → s.retention.lapse = false →
      s.retention.checkMatches = true →
      ∃ m, afterCommands (arrivalsOf s) { s with retention := { s.retention with supplied := true } } = some m
        ∧ (∀ r, m.toBank.get r = [] ∧ m.toEngine.get r = none)
        ∧ exec (.partStart cause true) s = exec (.partStart cause true) m)

/-- The loss of supply releases every output and holds no closed period back from the totals and the parcels: the state it leaves is the
one in which every arrival still waiting has been taken by its own command, without supply (log entry 6); a battery already below its
holding level then lets the memory lapse (log entry 10). What lies outside the retained domain stands through the loss until the start
sets it, which is the model's choice (log entry 24). While the part has supply, the battery alone changes nothing else; without supply
its falling below the holding level sets the lapse latch, and the check word's match is a free value (log entry 9). -/
def Obligations.SupplyIsLost : Prop :=
  ∀ (s : State) (level : BatteryLevel),
    (s.retention.supplied = true → ∃ t m, exec .lossOfSupply s = .next t ∧ afterCommands (arrivalsOf s) s = some m
        ∧ (∀ r, m.toBank.get r = [] ∧ m.toEngine.get r = none)
        ∧ t = { m with
            retention := { s.retention with
              supplied := false
              lapse := s.retention.lapse || decide (s.retention.battery = .lapsed)
              checkMatches := t.retention.checkMatches }
            freeCount := t.freeCount }
        ∧ (s.retention.battery ≠ .lapsed → t.retention.checkMatches = s.retention.checkMatches ∧ t.freeCount = s.freeCount)
        ∧ t.bank = (runs.flatMap s.toBank.get).foldl Bank.add s.bank
        ∧ t.fullPermit = false ∧ t.trimPermit = false ∧ (∀ p, t.attention p = false)
        ∧ t.curves = s.curves ∧ t.grades = s.grades ∧ t.checkers = s.checkers ∧ t.prove = s.prove
        ∧ t.terminalTime = s.terminalTime)
      ∧ ((s.retention.supplied = true ∨ level ≠ .lapsed) →
          exec (.retentionSupplyChange level) s = .next { s with retention := { s.retention with battery := level } })
      ∧ (s.retention.supplied = false → level = .lapsed → ∃ free : Bool,
          exec (.retentionSupplyChange level) s = .next { s with
            freeCount := s.freeCount + 1
            retention := { s.retention with battery := level, lapse := true, checkMatches := free } })

/-! ## Invariants -/

/-- The state right after reset is sound in every part. -/
def Obligations.ResetIsSound : Prop := State.reset.Sound

/-- The counts and windows of the checkers and the residues and lengths of the calculators stay in their ranges. -/
def Obligations.RunBlocksStayInRange : Prop :=
  (∀ s t, s.CheckersSound → step s = .next t → t.CheckersSound)
    ∧ ∀ s t, s.CalculatorsSound → step s = .next t → t.CalculatorsSound

/-- Every curve stays ordered and within eight points, every grade within its ranges, and every ONLINE run keeps an enabled point. -/
def Obligations.TablesStaySound : Prop := ∀ s t, s.TablesSound → step s = .next t → t.TablesSound

/-- The supply state of every selection record goes on following F and the live hold timer, and a notice kind that is not pending keeps an
empty qualifier set. -/
def Obligations.RecordsStayInForm : Prop :=
  (∀ s t, s.LiveSound → step s = .next t → t.LiveSound)
  ∧ (∀ s t, s.NoticesSound → step s = .next t → t.NoticesSound)

/-- Each station total stays the sum of the four run totals modulo 10¹². -/
def Obligations.StationTotalsAreSums : Prop := ∀ s t, s.bank.Sound → step s = .next t → t.bank.Sound

/-- At most one slot is CURRENT and one CLOSING, the current state and the permissive level agree with the ring, the runs that owe the
closing parcel are those whose target it is, no run is left without a target while a parcel is open, and each portion is kept under its
own run. -/
def Obligations.RingStaysCoherent : Prop := ∀ s t, s.RingSound → step s = .next t → t.RingSound

/-- The engine works only while a prove is RUNNING, the pass timer only during a pass, and the pass list counts the attempts. -/
def Obligations.ProveStaysCoherent : Prop := ∀ s t, s.prove.Sound → step s = .next t → t.prove.Sound

/-- A free unit has no waiter, a list never holds the holder or a port twice, hold timers stand still exactly in a prove, and a prove is
RUNNING only while one port holds the prover and the proved run, and that run is ONLINE. -/
def Obligations.ClaimsStayInForm : Prop := ∀ s t, s.ClaimsSound → step s = .next t → t.ClaimsSound
end

