-- ==== Sys2Proof/Laws/Bytes.lean ====
section
/-! SUPPORT. The lengths of fields and bodies: what R165 and 10.8 give as sizes. -/

namespace Sys2Proof.Machine

@[simp] theorem beBytes_length (k n : Nat) : (beBytes k n).length = k := by
  induction k with
  | zero => rfl
  | succ k ih => simp [beBytes, ih]

@[simp] theorem beInt4_length (n : Int) : (beInt4 n).length = 4 := beBytes_length ..
@[simp] theorem beInt8_length (n : Int) : (beInt8 n).length = 8 := beBytes_length ..
@[simp] theorem b1_length (n : Nat) : (b1 n).length = 1 := beBytes_length ..
@[simp] theorem b2_length (n : Nat) : (b2 n).length = 2 := beBytes_length ..
@[simp] theorem b4_length (n : Nat) : (b4 n).length = 4 := beBytes_length ..
@[simp] theorem b8_length (n : Nat) : (b8 n).length = 8 := beBytes_length ..

theorem optField_length {α : Type} {size : Nat} {f : α → List Byte} (h : ∀ x, (f x).length = size) (o : Option α) :
    (optField size f o).length = size + 1 := by
  cases o with
  | none => simp [optField]; omega
  | some x => simp [optField, h]; omega

@[simp] theorem portField_length (p : Option Port) : (portField p).length = 2 := by cases p <;> rfl
@[simp] theorem slotField_length (i : Option SlotId) : (slotField i).length = 2 := by cases i <;> rfl
@[simp] theorem gradeByte_length (g : GradeId) : (gradeByte g).length = 1 := b1_length _
@[simp] theorem opt1_length (o : Option Nat) : (opt1 o).length = 2 := @optField_length Nat 1 b1 b1_length o
@[simp] theorem opt4_length (o : Option Nat) : (opt4 o).length = 5 := @optField_length Nat 4 b4 b4_length o
@[simp] theorem opt8_length (o : Option Nat) : (opt8 o).length = 9 := @optField_length Nat 8 b8 b8_length o
@[simp] theorem timerField_length (t : Option Nat) : (timerField t).length = 5 :=
  @optField_length Nat 4 (fun x => b4 (secondsLeft x)) (fun _ => b4_length _) t

/-- An absent last-period record has as many value bytes as a present one (R165). -/
theorem periodBytes_length (x : PeriodRecord) : (periodBytes x).length = periodSize := by
  unfold periodBytes periodSize
  simp only [List.length_append, b1_length, b4_length, b8_length, beInt4_length, slotField_length, gradeByte_length]

/-- RUN TOTALS: 76 bytes (10.8). -/
theorem runTotalsBytes_length (r : Run) (st : RunState) (w : Width) (t : RunTotals) :
    (runTotalsBytes r st w t).length = 76 := by
  simp only [runTotalsBytes, List.length_append, b1_length, b8_length]

/-- A portion entry of a ticket: 73 bytes (10.8). -/
theorem entryBytes_length (e : TicketEntry) : (entryBytes e).length = 73 := by
  simp only [entryBytes, List.length_append, b1_length, b4_length, b8_length, beInt4_length]

/-- A ticket body: 63 bytes and 73 for each portion (10.8). -/
theorem ticketBytes_length (i : SlotId) (f : ControlForm) (t : Ticket) (c : PortSet) :
    (ticketBytes i f t c).length = 63 + 73 * t.portions.length := by
  have h (l : List TicketEntry) : (l.flatMap entryBytes).length = 73 * l.length := by
    induction l with
    | nil => rfl
    | cons e l ih => simp only [List.flatMap_cons, List.length_append, ih, entryBytes_length, List.length_cons]; omega
  simp only [ticketBytes, List.length_append, h, b1_length, b4_length, b8_length]

theorem withCrc_length (l : List Byte) : (withCrc l).length = l.length + 2 := by simp [withCrc]

end Sys2Proof.Machine
end

