-- ==== Sys2Proof/Laws/Containers.lean ====
section
/-! SUPPORT. Reading and replacing one item of a table indexed by ports, runs, units, slots or grades. -/

namespace Sys2Proof

variable {α β : Type}

@[simp] theorem PerPort.get_set_self (v : PerPort α) (p : Port) (x : α) : (v.set p x).get p = x := by cases p <;> rfl

theorem PerPort.get_set_ne {p q : Port} (h : q ≠ p) (v : PerPort α) (x : α) : (v.set p x).get q = v.get q := by
  cases p <;> cases q <;> first | rfl | exact absurd rfl h

@[simp] theorem PerPort.get_all (p : Port) (x : α) : (PerPort.all x).get p = x := by cases p <;> rfl

@[simp] theorem PerPort.get_map (f : α → β) (v : PerPort α) (p : Port) : (v.map f).get p = f (v.get p) := by cases p <;> rfl

@[simp] theorem PerPort.set_set (v : PerPort α) (p : Port) (x y : α) : (v.set p x).set p y = v.set p y := by
  cases p <;> rfl

@[simp] theorem PerPort.set_get (v : PerPort α) (p : Port) : v.set p (v.get p) = v := by cases p <;> rfl

@[simp] theorem PerRun.get_set_self (v : PerRun α) (r : Run) (x : α) : (v.set r x).get r = x := by cases r <;> rfl

theorem PerRun.get_set_ne {r q : Run} (h : q ≠ r) (v : PerRun α) (x : α) : (v.set r x).get q = v.get q := by
  cases r <;> cases q <;> first | rfl | exact absurd rfl h

@[simp] theorem PerRun.get_all (r : Run) (x : α) : (PerRun.all x).get r = x := by cases r <;> rfl

@[simp] theorem PerRun.get_map (f : α → β) (v : PerRun α) (r : Run) : (v.map f).get r = f (v.get r) := by cases r <;> rfl

@[simp] theorem PerRun.set_set (v : PerRun α) (r : Run) (x y : α) : (v.set r x).set r y = v.set r y := by cases r <;> rfl

@[simp] theorem PerRun.set_get (v : PerRun α) (r : Run) : v.set r (v.get r) = v := by cases r <;> rfl

@[simp] theorem PerUnit.get_set_self (v : PerUnit α) (u : UnitId) (x : α) : (v.set u x).get u = x := by
  cases u with
  | run r => exact PerRun.get_set_self ..
  | prover => rfl

theorem PerUnit.get_set_ne {u w : UnitId} (h : w ≠ u) (v : PerUnit α) (x : α) : (v.set u x).get w = v.get w := by
  cases u with
  | run r =>
    cases w with
    | run q => exact PerRun.get_set_ne (fun e => h (congrArg UnitId.run e)) ..
    | prover => rfl
  | prover =>
    cases w with
    | run q => rfl
    | prover => exact absurd rfl h

@[simp] theorem PerUnit.get_all (u : UnitId) (x : α) : (PerUnit.all x).get u = x := by
  cases u with
  | run r => exact PerRun.get_all ..
  | prover => rfl

@[simp] theorem PerUnit.get_map (f : α → β) (v : PerUnit α) (u : UnitId) : (v.map f).get u = f (v.get u) := by
  cases u with
  | run r => exact PerRun.get_map ..
  | prover => rfl

@[simp] theorem PerUnit.set_set (v : PerUnit α) (u : UnitId) (x y : α) : (v.set u x).set u y = v.set u y := by
  cases u <;> simp [PerUnit.set]

@[simp] theorem PerUnit.set_get (v : PerUnit α) (u : UnitId) : v.set u (v.get u) = v := by
  cases u <;> simp [PerUnit.set, PerUnit.get]

/-- A property of the eight indexes is shown index by index. -/
theorem eightCases {P : Fin 8 → Prop} (h0 : P 0) (h1 : P 1) (h2 : P 2) (h3 : P 3) (h4 : P 4) (h5 : P 5) (h6 : P 6)
    (h7 : P 7) (i : Fin 8) : P i := by
  match i with
  | 0 => exact h0
  | 1 => exact h1
  | 2 => exact h2
  | 3 => exact h3
  | 4 => exact h4
  | 5 => exact h5
  | 6 => exact h6
  | 7 => exact h7

@[simp] theorem Eight.get_set_self (v : Eight α) (i : Fin 8) (x : α) : (v.set i x).get i = x :=
  eightCases (P := fun i => (v.set i x).get i = x) rfl rfl rfl rfl rfl rfl rfl rfl i

theorem Eight.get_set_ne {i j : Fin 8} (h : j ≠ i) (v : Eight α) (x : α) : (v.set i x).get j = v.get j := by
  match i, j with
  | 0, 0 | 1, 1 | 2, 2 | 3, 3 | 4, 4 | 5, 5 | 6, 6 | 7, 7 => exact absurd rfl h
  | 0, 1 | 0, 2 | 0, 3 | 0, 4 | 0, 5 | 0, 6 | 0, 7 => rfl
  | 1, 0 | 1, 2 | 1, 3 | 1, 4 | 1, 5 | 1, 6 | 1, 7 => rfl
  | 2, 0 | 2, 1 | 2, 3 | 2, 4 | 2, 5 | 2, 6 | 2, 7 => rfl
  | 3, 0 | 3, 1 | 3, 2 | 3, 4 | 3, 5 | 3, 6 | 3, 7 => rfl
  | 4, 0 | 4, 1 | 4, 2 | 4, 3 | 4, 5 | 4, 6 | 4, 7 => rfl
  | 5, 0 | 5, 1 | 5, 2 | 5, 3 | 5, 4 | 5, 6 | 5, 7 => rfl
  | 6, 0 | 6, 1 | 6, 2 | 6, 3 | 6, 4 | 6, 5 | 6, 7 => rfl
  | 7, 0 | 7, 1 | 7, 2 | 7, 3 | 7, 4 | 7, 5 | 7, 6 => rfl

@[simp] theorem Eight.get_all (i : Fin 8) (x : α) : (Eight.all x).get i = x :=
  eightCases (P := fun i => (Eight.all x).get i = x) rfl rfl rfl rfl rfl rfl rfl rfl i

@[simp] theorem Eight.get_map (f : α → β) (v : Eight α) (i : Fin 8) : (v.map f).get i = f (v.get i) :=
  eightCases (P := fun i => (v.map f).get i = f (v.get i)) rfl rfl rfl rfl rfl rfl rfl rfl i

@[simp] theorem Eight.set_set (v : Eight α) (i : Fin 8) (x y : α) : (v.set i x).set i y = v.set i y :=
  eightCases (P := fun i => (v.set i x).set i y = v.set i y) rfl rfl rfl rfl rfl rfl rfl rfl i

@[simp] theorem Eight.set_get (v : Eight α) (i : Fin 8) : v.set i (v.get i) = v :=
  eightCases (P := fun i => v.set i (v.get i) = v) rfl rfl rfl rfl rfl rfl rfl rfl i

end Sys2Proof
end

