-- ==== Sys2Proof/Laws/PerInstr.lean ====
section
/-! SUPPORT. The family Carried, one lemma for each command: a frame carries a command exactly when a port sends it, so the 38 request
rows have a frame of 10.2 and the 16 events have none. -/

namespace Sys2Proof.Laws.Carried

/-- A command has a request frame exactly when it has a port that sends it. -/
def Statement (i : Instr) : Prop := (encodeRequest i).isSome = (requestPort i).isSome

theorem setService (p : Port) (unit : Nat) (service : Nat) : Statement (.setService p unit service) := rfl
theorem setPeriod (p : Port) (unit : Nat) (length : Nat) : Statement (.setPeriod p unit length) := rfl
theorem setKFactor (p : Port) (unit : Nat) (k : Nat) : Statement (.setKFactor p unit k) := rfl
theorem setSecurity (p : Port) (unit : Nat) (window limit : Nat) : Statement (.setSecurity p unit window limit) := rfl
theorem clearRunFault (p : Port) (unit : Nat) : Statement (.clearRunFault p unit) := rfl
theorem readRun (p : Port) (unit : Nat) : Statement (.readRun p unit) := rfl
theorem addPoint (p : Port) (unit : Nat) (flow mf enabled : Nat) : Statement (.addPoint p unit flow mf enabled) := rfl
theorem changePoint (p : Port) (unit : Nat) (flow mf enabled : Nat) : Statement (.changePoint p unit flow mf enabled) := rfl
theorem removePoint (p : Port) (unit : Nat) (flow : Nat) : Statement (.removePoint p unit flow) := rfl
theorem readCurve (p : Port) (unit : Nat) : Statement (.readCurve p unit) := rfl
theorem loadGrade (p : Port) (unit : Nat) (grade f bsw : Nat) (points : List RawPoint) :
    Statement (.loadGrade p unit grade f bsw points) := rfl
theorem readGrade (p : Port) (unit : Nat) (grade : Nat) : Statement (.readGrade p unit grade) := rfl
theorem reportLive (p : Port) (unit : Nat) (quantity : Nat) (value : Int) (health : Nat) :
    Statement (.reportLive p unit quantity value health) := rfl
theorem setLiveLimits (p : Port) (unit : Nat) (staleness hold tolT tolP tolBsw preferred : Nat) :
    Statement (.setLiveLimits p unit staleness hold tolT tolP tolBsw preferred) := rfl
theorem readLive (p : Port) (unit : Nat) : Statement (.readLive p unit) := rfl
theorem readTotals (p : Port) (unit : Nat) (override : Bool) (group : Nat) :
    Statement (.readTotals p unit override group) := rfl
theorem reserveSlot (p : Port) (unit : Nat) : Statement (.reserveSlot p unit) := rfl
theorem writeSlot (p : Port) (unit : Nat) (slot : Nat) (form : RawForm) : Statement (.writeSlot p unit slot form) := rfl
theorem armSlot (p : Port) (unit : Nat) (slot : Nat) : Statement (.armSlot p unit slot) := rfl
theorem cancelSlot (p : Port) (unit : Nat) (slot : Nat) : Statement (.cancelSlot p unit slot) := rfl
theorem readSlot (p : Port) (unit : Nat) (slot : Nat) : Statement (.readSlot p unit slot) := rfl
theorem releaseHold (p : Port) (unit : Nat) : Statement (.releaseHold p unit) := rfl
theorem resumeLoading (p : Port) (unit : Nat) : Statement (.resumeLoading p unit) := rfl
theorem cutParcel (p : Port) (unit : Nat) (slot : Nat) : Statement (.cutParcel p unit slot) := rfl
theorem readTicket (p : Port) (unit : Nat) (slot : Nat) : Statement (.readTicket p unit slot) := rfl
theorem setProver (p : Port) (unit : Nat) (bpv timeout detectorLimit acceptLimit band : Nat) :
    Statement (.setProver p unit bpv timeout detectorLimit acceptLimit band) := rfl
theorem startProve (p : Port) (unit : Nat) (n maxAttempts tolerance csp : Nat) :
    Statement (.startProve p unit n maxAttempts tolerance csp) := rfl
theorem abortProve (p : Port) (unit : Nat) : Statement (.abortProve p unit) := rfl
theorem readProve (p : Port) (unit : Nat) (first : Nat) : Statement (.readProve p unit first) := rfl
theorem acceptProve (p : Port) (unit : Nat) (force : Bool) : Statement (.acceptProve p unit force) := rfl
theorem discardProve (p : Port) (unit : Nat) : Statement (.discardProve p unit) := rfl
theorem claim (p : Port) (unit : Nat) (hold : Nat) : Statement (.claim p unit hold) := rfl
theorem release (p : Port) (unit : Nat) : Statement (.release p unit) := rfl
theorem setPortMode (p : Port) (unit : Nat) (width mask : Nat) : Statement (.setPortMode p unit width mask) := rfl
theorem readNotices (p : Port) (unit : Nat) : Statement (.readNotices p unit) := rfl
theorem ackNotices (p : Port) (unit : Nat) (mask : Nat) : Statement (.ackNotices p unit mask) := rfl
theorem stationClear (p : Port) (unit : Nat) : Statement (.stationClear p unit) := rfl
theorem setTime (p : Port) (unit : Nat) (time : Nat) : Statement (.setTime p unit time) := rfl
theorem responseReadout (p : Port) : Statement (.responseReadout p) := rfl
theorem risingEdge (r : Run) (c : Channel) (otherHigh : Bool) (stamp : Nat) : Statement (.risingEdge r c otherHigh stamp) := rfl
theorem detectorActuation (d : Detector) (stamp : Nat) : Statement (.detectorActuation d stamp) := rfl
theorem passTimerExpiry : Statement .passTimerExpiry := rfl
theorem periodExpiry (r : Run) : Statement (.periodExpiry r) := rfl
theorem incrementArrivalAtBank (r : Run) : Statement (.incrementArrivalAtBank r) := rfl
theorem incrementArrivalAtEngine (r : Run) : Statement (.incrementArrivalAtEngine r) := rfl
theorem freshnessTimerExpiry (l : LivePoint) (p : Port) : Statement (.freshnessTimerExpiry l p) := rfl
theorem liveHoldTimerExpiry (l : LivePoint) : Statement (.liveHoldTimerExpiry l) := rfl
theorem holdTimerExpiry (u : UnitId) : Statement (.holdTimerExpiry u) := rfl
theorem terminalTimeAdvance : Statement .terminalTimeAdvance := rfl
theorem partStart (cause : StartCause) (memoryIntact : Bool) : Statement (.partStart cause memoryIntact) := rfl
theorem lossOfSupply : Statement .lossOfSupply := rfl
theorem retentionSupplyChange (level : BatteryLevel) : Statement (.retentionSupplyChange level) := rfl
theorem periodTimerAdvance (r : Run) : Statement (.periodTimerAdvance r) := rfl
theorem refusedRequestFrame (p : Port) (frame : List Byte) : Statement (.refusedRequestFrame p frame) := rfl

end Sys2Proof.Laws.Carried
end

