-- ==== Sys2Proof/Laws/State.lean ====
section
/-! SUPPORT. The fields of State after each named update: one lemma per field and update, by rfl; and what a reader of one
instance sees after it. -/

namespace Sys2Proof.Machine

variable (s : State)

/-! ## setChecker -/

@[simp] theorem setChecker_calcs (r : Run) (c : Checker) : (s.setChecker r c).calcs = s.calcs := rfl
@[simp] theorem setChecker_curves (r : Run) (c : Checker) : (s.setChecker r c).curves = s.curves := rfl
@[simp] theorem setChecker_grades (r : Run) (c : Checker) : (s.setChecker r c).grades = s.grades := rfl
@[simp] theorem setChecker_live (r : Run) (c : Checker) : (s.setChecker r c).live = s.live := rfl
@[simp] theorem setChecker_bank (r : Run) (c : Checker) : (s.setChecker r c).bank = s.bank := rfl
@[simp] theorem setChecker_retention (r : Run) (c : Checker) : (s.setChecker r c).retention = s.retention := rfl
@[simp] theorem setChecker_ring (r : Run) (c : Checker) : (s.setChecker r c).ring = s.ring := rfl
@[simp] theorem setChecker_prove (r : Run) (c : Checker) : (s.setChecker r c).prove = s.prove := rfl
@[simp] theorem setChecker_claims (r : Run) (c : Checker) : (s.setChecker r c).claims = s.claims := rfl
@[simp] theorem setChecker_links (r : Run) (c : Checker) : (s.setChecker r c).links = s.links := rfl
@[simp] theorem setChecker_terminalTime (r : Run) (c : Checker) : (s.setChecker r c).terminalTime = s.terminalTime := rfl
@[simp] theorem setChecker_clockWait (r : Run) (c : Checker) : (s.setChecker r c).clockWait = s.clockWait := rfl
@[simp] theorem setChecker_toBank (r : Run) (c : Checker) : (s.setChecker r c).toBank = s.toBank := rfl
@[simp] theorem setChecker_toEngine (r : Run) (c : Checker) : (s.setChecker r c).toEngine = s.toEngine := rfl
@[simp] theorem setChecker_pending (r : Run) (c : Checker) : (s.setChecker r c).pending = s.pending := rfl
@[simp] theorem setChecker_freeCount (r : Run) (c : Checker) : (s.setChecker r c).freeCount = s.freeCount := rfl
@[simp] theorem setChecker_calcOf (r : Run) (c : Checker) (r' : Run) : (s.setChecker r c).calcOf r' = s.calcOf r' := rfl
@[simp] theorem setChecker_curve (r : Run) (c : Checker) (r' : Run) : (s.setChecker r c).curve r' = s.curve r' := rfl
@[simp] theorem setChecker_grade (r : Run) (c : Checker) (g' : GradeId) : (s.setChecker r c).grade g' = s.grade g' := rfl
@[simp] theorem setChecker_totals (r : Run) (c : Checker) (r' : Run) : (s.setChecker r c).totals r' = s.totals r' := rfl
@[simp] theorem setChecker_slot (r : Run) (c : Checker) (i' : SlotId) : (s.setChecker r c).slot i' = s.slot i' := rfl
@[simp] theorem setChecker_claim (r : Run) (c : Checker) (u' : UnitId) : (s.setChecker r c).claim u' = s.claim u' := rfl
@[simp] theorem setChecker_link (r : Run) (c : Checker) (p' : Port) : (s.setChecker r c).link p' = s.link p' := rfl
@[simp] theorem setChecker_liveItem (r : Run) (c : Checker) (l' : LivePoint) : (s.setChecker r c).liveItem l' = s.liveItem l' := rfl
@[simp] theorem setChecker_limits (r : Run) (c : Checker) (u' : UnitId) : (s.setChecker r c).limits u' = s.limits u' := rfl
@[simp] theorem setChecker_proveRunning (r : Run) (c : Checker) : (s.setChecker r c).proveRunning = s.proveRunning := rfl
@[simp] theorem setChecker_provedRun (r : Run) (c : Checker) : (s.setChecker r c).provedRun = s.provedRun := rfl
@[simp] theorem setChecker_passInProgress (r : Run) (c : Checker) : (s.setChecker r c).passInProgress = s.passInProgress := rfl
@[simp] theorem setChecker_attemptsLeft (r : Run) (c : Checker) : (s.setChecker r c).attemptsLeft = s.attemptsLeft := rfl
@[simp] theorem setChecker_parcelOpen (r : Run) (c : Checker) : (s.setChecker r c).parcelOpen = s.parcelOpen := rfl
@[simp] theorem setChecker_currentSlot (r : Run) (c : Checker) : (s.setChecker r c).currentSlot = s.currentSlot := rfl
@[simp] theorem setChecker_offeredTarget (r : Run) (c : Checker) : (s.setChecker r c).offeredTarget = s.offeredTarget := rfl
@[simp] theorem setChecker_drivenLevel (r : Run) (c : Checker) : (s.setChecker r c).drivenLevel = s.drivenLevel := rfl
@[simp] theorem setChecker_provingRun (r : Run) (c : Checker) (r' : Run) : (s.setChecker r c).provingRun r' = s.provingRun r' := rfl
@[simp] theorem setChecker_inProve (r : Run) (c : Checker) (u' : UnitId) : (s.setChecker r c).inProve u' = s.inProve u' := by cases u' <;> rfl

/-! ## setCalc -/

@[simp] theorem setCalc_checkers (r : Run) (c : Calculator) : (s.setCalc r c).checkers = s.checkers := rfl
@[simp] theorem setCalc_curves (r : Run) (c : Calculator) : (s.setCalc r c).curves = s.curves := rfl
@[simp] theorem setCalc_grades (r : Run) (c : Calculator) : (s.setCalc r c).grades = s.grades := rfl
@[simp] theorem setCalc_live (r : Run) (c : Calculator) : (s.setCalc r c).live = s.live := rfl
@[simp] theorem setCalc_bank (r : Run) (c : Calculator) : (s.setCalc r c).bank = s.bank := rfl
@[simp] theorem setCalc_retention (r : Run) (c : Calculator) : (s.setCalc r c).retention = s.retention := rfl
@[simp] theorem setCalc_ring (r : Run) (c : Calculator) : (s.setCalc r c).ring = s.ring := rfl
@[simp] theorem setCalc_prove (r : Run) (c : Calculator) : (s.setCalc r c).prove = s.prove := rfl
@[simp] theorem setCalc_claims (r : Run) (c : Calculator) : (s.setCalc r c).claims = s.claims := rfl
@[simp] theorem setCalc_links (r : Run) (c : Calculator) : (s.setCalc r c).links = s.links := rfl
@[simp] theorem setCalc_terminalTime (r : Run) (c : Calculator) : (s.setCalc r c).terminalTime = s.terminalTime := rfl
@[simp] theorem setCalc_clockWait (r : Run) (c : Calculator) : (s.setCalc r c).clockWait = s.clockWait := rfl
@[simp] theorem setCalc_toBank (r : Run) (c : Calculator) : (s.setCalc r c).toBank = s.toBank := rfl
@[simp] theorem setCalc_toEngine (r : Run) (c : Calculator) : (s.setCalc r c).toEngine = s.toEngine := rfl
@[simp] theorem setCalc_pending (r : Run) (c : Calculator) : (s.setCalc r c).pending = s.pending := rfl
@[simp] theorem setCalc_freeCount (r : Run) (c : Calculator) : (s.setCalc r c).freeCount = s.freeCount := rfl
@[simp] theorem setCalc_checker (r : Run) (c : Calculator) (r' : Run) : (s.setCalc r c).checker r' = s.checker r' := rfl
@[simp] theorem setCalc_curve (r : Run) (c : Calculator) (r' : Run) : (s.setCalc r c).curve r' = s.curve r' := rfl
@[simp] theorem setCalc_grade (r : Run) (c : Calculator) (g' : GradeId) : (s.setCalc r c).grade g' = s.grade g' := rfl
@[simp] theorem setCalc_totals (r : Run) (c : Calculator) (r' : Run) : (s.setCalc r c).totals r' = s.totals r' := rfl
@[simp] theorem setCalc_slot (r : Run) (c : Calculator) (i' : SlotId) : (s.setCalc r c).slot i' = s.slot i' := rfl
@[simp] theorem setCalc_claim (r : Run) (c : Calculator) (u' : UnitId) : (s.setCalc r c).claim u' = s.claim u' := rfl
@[simp] theorem setCalc_link (r : Run) (c : Calculator) (p' : Port) : (s.setCalc r c).link p' = s.link p' := rfl
@[simp] theorem setCalc_liveItem (r : Run) (c : Calculator) (l' : LivePoint) : (s.setCalc r c).liveItem l' = s.liveItem l' := rfl
@[simp] theorem setCalc_limits (r : Run) (c : Calculator) (u' : UnitId) : (s.setCalc r c).limits u' = s.limits u' := rfl
@[simp] theorem setCalc_proveRunning (r : Run) (c : Calculator) : (s.setCalc r c).proveRunning = s.proveRunning := rfl
@[simp] theorem setCalc_provedRun (r : Run) (c : Calculator) : (s.setCalc r c).provedRun = s.provedRun := rfl
@[simp] theorem setCalc_passInProgress (r : Run) (c : Calculator) : (s.setCalc r c).passInProgress = s.passInProgress := rfl
@[simp] theorem setCalc_attemptsLeft (r : Run) (c : Calculator) : (s.setCalc r c).attemptsLeft = s.attemptsLeft := rfl
@[simp] theorem setCalc_parcelOpen (r : Run) (c : Calculator) : (s.setCalc r c).parcelOpen = s.parcelOpen := rfl
@[simp] theorem setCalc_currentSlot (r : Run) (c : Calculator) : (s.setCalc r c).currentSlot = s.currentSlot := rfl
@[simp] theorem setCalc_offeredTarget (r : Run) (c : Calculator) : (s.setCalc r c).offeredTarget = s.offeredTarget := rfl
@[simp] theorem setCalc_drivenLevel (r : Run) (c : Calculator) : (s.setCalc r c).drivenLevel = s.drivenLevel := rfl
@[simp] theorem setCalc_provingRun (r : Run) (c : Calculator) (r' : Run) : (s.setCalc r c).provingRun r' = s.provingRun r' := rfl
@[simp] theorem setCalc_inProve (r : Run) (c : Calculator) (u' : UnitId) : (s.setCalc r c).inProve u' = s.inProve u' := by cases u' <;> rfl

/-! ## setCurve -/

@[simp] theorem setCurve_checkers (r : Run) (c : List CurvePoint) : (s.setCurve r c).checkers = s.checkers := rfl
@[simp] theorem setCurve_calcs (r : Run) (c : List CurvePoint) : (s.setCurve r c).calcs = s.calcs := rfl
@[simp] theorem setCurve_grades (r : Run) (c : List CurvePoint) : (s.setCurve r c).grades = s.grades := rfl
@[simp] theorem setCurve_live (r : Run) (c : List CurvePoint) : (s.setCurve r c).live = s.live := rfl
@[simp] theorem setCurve_bank (r : Run) (c : List CurvePoint) : (s.setCurve r c).bank = s.bank := rfl
@[simp] theorem setCurve_retention (r : Run) (c : List CurvePoint) : (s.setCurve r c).retention = s.retention := rfl
@[simp] theorem setCurve_ring (r : Run) (c : List CurvePoint) : (s.setCurve r c).ring = s.ring := rfl
@[simp] theorem setCurve_prove (r : Run) (c : List CurvePoint) : (s.setCurve r c).prove = s.prove := rfl
@[simp] theorem setCurve_claims (r : Run) (c : List CurvePoint) : (s.setCurve r c).claims = s.claims := rfl
@[simp] theorem setCurve_links (r : Run) (c : List CurvePoint) : (s.setCurve r c).links = s.links := rfl
@[simp] theorem setCurve_terminalTime (r : Run) (c : List CurvePoint) : (s.setCurve r c).terminalTime = s.terminalTime := rfl
@[simp] theorem setCurve_clockWait (r : Run) (c : List CurvePoint) : (s.setCurve r c).clockWait = s.clockWait := rfl
@[simp] theorem setCurve_toBank (r : Run) (c : List CurvePoint) : (s.setCurve r c).toBank = s.toBank := rfl
@[simp] theorem setCurve_toEngine (r : Run) (c : List CurvePoint) : (s.setCurve r c).toEngine = s.toEngine := rfl
@[simp] theorem setCurve_pending (r : Run) (c : List CurvePoint) : (s.setCurve r c).pending = s.pending := rfl
@[simp] theorem setCurve_freeCount (r : Run) (c : List CurvePoint) : (s.setCurve r c).freeCount = s.freeCount := rfl
@[simp] theorem setCurve_checker (r : Run) (c : List CurvePoint) (r' : Run) : (s.setCurve r c).checker r' = s.checker r' := rfl
@[simp] theorem setCurve_calcOf (r : Run) (c : List CurvePoint) (r' : Run) : (s.setCurve r c).calcOf r' = s.calcOf r' := rfl
@[simp] theorem setCurve_grade (r : Run) (c : List CurvePoint) (g' : GradeId) : (s.setCurve r c).grade g' = s.grade g' := rfl
@[simp] theorem setCurve_totals (r : Run) (c : List CurvePoint) (r' : Run) : (s.setCurve r c).totals r' = s.totals r' := rfl
@[simp] theorem setCurve_slot (r : Run) (c : List CurvePoint) (i' : SlotId) : (s.setCurve r c).slot i' = s.slot i' := rfl
@[simp] theorem setCurve_claim (r : Run) (c : List CurvePoint) (u' : UnitId) : (s.setCurve r c).claim u' = s.claim u' := rfl
@[simp] theorem setCurve_link (r : Run) (c : List CurvePoint) (p' : Port) : (s.setCurve r c).link p' = s.link p' := rfl
@[simp] theorem setCurve_liveItem (r : Run) (c : List CurvePoint) (l' : LivePoint) : (s.setCurve r c).liveItem l' = s.liveItem l' := rfl
@[simp] theorem setCurve_limits (r : Run) (c : List CurvePoint) (u' : UnitId) : (s.setCurve r c).limits u' = s.limits u' := rfl
@[simp] theorem setCurve_proveRunning (r : Run) (c : List CurvePoint) : (s.setCurve r c).proveRunning = s.proveRunning := rfl
@[simp] theorem setCurve_provedRun (r : Run) (c : List CurvePoint) : (s.setCurve r c).provedRun = s.provedRun := rfl
@[simp] theorem setCurve_passInProgress (r : Run) (c : List CurvePoint) : (s.setCurve r c).passInProgress = s.passInProgress := rfl
@[simp] theorem setCurve_attemptsLeft (r : Run) (c : List CurvePoint) : (s.setCurve r c).attemptsLeft = s.attemptsLeft := rfl
@[simp] theorem setCurve_parcelOpen (r : Run) (c : List CurvePoint) : (s.setCurve r c).parcelOpen = s.parcelOpen := rfl
@[simp] theorem setCurve_currentSlot (r : Run) (c : List CurvePoint) : (s.setCurve r c).currentSlot = s.currentSlot := rfl
@[simp] theorem setCurve_offeredTarget (r : Run) (c : List CurvePoint) : (s.setCurve r c).offeredTarget = s.offeredTarget := rfl
@[simp] theorem setCurve_drivenLevel (r : Run) (c : List CurvePoint) : (s.setCurve r c).drivenLevel = s.drivenLevel := rfl
@[simp] theorem setCurve_provingRun (r : Run) (c : List CurvePoint) (r' : Run) : (s.setCurve r c).provingRun r' = s.provingRun r' := rfl
@[simp] theorem setCurve_inProve (r : Run) (c : List CurvePoint) (u' : UnitId) : (s.setCurve r c).inProve u' = s.inProve u' := by cases u' <;> rfl

/-! ## setGrade -/

@[simp] theorem setGrade_checkers (g : GradeId) (x : Grade) : (s.setGrade g x).checkers = s.checkers := rfl
@[simp] theorem setGrade_calcs (g : GradeId) (x : Grade) : (s.setGrade g x).calcs = s.calcs := rfl
@[simp] theorem setGrade_curves (g : GradeId) (x : Grade) : (s.setGrade g x).curves = s.curves := rfl
@[simp] theorem setGrade_live (g : GradeId) (x : Grade) : (s.setGrade g x).live = s.live := rfl
@[simp] theorem setGrade_bank (g : GradeId) (x : Grade) : (s.setGrade g x).bank = s.bank := rfl
@[simp] theorem setGrade_retention (g : GradeId) (x : Grade) : (s.setGrade g x).retention = s.retention := rfl
@[simp] theorem setGrade_ring (g : GradeId) (x : Grade) : (s.setGrade g x).ring = s.ring := rfl
@[simp] theorem setGrade_prove (g : GradeId) (x : Grade) : (s.setGrade g x).prove = s.prove := rfl
@[simp] theorem setGrade_claims (g : GradeId) (x : Grade) : (s.setGrade g x).claims = s.claims := rfl
@[simp] theorem setGrade_links (g : GradeId) (x : Grade) : (s.setGrade g x).links = s.links := rfl
@[simp] theorem setGrade_terminalTime (g : GradeId) (x : Grade) : (s.setGrade g x).terminalTime = s.terminalTime := rfl
@[simp] theorem setGrade_clockWait (g : GradeId) (x : Grade) : (s.setGrade g x).clockWait = s.clockWait := rfl
@[simp] theorem setGrade_toBank (g : GradeId) (x : Grade) : (s.setGrade g x).toBank = s.toBank := rfl
@[simp] theorem setGrade_toEngine (g : GradeId) (x : Grade) : (s.setGrade g x).toEngine = s.toEngine := rfl
@[simp] theorem setGrade_pending (g : GradeId) (x : Grade) : (s.setGrade g x).pending = s.pending := rfl
@[simp] theorem setGrade_freeCount (g : GradeId) (x : Grade) : (s.setGrade g x).freeCount = s.freeCount := rfl
@[simp] theorem setGrade_checker (g : GradeId) (x : Grade) (r' : Run) : (s.setGrade g x).checker r' = s.checker r' := rfl
@[simp] theorem setGrade_calcOf (g : GradeId) (x : Grade) (r' : Run) : (s.setGrade g x).calcOf r' = s.calcOf r' := rfl
@[simp] theorem setGrade_curve (g : GradeId) (x : Grade) (r' : Run) : (s.setGrade g x).curve r' = s.curve r' := rfl
@[simp] theorem setGrade_totals (g : GradeId) (x : Grade) (r' : Run) : (s.setGrade g x).totals r' = s.totals r' := rfl
@[simp] theorem setGrade_slot (g : GradeId) (x : Grade) (i' : SlotId) : (s.setGrade g x).slot i' = s.slot i' := rfl
@[simp] theorem setGrade_claim (g : GradeId) (x : Grade) (u' : UnitId) : (s.setGrade g x).claim u' = s.claim u' := rfl
@[simp] theorem setGrade_link (g : GradeId) (x : Grade) (p' : Port) : (s.setGrade g x).link p' = s.link p' := rfl
@[simp] theorem setGrade_liveItem (g : GradeId) (x : Grade) (l' : LivePoint) : (s.setGrade g x).liveItem l' = s.liveItem l' := rfl
@[simp] theorem setGrade_limits (g : GradeId) (x : Grade) (u' : UnitId) : (s.setGrade g x).limits u' = s.limits u' := rfl
@[simp] theorem setGrade_proveRunning (g : GradeId) (x : Grade) : (s.setGrade g x).proveRunning = s.proveRunning := rfl
@[simp] theorem setGrade_provedRun (g : GradeId) (x : Grade) : (s.setGrade g x).provedRun = s.provedRun := rfl
@[simp] theorem setGrade_passInProgress (g : GradeId) (x : Grade) : (s.setGrade g x).passInProgress = s.passInProgress := rfl
@[simp] theorem setGrade_attemptsLeft (g : GradeId) (x : Grade) : (s.setGrade g x).attemptsLeft = s.attemptsLeft := rfl
@[simp] theorem setGrade_parcelOpen (g : GradeId) (x : Grade) : (s.setGrade g x).parcelOpen = s.parcelOpen := rfl
@[simp] theorem setGrade_currentSlot (g : GradeId) (x : Grade) : (s.setGrade g x).currentSlot = s.currentSlot := rfl
@[simp] theorem setGrade_offeredTarget (g : GradeId) (x : Grade) : (s.setGrade g x).offeredTarget = s.offeredTarget := rfl
@[simp] theorem setGrade_drivenLevel (g : GradeId) (x : Grade) : (s.setGrade g x).drivenLevel = s.drivenLevel := rfl
@[simp] theorem setGrade_provingRun (g : GradeId) (x : Grade) (r' : Run) : (s.setGrade g x).provingRun r' = s.provingRun r' := rfl
@[simp] theorem setGrade_inProve (g : GradeId) (x : Grade) (u' : UnitId) : (s.setGrade g x).inProve u' = s.inProve u' := by cases u' <;> rfl

/-! ## setTotals -/

@[simp] theorem setTotals_checkers (r : Run) (t : RunTotals) : (s.setTotals r t).checkers = s.checkers := rfl
@[simp] theorem setTotals_calcs (r : Run) (t : RunTotals) : (s.setTotals r t).calcs = s.calcs := rfl
@[simp] theorem setTotals_curves (r : Run) (t : RunTotals) : (s.setTotals r t).curves = s.curves := rfl
@[simp] theorem setTotals_grades (r : Run) (t : RunTotals) : (s.setTotals r t).grades = s.grades := rfl
@[simp] theorem setTotals_live (r : Run) (t : RunTotals) : (s.setTotals r t).live = s.live := rfl
@[simp] theorem setTotals_retention (r : Run) (t : RunTotals) : (s.setTotals r t).retention = s.retention := rfl
@[simp] theorem setTotals_ring (r : Run) (t : RunTotals) : (s.setTotals r t).ring = s.ring := rfl
@[simp] theorem setTotals_prove (r : Run) (t : RunTotals) : (s.setTotals r t).prove = s.prove := rfl
@[simp] theorem setTotals_claims (r : Run) (t : RunTotals) : (s.setTotals r t).claims = s.claims := rfl
@[simp] theorem setTotals_links (r : Run) (t : RunTotals) : (s.setTotals r t).links = s.links := rfl
@[simp] theorem setTotals_terminalTime (r : Run) (t : RunTotals) : (s.setTotals r t).terminalTime = s.terminalTime := rfl
@[simp] theorem setTotals_clockWait (r : Run) (t : RunTotals) : (s.setTotals r t).clockWait = s.clockWait := rfl
@[simp] theorem setTotals_toBank (r : Run) (t : RunTotals) : (s.setTotals r t).toBank = s.toBank := rfl
@[simp] theorem setTotals_toEngine (r : Run) (t : RunTotals) : (s.setTotals r t).toEngine = s.toEngine := rfl
@[simp] theorem setTotals_pending (r : Run) (t : RunTotals) : (s.setTotals r t).pending = s.pending := rfl
@[simp] theorem setTotals_freeCount (r : Run) (t : RunTotals) : (s.setTotals r t).freeCount = s.freeCount := rfl
@[simp] theorem setTotals_checker (r : Run) (t : RunTotals) (r' : Run) : (s.setTotals r t).checker r' = s.checker r' := rfl
@[simp] theorem setTotals_calcOf (r : Run) (t : RunTotals) (r' : Run) : (s.setTotals r t).calcOf r' = s.calcOf r' := rfl
@[simp] theorem setTotals_curve (r : Run) (t : RunTotals) (r' : Run) : (s.setTotals r t).curve r' = s.curve r' := rfl
@[simp] theorem setTotals_grade (r : Run) (t : RunTotals) (g' : GradeId) : (s.setTotals r t).grade g' = s.grade g' := rfl
@[simp] theorem setTotals_slot (r : Run) (t : RunTotals) (i' : SlotId) : (s.setTotals r t).slot i' = s.slot i' := rfl
@[simp] theorem setTotals_claim (r : Run) (t : RunTotals) (u' : UnitId) : (s.setTotals r t).claim u' = s.claim u' := rfl
@[simp] theorem setTotals_link (r : Run) (t : RunTotals) (p' : Port) : (s.setTotals r t).link p' = s.link p' := rfl
@[simp] theorem setTotals_liveItem (r : Run) (t : RunTotals) (l' : LivePoint) : (s.setTotals r t).liveItem l' = s.liveItem l' := rfl
@[simp] theorem setTotals_limits (r : Run) (t : RunTotals) (u' : UnitId) : (s.setTotals r t).limits u' = s.limits u' := rfl
@[simp] theorem setTotals_proveRunning (r : Run) (t : RunTotals) : (s.setTotals r t).proveRunning = s.proveRunning := rfl
@[simp] theorem setTotals_provedRun (r : Run) (t : RunTotals) : (s.setTotals r t).provedRun = s.provedRun := rfl
@[simp] theorem setTotals_passInProgress (r : Run) (t : RunTotals) : (s.setTotals r t).passInProgress = s.passInProgress := rfl
@[simp] theorem setTotals_attemptsLeft (r : Run) (t : RunTotals) : (s.setTotals r t).attemptsLeft = s.attemptsLeft := rfl
@[simp] theorem setTotals_parcelOpen (r : Run) (t : RunTotals) : (s.setTotals r t).parcelOpen = s.parcelOpen := rfl
@[simp] theorem setTotals_currentSlot (r : Run) (t : RunTotals) : (s.setTotals r t).currentSlot = s.currentSlot := rfl
@[simp] theorem setTotals_offeredTarget (r : Run) (t : RunTotals) : (s.setTotals r t).offeredTarget = s.offeredTarget := rfl
@[simp] theorem setTotals_drivenLevel (r : Run) (t : RunTotals) : (s.setTotals r t).drivenLevel = s.drivenLevel := rfl
@[simp] theorem setTotals_provingRun (r : Run) (t : RunTotals) (r' : Run) : (s.setTotals r t).provingRun r' = s.provingRun r' := rfl
@[simp] theorem setTotals_inProve (r : Run) (t : RunTotals) (u' : UnitId) : (s.setTotals r t).inProve u' = s.inProve u' := by cases u' <;> rfl

/-! ## setSlot -/

@[simp] theorem setSlot_checkers (i : SlotId) (x : RingSlot) : (s.setSlot i x).checkers = s.checkers := rfl
@[simp] theorem setSlot_calcs (i : SlotId) (x : RingSlot) : (s.setSlot i x).calcs = s.calcs := rfl
@[simp] theorem setSlot_curves (i : SlotId) (x : RingSlot) : (s.setSlot i x).curves = s.curves := rfl
@[simp] theorem setSlot_grades (i : SlotId) (x : RingSlot) : (s.setSlot i x).grades = s.grades := rfl
@[simp] theorem setSlot_live (i : SlotId) (x : RingSlot) : (s.setSlot i x).live = s.live := rfl
@[simp] theorem setSlot_bank (i : SlotId) (x : RingSlot) : (s.setSlot i x).bank = s.bank := rfl
@[simp] theorem setSlot_retention (i : SlotId) (x : RingSlot) : (s.setSlot i x).retention = s.retention := rfl
@[simp] theorem setSlot_prove (i : SlotId) (x : RingSlot) : (s.setSlot i x).prove = s.prove := rfl
@[simp] theorem setSlot_claims (i : SlotId) (x : RingSlot) : (s.setSlot i x).claims = s.claims := rfl
@[simp] theorem setSlot_links (i : SlotId) (x : RingSlot) : (s.setSlot i x).links = s.links := rfl
@[simp] theorem setSlot_terminalTime (i : SlotId) (x : RingSlot) : (s.setSlot i x).terminalTime = s.terminalTime := rfl
@[simp] theorem setSlot_clockWait (i : SlotId) (x : RingSlot) : (s.setSlot i x).clockWait = s.clockWait := rfl
@[simp] theorem setSlot_toBank (i : SlotId) (x : RingSlot) : (s.setSlot i x).toBank = s.toBank := rfl
@[simp] theorem setSlot_toEngine (i : SlotId) (x : RingSlot) : (s.setSlot i x).toEngine = s.toEngine := rfl
@[simp] theorem setSlot_pending (i : SlotId) (x : RingSlot) : (s.setSlot i x).pending = s.pending := rfl
@[simp] theorem setSlot_freeCount (i : SlotId) (x : RingSlot) : (s.setSlot i x).freeCount = s.freeCount := rfl
@[simp] theorem setSlot_checker (i : SlotId) (x : RingSlot) (r' : Run) : (s.setSlot i x).checker r' = s.checker r' := rfl
@[simp] theorem setSlot_calcOf (i : SlotId) (x : RingSlot) (r' : Run) : (s.setSlot i x).calcOf r' = s.calcOf r' := rfl
@[simp] theorem setSlot_curve (i : SlotId) (x : RingSlot) (r' : Run) : (s.setSlot i x).curve r' = s.curve r' := rfl
@[simp] theorem setSlot_grade (i : SlotId) (x : RingSlot) (g' : GradeId) : (s.setSlot i x).grade g' = s.grade g' := rfl
@[simp] theorem setSlot_totals (i : SlotId) (x : RingSlot) (r' : Run) : (s.setSlot i x).totals r' = s.totals r' := rfl
@[simp] theorem setSlot_claim (i : SlotId) (x : RingSlot) (u' : UnitId) : (s.setSlot i x).claim u' = s.claim u' := rfl
@[simp] theorem setSlot_link (i : SlotId) (x : RingSlot) (p' : Port) : (s.setSlot i x).link p' = s.link p' := rfl
@[simp] theorem setSlot_liveItem (i : SlotId) (x : RingSlot) (l' : LivePoint) : (s.setSlot i x).liveItem l' = s.liveItem l' := rfl
@[simp] theorem setSlot_limits (i : SlotId) (x : RingSlot) (u' : UnitId) : (s.setSlot i x).limits u' = s.limits u' := rfl
@[simp] theorem setSlot_proveRunning (i : SlotId) (x : RingSlot) : (s.setSlot i x).proveRunning = s.proveRunning := rfl
@[simp] theorem setSlot_provedRun (i : SlotId) (x : RingSlot) : (s.setSlot i x).provedRun = s.provedRun := rfl
@[simp] theorem setSlot_passInProgress (i : SlotId) (x : RingSlot) : (s.setSlot i x).passInProgress = s.passInProgress := rfl
@[simp] theorem setSlot_attemptsLeft (i : SlotId) (x : RingSlot) : (s.setSlot i x).attemptsLeft = s.attemptsLeft := rfl
@[simp] theorem setSlot_provingRun (i : SlotId) (x : RingSlot) (r' : Run) : (s.setSlot i x).provingRun r' = s.provingRun r' := rfl
@[simp] theorem setSlot_inProve (i : SlotId) (x : RingSlot) (u' : UnitId) : (s.setSlot i x).inProve u' = s.inProve u' := by cases u' <;> rfl

/-! ## setClaim -/

@[simp] theorem setClaim_checkers (u : UnitId) (c : Claim) : (s.setClaim u c).checkers = s.checkers := rfl
@[simp] theorem setClaim_calcs (u : UnitId) (c : Claim) : (s.setClaim u c).calcs = s.calcs := rfl
@[simp] theorem setClaim_curves (u : UnitId) (c : Claim) : (s.setClaim u c).curves = s.curves := rfl
@[simp] theorem setClaim_grades (u : UnitId) (c : Claim) : (s.setClaim u c).grades = s.grades := rfl
@[simp] theorem setClaim_live (u : UnitId) (c : Claim) : (s.setClaim u c).live = s.live := rfl
@[simp] theorem setClaim_bank (u : UnitId) (c : Claim) : (s.setClaim u c).bank = s.bank := rfl
@[simp] theorem setClaim_retention (u : UnitId) (c : Claim) : (s.setClaim u c).retention = s.retention := rfl
@[simp] theorem setClaim_ring (u : UnitId) (c : Claim) : (s.setClaim u c).ring = s.ring := rfl
@[simp] theorem setClaim_prove (u : UnitId) (c : Claim) : (s.setClaim u c).prove = s.prove := rfl
@[simp] theorem setClaim_links (u : UnitId) (c : Claim) : (s.setClaim u c).links = s.links := rfl
@[simp] theorem setClaim_terminalTime (u : UnitId) (c : Claim) : (s.setClaim u c).terminalTime = s.terminalTime := rfl
@[simp] theorem setClaim_clockWait (u : UnitId) (c : Claim) : (s.setClaim u c).clockWait = s.clockWait := rfl
@[simp] theorem setClaim_toBank (u : UnitId) (c : Claim) : (s.setClaim u c).toBank = s.toBank := rfl
@[simp] theorem setClaim_toEngine (u : UnitId) (c : Claim) : (s.setClaim u c).toEngine = s.toEngine := rfl
@[simp] theorem setClaim_pending (u : UnitId) (c : Claim) : (s.setClaim u c).pending = s.pending := rfl
@[simp] theorem setClaim_freeCount (u : UnitId) (c : Claim) : (s.setClaim u c).freeCount = s.freeCount := rfl
@[simp] theorem setClaim_checker (u : UnitId) (c : Claim) (r' : Run) : (s.setClaim u c).checker r' = s.checker r' := rfl
@[simp] theorem setClaim_calcOf (u : UnitId) (c : Claim) (r' : Run) : (s.setClaim u c).calcOf r' = s.calcOf r' := rfl
@[simp] theorem setClaim_curve (u : UnitId) (c : Claim) (r' : Run) : (s.setClaim u c).curve r' = s.curve r' := rfl
@[simp] theorem setClaim_grade (u : UnitId) (c : Claim) (g' : GradeId) : (s.setClaim u c).grade g' = s.grade g' := rfl
@[simp] theorem setClaim_totals (u : UnitId) (c : Claim) (r' : Run) : (s.setClaim u c).totals r' = s.totals r' := rfl
@[simp] theorem setClaim_slot (u : UnitId) (c : Claim) (i' : SlotId) : (s.setClaim u c).slot i' = s.slot i' := rfl
@[simp] theorem setClaim_link (u : UnitId) (c : Claim) (p' : Port) : (s.setClaim u c).link p' = s.link p' := rfl
@[simp] theorem setClaim_liveItem (u : UnitId) (c : Claim) (l' : LivePoint) : (s.setClaim u c).liveItem l' = s.liveItem l' := rfl
@[simp] theorem setClaim_limits (u : UnitId) (c : Claim) (u' : UnitId) : (s.setClaim u c).limits u' = s.limits u' := rfl
@[simp] theorem setClaim_proveRunning (u : UnitId) (c : Claim) : (s.setClaim u c).proveRunning = s.proveRunning := rfl
@[simp] theorem setClaim_provedRun (u : UnitId) (c : Claim) : (s.setClaim u c).provedRun = s.provedRun := rfl
@[simp] theorem setClaim_passInProgress (u : UnitId) (c : Claim) : (s.setClaim u c).passInProgress = s.passInProgress := rfl
@[simp] theorem setClaim_attemptsLeft (u : UnitId) (c : Claim) : (s.setClaim u c).attemptsLeft = s.attemptsLeft := rfl
@[simp] theorem setClaim_parcelOpen (u : UnitId) (c : Claim) : (s.setClaim u c).parcelOpen = s.parcelOpen := rfl
@[simp] theorem setClaim_currentSlot (u : UnitId) (c : Claim) : (s.setClaim u c).currentSlot = s.currentSlot := rfl
@[simp] theorem setClaim_offeredTarget (u : UnitId) (c : Claim) : (s.setClaim u c).offeredTarget = s.offeredTarget := rfl
@[simp] theorem setClaim_drivenLevel (u : UnitId) (c : Claim) : (s.setClaim u c).drivenLevel = s.drivenLevel := rfl
@[simp] theorem setClaim_provingRun (u : UnitId) (c : Claim) (r' : Run) : (s.setClaim u c).provingRun r' = s.provingRun r' := rfl
@[simp] theorem setClaim_inProve (u : UnitId) (c : Claim) (u' : UnitId) : (s.setClaim u c).inProve u' = s.inProve u' := by cases u' <;> rfl

/-! ## setLink -/

@[simp] theorem setLink_checkers (p : Port) (l : Link) : (s.setLink p l).checkers = s.checkers := rfl
@[simp] theorem setLink_calcs (p : Port) (l : Link) : (s.setLink p l).calcs = s.calcs := rfl
@[simp] theorem setLink_curves (p : Port) (l : Link) : (s.setLink p l).curves = s.curves := rfl
@[simp] theorem setLink_grades (p : Port) (l : Link) : (s.setLink p l).grades = s.grades := rfl
@[simp] theorem setLink_live (p : Port) (l : Link) : (s.setLink p l).live = s.live := rfl
@[simp] theorem setLink_bank (p : Port) (l : Link) : (s.setLink p l).bank = s.bank := rfl
@[simp] theorem setLink_retention (p : Port) (l : Link) : (s.setLink p l).retention = s.retention := rfl
@[simp] theorem setLink_ring (p : Port) (l : Link) : (s.setLink p l).ring = s.ring := rfl
@[simp] theorem setLink_prove (p : Port) (l : Link) : (s.setLink p l).prove = s.prove := rfl
@[simp] theorem setLink_claims (p : Port) (l : Link) : (s.setLink p l).claims = s.claims := rfl
@[simp] theorem setLink_terminalTime (p : Port) (l : Link) : (s.setLink p l).terminalTime = s.terminalTime := rfl
@[simp] theorem setLink_clockWait (p : Port) (l : Link) : (s.setLink p l).clockWait = s.clockWait := rfl
@[simp] theorem setLink_toBank (p : Port) (l : Link) : (s.setLink p l).toBank = s.toBank := rfl
@[simp] theorem setLink_toEngine (p : Port) (l : Link) : (s.setLink p l).toEngine = s.toEngine := rfl
@[simp] theorem setLink_pending (p : Port) (l : Link) : (s.setLink p l).pending = s.pending := rfl
@[simp] theorem setLink_freeCount (p : Port) (l : Link) : (s.setLink p l).freeCount = s.freeCount := rfl
@[simp] theorem setLink_checker (p : Port) (l : Link) (r' : Run) : (s.setLink p l).checker r' = s.checker r' := rfl
@[simp] theorem setLink_calcOf (p : Port) (l : Link) (r' : Run) : (s.setLink p l).calcOf r' = s.calcOf r' := rfl
@[simp] theorem setLink_curve (p : Port) (l : Link) (r' : Run) : (s.setLink p l).curve r' = s.curve r' := rfl
@[simp] theorem setLink_grade (p : Port) (l : Link) (g' : GradeId) : (s.setLink p l).grade g' = s.grade g' := rfl
@[simp] theorem setLink_totals (p : Port) (l : Link) (r' : Run) : (s.setLink p l).totals r' = s.totals r' := rfl
@[simp] theorem setLink_slot (p : Port) (l : Link) (i' : SlotId) : (s.setLink p l).slot i' = s.slot i' := rfl
@[simp] theorem setLink_claim (p : Port) (l : Link) (u' : UnitId) : (s.setLink p l).claim u' = s.claim u' := rfl
@[simp] theorem setLink_liveItem (p : Port) (l : Link) (l' : LivePoint) : (s.setLink p l).liveItem l' = s.liveItem l' := rfl
@[simp] theorem setLink_limits (p : Port) (l : Link) (u' : UnitId) : (s.setLink p l).limits u' = s.limits u' := rfl
@[simp] theorem setLink_proveRunning (p : Port) (l : Link) : (s.setLink p l).proveRunning = s.proveRunning := rfl
@[simp] theorem setLink_provedRun (p : Port) (l : Link) : (s.setLink p l).provedRun = s.provedRun := rfl
@[simp] theorem setLink_passInProgress (p : Port) (l : Link) : (s.setLink p l).passInProgress = s.passInProgress := rfl
@[simp] theorem setLink_attemptsLeft (p : Port) (l : Link) : (s.setLink p l).attemptsLeft = s.attemptsLeft := rfl
@[simp] theorem setLink_parcelOpen (p : Port) (l : Link) : (s.setLink p l).parcelOpen = s.parcelOpen := rfl
@[simp] theorem setLink_currentSlot (p : Port) (l : Link) : (s.setLink p l).currentSlot = s.currentSlot := rfl
@[simp] theorem setLink_offeredTarget (p : Port) (l : Link) : (s.setLink p l).offeredTarget = s.offeredTarget := rfl
@[simp] theorem setLink_drivenLevel (p : Port) (l : Link) : (s.setLink p l).drivenLevel = s.drivenLevel := rfl
@[simp] theorem setLink_provingRun (p : Port) (l : Link) (r' : Run) : (s.setLink p l).provingRun r' = s.provingRun r' := rfl
@[simp] theorem setLink_inProve (p : Port) (l : Link) (u' : UnitId) : (s.setLink p l).inProve u' = s.inProve u' := by cases u' <;> rfl

/-! ## setResult -/

@[simp] theorem setResult_checkers (x : ProveResult) : (s.setResult x).checkers = s.checkers := rfl
@[simp] theorem setResult_calcs (x : ProveResult) : (s.setResult x).calcs = s.calcs := rfl
@[simp] theorem setResult_curves (x : ProveResult) : (s.setResult x).curves = s.curves := rfl
@[simp] theorem setResult_grades (x : ProveResult) : (s.setResult x).grades = s.grades := rfl
@[simp] theorem setResult_live (x : ProveResult) : (s.setResult x).live = s.live := rfl
@[simp] theorem setResult_bank (x : ProveResult) : (s.setResult x).bank = s.bank := rfl
@[simp] theorem setResult_retention (x : ProveResult) : (s.setResult x).retention = s.retention := rfl
@[simp] theorem setResult_ring (x : ProveResult) : (s.setResult x).ring = s.ring := rfl
@[simp] theorem setResult_claims (x : ProveResult) : (s.setResult x).claims = s.claims := rfl
@[simp] theorem setResult_links (x : ProveResult) : (s.setResult x).links = s.links := rfl
@[simp] theorem setResult_terminalTime (x : ProveResult) : (s.setResult x).terminalTime = s.terminalTime := rfl
@[simp] theorem setResult_clockWait (x : ProveResult) : (s.setResult x).clockWait = s.clockWait := rfl
@[simp] theorem setResult_toBank (x : ProveResult) : (s.setResult x).toBank = s.toBank := rfl
@[simp] theorem setResult_toEngine (x : ProveResult) : (s.setResult x).toEngine = s.toEngine := rfl
@[simp] theorem setResult_pending (x : ProveResult) : (s.setResult x).pending = s.pending := rfl
@[simp] theorem setResult_freeCount (x : ProveResult) : (s.setResult x).freeCount = s.freeCount := rfl
@[simp] theorem setResult_checker (x : ProveResult) (r' : Run) : (s.setResult x).checker r' = s.checker r' := rfl
@[simp] theorem setResult_calcOf (x : ProveResult) (r' : Run) : (s.setResult x).calcOf r' = s.calcOf r' := rfl
@[simp] theorem setResult_curve (x : ProveResult) (r' : Run) : (s.setResult x).curve r' = s.curve r' := rfl
@[simp] theorem setResult_grade (x : ProveResult) (g' : GradeId) : (s.setResult x).grade g' = s.grade g' := rfl
@[simp] theorem setResult_totals (x : ProveResult) (r' : Run) : (s.setResult x).totals r' = s.totals r' := rfl
@[simp] theorem setResult_slot (x : ProveResult) (i' : SlotId) : (s.setResult x).slot i' = s.slot i' := rfl
@[simp] theorem setResult_claim (x : ProveResult) (u' : UnitId) : (s.setResult x).claim u' = s.claim u' := rfl
@[simp] theorem setResult_link (x : ProveResult) (p' : Port) : (s.setResult x).link p' = s.link p' := rfl
@[simp] theorem setResult_liveItem (x : ProveResult) (l' : LivePoint) : (s.setResult x).liveItem l' = s.liveItem l' := rfl
@[simp] theorem setResult_limits (x : ProveResult) (u' : UnitId) : (s.setResult x).limits u' = s.limits u' := rfl
@[simp] theorem setResult_parcelOpen (x : ProveResult) : (s.setResult x).parcelOpen = s.parcelOpen := rfl
@[simp] theorem setResult_currentSlot (x : ProveResult) : (s.setResult x).currentSlot = s.currentSlot := rfl
@[simp] theorem setResult_offeredTarget (x : ProveResult) : (s.setResult x).offeredTarget = s.offeredTarget := rfl
@[simp] theorem setResult_drivenLevel (x : ProveResult) : (s.setResult x).drivenLevel = s.drivenLevel := rfl

/-! ## post -/

@[simp] theorem post_checkers (p : Port) (k : NoticeKind) (q : BitVec 8) : (s.post p k q).checkers = s.checkers := rfl
@[simp] theorem post_calcs (p : Port) (k : NoticeKind) (q : BitVec 8) : (s.post p k q).calcs = s.calcs := rfl
@[simp] theorem post_curves (p : Port) (k : NoticeKind) (q : BitVec 8) : (s.post p k q).curves = s.curves := rfl
@[simp] theorem post_grades (p : Port) (k : NoticeKind) (q : BitVec 8) : (s.post p k q).grades = s.grades := rfl
@[simp] theorem post_live (p : Port) (k : NoticeKind) (q : BitVec 8) : (s.post p k q).live = s.live := rfl
@[simp] theorem post_bank (p : Port) (k : NoticeKind) (q : BitVec 8) : (s.post p k q).bank = s.bank := rfl
@[simp] theorem post_retention (p : Port) (k : NoticeKind) (q : BitVec 8) : (s.post p k q).retention = s.retention := rfl
@[simp] theorem post_ring (p : Port) (k : NoticeKind) (q : BitVec 8) : (s.post p k q).ring = s.ring := rfl
@[simp] theorem post_prove (p : Port) (k : NoticeKind) (q : BitVec 8) : (s.post p k q).prove = s.prove := rfl
@[simp] theorem post_claims (p : Port) (k : NoticeKind) (q : BitVec 8) : (s.post p k q).claims = s.claims := rfl
@[simp] theorem post_terminalTime (p : Port) (k : NoticeKind) (q : BitVec 8) : (s.post p k q).terminalTime = s.terminalTime := rfl
@[simp] theorem post_clockWait (p : Port) (k : NoticeKind) (q : BitVec 8) : (s.post p k q).clockWait = s.clockWait := rfl
@[simp] theorem post_toBank (p : Port) (k : NoticeKind) (q : BitVec 8) : (s.post p k q).toBank = s.toBank := rfl
@[simp] theorem post_toEngine (p : Port) (k : NoticeKind) (q : BitVec 8) : (s.post p k q).toEngine = s.toEngine := rfl
@[simp] theorem post_pending (p : Port) (k : NoticeKind) (q : BitVec 8) : (s.post p k q).pending = s.pending := rfl
@[simp] theorem post_freeCount (p : Port) (k : NoticeKind) (q : BitVec 8) : (s.post p k q).freeCount = s.freeCount := rfl
@[simp] theorem post_checker (p : Port) (k : NoticeKind) (q : BitVec 8) (r' : Run) : (s.post p k q).checker r' = s.checker r' := rfl
@[simp] theorem post_calcOf (p : Port) (k : NoticeKind) (q : BitVec 8) (r' : Run) : (s.post p k q).calcOf r' = s.calcOf r' := rfl
@[simp] theorem post_curve (p : Port) (k : NoticeKind) (q : BitVec 8) (r' : Run) : (s.post p k q).curve r' = s.curve r' := rfl
@[simp] theorem post_grade (p : Port) (k : NoticeKind) (q : BitVec 8) (g' : GradeId) : (s.post p k q).grade g' = s.grade g' := rfl
@[simp] theorem post_totals (p : Port) (k : NoticeKind) (q : BitVec 8) (r' : Run) : (s.post p k q).totals r' = s.totals r' := rfl
@[simp] theorem post_slot (p : Port) (k : NoticeKind) (q : BitVec 8) (i' : SlotId) : (s.post p k q).slot i' = s.slot i' := rfl
@[simp] theorem post_claim (p : Port) (k : NoticeKind) (q : BitVec 8) (u' : UnitId) : (s.post p k q).claim u' = s.claim u' := rfl
@[simp] theorem post_liveItem (p : Port) (k : NoticeKind) (q : BitVec 8) (l' : LivePoint) : (s.post p k q).liveItem l' = s.liveItem l' := rfl
@[simp] theorem post_limits (p : Port) (k : NoticeKind) (q : BitVec 8) (u' : UnitId) : (s.post p k q).limits u' = s.limits u' := rfl
@[simp] theorem post_proveRunning (p : Port) (k : NoticeKind) (q : BitVec 8) : (s.post p k q).proveRunning = s.proveRunning := rfl
@[simp] theorem post_provedRun (p : Port) (k : NoticeKind) (q : BitVec 8) : (s.post p k q).provedRun = s.provedRun := rfl
@[simp] theorem post_passInProgress (p : Port) (k : NoticeKind) (q : BitVec 8) : (s.post p k q).passInProgress = s.passInProgress := rfl
@[simp] theorem post_attemptsLeft (p : Port) (k : NoticeKind) (q : BitVec 8) : (s.post p k q).attemptsLeft = s.attemptsLeft := rfl
@[simp] theorem post_parcelOpen (p : Port) (k : NoticeKind) (q : BitVec 8) : (s.post p k q).parcelOpen = s.parcelOpen := rfl
@[simp] theorem post_currentSlot (p : Port) (k : NoticeKind) (q : BitVec 8) : (s.post p k q).currentSlot = s.currentSlot := rfl
@[simp] theorem post_offeredTarget (p : Port) (k : NoticeKind) (q : BitVec 8) : (s.post p k q).offeredTarget = s.offeredTarget := rfl
@[simp] theorem post_drivenLevel (p : Port) (k : NoticeKind) (q : BitVec 8) : (s.post p k q).drivenLevel = s.drivenLevel := rfl
@[simp] theorem post_provingRun (p : Port) (k : NoticeKind) (q : BitVec 8) (r' : Run) : (s.post p k q).provingRun r' = s.provingRun r' := rfl
@[simp] theorem post_inProve (p : Port) (k : NoticeKind) (q : BitVec 8) (u' : UnitId) : (s.post p k q).inProve u' = s.inProve u' := by cases u' <;> rfl

/-! ## postAll -/

@[simp] theorem postAll_checkers (k : NoticeKind) (q : BitVec 8) : (s.postAll k q).checkers = s.checkers := rfl
@[simp] theorem postAll_calcs (k : NoticeKind) (q : BitVec 8) : (s.postAll k q).calcs = s.calcs := rfl
@[simp] theorem postAll_curves (k : NoticeKind) (q : BitVec 8) : (s.postAll k q).curves = s.curves := rfl
@[simp] theorem postAll_grades (k : NoticeKind) (q : BitVec 8) : (s.postAll k q).grades = s.grades := rfl
@[simp] theorem postAll_live (k : NoticeKind) (q : BitVec 8) : (s.postAll k q).live = s.live := rfl
@[simp] theorem postAll_bank (k : NoticeKind) (q : BitVec 8) : (s.postAll k q).bank = s.bank := rfl
@[simp] theorem postAll_retention (k : NoticeKind) (q : BitVec 8) : (s.postAll k q).retention = s.retention := rfl
@[simp] theorem postAll_ring (k : NoticeKind) (q : BitVec 8) : (s.postAll k q).ring = s.ring := rfl
@[simp] theorem postAll_prove (k : NoticeKind) (q : BitVec 8) : (s.postAll k q).prove = s.prove := rfl
@[simp] theorem postAll_claims (k : NoticeKind) (q : BitVec 8) : (s.postAll k q).claims = s.claims := rfl
@[simp] theorem postAll_terminalTime (k : NoticeKind) (q : BitVec 8) : (s.postAll k q).terminalTime = s.terminalTime := rfl
@[simp] theorem postAll_clockWait (k : NoticeKind) (q : BitVec 8) : (s.postAll k q).clockWait = s.clockWait := rfl
@[simp] theorem postAll_toBank (k : NoticeKind) (q : BitVec 8) : (s.postAll k q).toBank = s.toBank := rfl
@[simp] theorem postAll_toEngine (k : NoticeKind) (q : BitVec 8) : (s.postAll k q).toEngine = s.toEngine := rfl
@[simp] theorem postAll_pending (k : NoticeKind) (q : BitVec 8) : (s.postAll k q).pending = s.pending := rfl
@[simp] theorem postAll_freeCount (k : NoticeKind) (q : BitVec 8) : (s.postAll k q).freeCount = s.freeCount := rfl
@[simp] theorem postAll_checker (k : NoticeKind) (q : BitVec 8) (r' : Run) : (s.postAll k q).checker r' = s.checker r' := rfl
@[simp] theorem postAll_calcOf (k : NoticeKind) (q : BitVec 8) (r' : Run) : (s.postAll k q).calcOf r' = s.calcOf r' := rfl
@[simp] theorem postAll_curve (k : NoticeKind) (q : BitVec 8) (r' : Run) : (s.postAll k q).curve r' = s.curve r' := rfl
@[simp] theorem postAll_grade (k : NoticeKind) (q : BitVec 8) (g' : GradeId) : (s.postAll k q).grade g' = s.grade g' := rfl
@[simp] theorem postAll_totals (k : NoticeKind) (q : BitVec 8) (r' : Run) : (s.postAll k q).totals r' = s.totals r' := rfl
@[simp] theorem postAll_slot (k : NoticeKind) (q : BitVec 8) (i' : SlotId) : (s.postAll k q).slot i' = s.slot i' := rfl
@[simp] theorem postAll_claim (k : NoticeKind) (q : BitVec 8) (u' : UnitId) : (s.postAll k q).claim u' = s.claim u' := rfl
@[simp] theorem postAll_liveItem (k : NoticeKind) (q : BitVec 8) (l' : LivePoint) : (s.postAll k q).liveItem l' = s.liveItem l' := rfl
@[simp] theorem postAll_limits (k : NoticeKind) (q : BitVec 8) (u' : UnitId) : (s.postAll k q).limits u' = s.limits u' := rfl
@[simp] theorem postAll_proveRunning (k : NoticeKind) (q : BitVec 8) : (s.postAll k q).proveRunning = s.proveRunning := rfl
@[simp] theorem postAll_provedRun (k : NoticeKind) (q : BitVec 8) : (s.postAll k q).provedRun = s.provedRun := rfl
@[simp] theorem postAll_passInProgress (k : NoticeKind) (q : BitVec 8) : (s.postAll k q).passInProgress = s.passInProgress := rfl
@[simp] theorem postAll_attemptsLeft (k : NoticeKind) (q : BitVec 8) : (s.postAll k q).attemptsLeft = s.attemptsLeft := rfl
@[simp] theorem postAll_parcelOpen (k : NoticeKind) (q : BitVec 8) : (s.postAll k q).parcelOpen = s.parcelOpen := rfl
@[simp] theorem postAll_currentSlot (k : NoticeKind) (q : BitVec 8) : (s.postAll k q).currentSlot = s.currentSlot := rfl
@[simp] theorem postAll_offeredTarget (k : NoticeKind) (q : BitVec 8) : (s.postAll k q).offeredTarget = s.offeredTarget := rfl
@[simp] theorem postAll_drivenLevel (k : NoticeKind) (q : BitVec 8) : (s.postAll k q).drivenLevel = s.drivenLevel := rfl
@[simp] theorem postAll_provingRun (k : NoticeKind) (q : BitVec 8) (r' : Run) : (s.postAll k q).provingRun r' = s.provingRun r' := rfl
@[simp] theorem postAll_inProve (k : NoticeKind) (q : BitVec 8) (u' : UnitId) : (s.postAll k q).inProve u' = s.inProve u' := by cases u' <;> rfl

/-! ## respond -/

@[simp] theorem respond_checkers (p : Port) (x : Response) : (s.respond p x).checkers = s.checkers := rfl
@[simp] theorem respond_calcs (p : Port) (x : Response) : (s.respond p x).calcs = s.calcs := rfl
@[simp] theorem respond_curves (p : Port) (x : Response) : (s.respond p x).curves = s.curves := rfl
@[simp] theorem respond_grades (p : Port) (x : Response) : (s.respond p x).grades = s.grades := rfl
@[simp] theorem respond_live (p : Port) (x : Response) : (s.respond p x).live = s.live := rfl
@[simp] theorem respond_bank (p : Port) (x : Response) : (s.respond p x).bank = s.bank := rfl
@[simp] theorem respond_retention (p : Port) (x : Response) : (s.respond p x).retention = s.retention := rfl
@[simp] theorem respond_ring (p : Port) (x : Response) : (s.respond p x).ring = s.ring := rfl
@[simp] theorem respond_prove (p : Port) (x : Response) : (s.respond p x).prove = s.prove := rfl
@[simp] theorem respond_claims (p : Port) (x : Response) : (s.respond p x).claims = s.claims := rfl
@[simp] theorem respond_terminalTime (p : Port) (x : Response) : (s.respond p x).terminalTime = s.terminalTime := rfl
@[simp] theorem respond_clockWait (p : Port) (x : Response) : (s.respond p x).clockWait = s.clockWait := rfl
@[simp] theorem respond_toBank (p : Port) (x : Response) : (s.respond p x).toBank = s.toBank := rfl
@[simp] theorem respond_toEngine (p : Port) (x : Response) : (s.respond p x).toEngine = s.toEngine := rfl
@[simp] theorem respond_pending (p : Port) (x : Response) : (s.respond p x).pending = s.pending := rfl
@[simp] theorem respond_freeCount (p : Port) (x : Response) : (s.respond p x).freeCount = s.freeCount := rfl
@[simp] theorem respond_checker (p : Port) (x : Response) (r' : Run) : (s.respond p x).checker r' = s.checker r' := rfl
@[simp] theorem respond_calcOf (p : Port) (x : Response) (r' : Run) : (s.respond p x).calcOf r' = s.calcOf r' := rfl
@[simp] theorem respond_curve (p : Port) (x : Response) (r' : Run) : (s.respond p x).curve r' = s.curve r' := rfl
@[simp] theorem respond_grade (p : Port) (x : Response) (g' : GradeId) : (s.respond p x).grade g' = s.grade g' := rfl
@[simp] theorem respond_totals (p : Port) (x : Response) (r' : Run) : (s.respond p x).totals r' = s.totals r' := rfl
@[simp] theorem respond_slot (p : Port) (x : Response) (i' : SlotId) : (s.respond p x).slot i' = s.slot i' := rfl
@[simp] theorem respond_claim (p : Port) (x : Response) (u' : UnitId) : (s.respond p x).claim u' = s.claim u' := rfl
@[simp] theorem respond_liveItem (p : Port) (x : Response) (l' : LivePoint) : (s.respond p x).liveItem l' = s.liveItem l' := rfl
@[simp] theorem respond_limits (p : Port) (x : Response) (u' : UnitId) : (s.respond p x).limits u' = s.limits u' := rfl
@[simp] theorem respond_proveRunning (p : Port) (x : Response) : (s.respond p x).proveRunning = s.proveRunning := rfl
@[simp] theorem respond_provedRun (p : Port) (x : Response) : (s.respond p x).provedRun = s.provedRun := rfl
@[simp] theorem respond_passInProgress (p : Port) (x : Response) : (s.respond p x).passInProgress = s.passInProgress := rfl
@[simp] theorem respond_attemptsLeft (p : Port) (x : Response) : (s.respond p x).attemptsLeft = s.attemptsLeft := rfl
@[simp] theorem respond_parcelOpen (p : Port) (x : Response) : (s.respond p x).parcelOpen = s.parcelOpen := rfl
@[simp] theorem respond_currentSlot (p : Port) (x : Response) : (s.respond p x).currentSlot = s.currentSlot := rfl
@[simp] theorem respond_offeredTarget (p : Port) (x : Response) : (s.respond p x).offeredTarget = s.offeredTarget := rfl
@[simp] theorem respond_drivenLevel (p : Port) (x : Response) : (s.respond p x).drivenLevel = s.drivenLevel := rfl
@[simp] theorem respond_provingRun (p : Port) (x : Response) (r' : Run) : (s.respond p x).provingRun r' = s.provingRun r' := rfl
@[simp] theorem respond_inProve (p : Port) (x : Response) (u' : UnitId) : (s.respond p x).inProve u' = s.inProve u' := by cases u' <;> rfl

/-! ## The updated instance itself, and the others -/

@[simp] theorem setChecker_self (r : Run) (c : Checker) : (s.setChecker r c).checker r = c := PerRun.get_set_self ..
@[simp] theorem setCalc_self (r : Run) (c : Calculator) : (s.setCalc r c).calcOf r = c := PerRun.get_set_self ..
@[simp] theorem setCurve_self (r : Run) (c : List CurvePoint) : (s.setCurve r c).curve r = c := PerRun.get_set_self ..
@[simp] theorem setGrade_self (g : GradeId) (x : Grade) : (s.setGrade g x).grade g = x := Eight.get_set_self ..
@[simp] theorem setTotals_self (r : Run) (t : RunTotals) : (s.setTotals r t).totals r = t := PerRun.get_set_self ..
@[simp] theorem setSlot_self (i : SlotId) (x : RingSlot) : (s.setSlot i x).slot i = x := Eight.get_set_self ..
@[simp] theorem setClaim_self (u : UnitId) (c : Claim) : (s.setClaim u c).claim u = c := PerUnit.get_set_self ..
@[simp] theorem setLink_self (p : Port) (l : Link) : (s.setLink p l).link p = l := PerPort.get_set_self ..

theorem setChecker_ne {r r' : Run} (h : r' ≠ r) (c : Checker) : (s.setChecker r c).checker r' = s.checker r' :=
  PerRun.get_set_ne h ..
theorem setCalc_ne {r r' : Run} (h : r' ≠ r) (c : Calculator) : (s.setCalc r c).calcOf r' = s.calcOf r' :=
  PerRun.get_set_ne h ..
theorem setCurve_ne {r r' : Run} (h : r' ≠ r) (c : List CurvePoint) : (s.setCurve r c).curve r' = s.curve r' :=
  PerRun.get_set_ne h ..
theorem setGrade_ne {g g' : GradeId} (h : g' ≠ g) (x : Grade) : (s.setGrade g x).grade g' = s.grade g' :=
  Eight.get_set_ne h ..
theorem setTotals_ne {r r' : Run} (h : r' ≠ r) (t : RunTotals) : (s.setTotals r t).totals r' = s.totals r' :=
  PerRun.get_set_ne h ..
theorem setSlot_ne {i j : SlotId} (h : j ≠ i) (x : RingSlot) : (s.setSlot i x).slot j = s.slot j := Eight.get_set_ne h ..
theorem setClaim_ne {u u' : UnitId} (h : u' ≠ u) (c : Claim) : (s.setClaim u c).claim u' = s.claim u' :=
  PerUnit.get_set_ne h ..
theorem setLink_ne {p p' : Port} (h : p' ≠ p) (l : Link) : (s.setLink p l).link p' = s.link p' := PerPort.get_set_ne h ..

/-! ## Writing back what is there -/

@[simp] theorem setChecker_same (r : Run) : s.setChecker r (s.checker r) = s := by cases r <;> rfl
@[simp] theorem setCalc_same (r : Run) : s.setCalc r (s.calcOf r) = s := by cases r <;> rfl
@[simp] theorem setClaim_same (u : UnitId) : s.setClaim u (s.claim u) = s := by
  cases u with
  | run r => cases r <;> rfl
  | prover => rfl
@[simp] theorem setLink_same (p : Port) : s.setLink p (s.link p) = s := by cases p <;> rfl

/-! ## The parts of a composed update -/

@[simp] theorem setSlot_head (i : SlotId) (x : RingSlot) : (s.setSlot i x).ring.head = s.ring.head := rfl
@[simp] theorem setSlot_tail (i : SlotId) (x : RingSlot) : (s.setSlot i x).ring.tail = s.ring.tail := rfl
@[simp] theorem setSlot_current (i : SlotId) (x : RingSlot) : (s.setSlot i x).ring.current = s.ring.current := rfl
@[simp] theorem setSlot_level (i : SlotId) (x : RingSlot) : (s.setSlot i x).ring.level = s.ring.level := rfl
@[simp] theorem setSlot_resumePending (i : SlotId) (x : RingSlot) :
    (s.setSlot i x).ring.resumePending = s.ring.resumePending := rfl
@[simp] theorem setSlot_standingGrade (i : SlotId) (x : RingSlot) :
    (s.setSlot i x).ring.standingGrade = s.ring.standingGrade := rfl
@[simp] theorem setSlot_closing (i : SlotId) (x : RingSlot) : (s.setSlot i x).ring.closing = s.ring.closing := rfl
@[simp] theorem setSlot_watch (i : SlotId) (x : RingSlot) : (s.setSlot i x).ring.watch = s.ring.watch := rfl
@[simp] theorem setTotals_iv (r : Run) (t : RunTotals) : (s.setTotals r t).bank.iv = s.bank.iv := rfl
@[simp] theorem setTotals_gsv (r : Run) (t : RunTotals) : (s.setTotals r t).bank.gsv = s.bank.gsv := rfl
@[simp] theorem setTotals_nsv (r : Run) (t : RunTotals) : (s.setTotals r t).bank.nsv = s.bank.nsv := rfl
@[simp] theorem setTotals_rev (r : Run) (t : RunTotals) : (s.setTotals r t).bank.rev = s.bank.rev := rfl
@[simp] theorem setResult_result (x : ProveResult) : (s.setResult x).prove.result = x := rfl
@[simp] theorem setResult_engine (x : ProveResult) : (s.setResult x).prove.engine = s.prove.engine := rfl
@[simp] theorem setResult_config (x : ProveResult) : (s.setResult x).prove.config = s.prove.config := rfl
@[simp] theorem setResult_timebase (x : ProveResult) : (s.setResult x).prove.timebase = s.prove.timebase := rfl
@[simp] theorem setResult_passTimer (x : ProveResult) : (s.setResult x).prove.passTimer = s.prove.passTimer := rfl
@[simp] theorem setResult_working (x : ProveResult) : (s.setResult x).prove.working = s.prove.working := rfl

/-! ## The passage of time -/

@[simp] theorem elapse_checkers (n : Nat) : (s.elapse n).checkers = s.checkers := rfl
@[simp] theorem comeTo_checkers (n : Nat) : (s.comeTo n).checkers = s.checkers := rfl
@[simp] theorem elapse_calcs (n : Nat) : (s.elapse n).calcs = s.calcs := rfl
@[simp] theorem comeTo_calcs (n : Nat) : (s.comeTo n).calcs = s.calcs := rfl
@[simp] theorem elapse_curves (n : Nat) : (s.elapse n).curves = s.curves := rfl
@[simp] theorem comeTo_curves (n : Nat) : (s.comeTo n).curves = s.curves := rfl
@[simp] theorem elapse_grades (n : Nat) : (s.elapse n).grades = s.grades := rfl
@[simp] theorem comeTo_grades (n : Nat) : (s.comeTo n).grades = s.grades := rfl
@[simp] theorem elapse_bank (n : Nat) : (s.elapse n).bank = s.bank := rfl
@[simp] theorem comeTo_bank (n : Nat) : (s.comeTo n).bank = s.bank := rfl
@[simp] theorem elapse_retention (n : Nat) : (s.elapse n).retention = s.retention := rfl
@[simp] theorem comeTo_retention (n : Nat) : (s.comeTo n).retention = s.retention := rfl
@[simp] theorem elapse_ring (n : Nat) : (s.elapse n).ring = s.ring := rfl
@[simp] theorem comeTo_ring (n : Nat) : (s.comeTo n).ring = s.ring := rfl
@[simp] theorem elapse_links (n : Nat) : (s.elapse n).links = s.links := rfl
@[simp] theorem comeTo_links (n : Nat) : (s.comeTo n).links = s.links := rfl
@[simp] theorem elapse_terminalTime (n : Nat) : (s.elapse n).terminalTime = s.terminalTime := rfl
@[simp] theorem elapse_clockWait (n : Nat) : (s.elapse n).clockWait = runOut n s.clockWait := rfl
@[simp] theorem comeTo_terminalTime (n : Nat) : (s.comeTo n).terminalTime = s.terminalTime := rfl
@[simp] theorem elapse_toBank (n : Nat) : (s.elapse n).toBank = s.toBank := rfl
@[simp] theorem comeTo_toBank (n : Nat) : (s.comeTo n).toBank = s.toBank := rfl
@[simp] theorem elapse_toEngine (n : Nat) : (s.elapse n).toEngine = s.toEngine := rfl
@[simp] theorem comeTo_toEngine (n : Nat) : (s.comeTo n).toEngine = s.toEngine := rfl
@[simp] theorem elapse_pending (n : Nat) : (s.elapse n).pending = s.pending := rfl
@[simp] theorem comeTo_pending (n : Nat) : (s.comeTo n).pending = s.pending := rfl
@[simp] theorem elapse_freeCount (n : Nat) : (s.elapse n).freeCount = s.freeCount := rfl
@[simp] theorem comeTo_freeCount (n : Nat) : (s.comeTo n).freeCount = s.freeCount := rfl
@[simp] theorem elapse_checker (n : Nat) (r' : Run) : (s.elapse n).checker r' = s.checker r' := rfl
@[simp] theorem elapse_calcOf (n : Nat) (r' : Run) : (s.elapse n).calcOf r' = s.calcOf r' := rfl
@[simp] theorem elapse_curve (n : Nat) (r' : Run) : (s.elapse n).curve r' = s.curve r' := rfl
@[simp] theorem elapse_grade (n : Nat) (g' : GradeId) : (s.elapse n).grade g' = s.grade g' := rfl
@[simp] theorem elapse_totals (n : Nat) (r' : Run) : (s.elapse n).totals r' = s.totals r' := rfl
@[simp] theorem elapse_slot (n : Nat) (i' : SlotId) : (s.elapse n).slot i' = s.slot i' := rfl
@[simp] theorem elapse_link (n : Nat) (p' : Port) : (s.elapse n).link p' = s.link p' := rfl
@[simp] theorem elapse_proveRunning (n : Nat) : (s.elapse n).proveRunning = s.proveRunning := rfl
@[simp] theorem elapse_provedRun (n : Nat) : (s.elapse n).provedRun = s.provedRun := rfl
@[simp] theorem elapse_passInProgress (n : Nat) : (s.elapse n).passInProgress = s.passInProgress := rfl
@[simp] theorem elapse_attemptsLeft (n : Nat) : (s.elapse n).attemptsLeft = s.attemptsLeft := rfl
@[simp] theorem elapse_parcelOpen (n : Nat) : (s.elapse n).parcelOpen = s.parcelOpen := rfl
@[simp] theorem elapse_currentSlot (n : Nat) : (s.elapse n).currentSlot = s.currentSlot := rfl
@[simp] theorem elapse_offeredTarget (n : Nat) : (s.elapse n).offeredTarget = s.offeredTarget := rfl
@[simp] theorem elapse_drivenLevel (n : Nat) : (s.elapse n).drivenLevel = s.drivenLevel := rfl
@[simp] theorem elapse_provingRun (n : Nat) (r' : Run) : (s.elapse n).provingRun r' = s.provingRun r' := rfl
@[simp] theorem elapse_inProve (n : Nat) (u' : UnitId) : (s.elapse n).inProve u' = s.inProve u' := by cases u' <;> rfl
@[simp] theorem comeTo_checker (n : Nat) (r' : Run) : (s.comeTo n).checker r' = s.checker r' := rfl
@[simp] theorem comeTo_calcOf (n : Nat) (r' : Run) : (s.comeTo n).calcOf r' = s.calcOf r' := rfl
@[simp] theorem comeTo_curve (n : Nat) (r' : Run) : (s.comeTo n).curve r' = s.curve r' := rfl
@[simp] theorem comeTo_grade (n : Nat) (g' : GradeId) : (s.comeTo n).grade g' = s.grade g' := rfl
@[simp] theorem comeTo_totals (n : Nat) (r' : Run) : (s.comeTo n).totals r' = s.totals r' := rfl
@[simp] theorem comeTo_slot (n : Nat) (i' : SlotId) : (s.comeTo n).slot i' = s.slot i' := rfl
@[simp] theorem comeTo_link (n : Nat) (p' : Port) : (s.comeTo n).link p' = s.link p' := rfl
@[simp] theorem comeTo_proveRunning (n : Nat) : (s.comeTo n).proveRunning = s.proveRunning := rfl
@[simp] theorem comeTo_provedRun (n : Nat) : (s.comeTo n).provedRun = s.provedRun := rfl
@[simp] theorem comeTo_passInProgress (n : Nat) : (s.comeTo n).passInProgress = s.passInProgress := rfl
@[simp] theorem comeTo_attemptsLeft (n : Nat) : (s.comeTo n).attemptsLeft = s.attemptsLeft := rfl
@[simp] theorem comeTo_parcelOpen (n : Nat) : (s.comeTo n).parcelOpen = s.parcelOpen := rfl
@[simp] theorem comeTo_currentSlot (n : Nat) : (s.comeTo n).currentSlot = s.currentSlot := rfl
@[simp] theorem comeTo_offeredTarget (n : Nat) : (s.comeTo n).offeredTarget = s.offeredTarget := rfl
@[simp] theorem comeTo_drivenLevel (n : Nat) : (s.comeTo n).drivenLevel = s.drivenLevel := rfl
@[simp] theorem comeTo_provingRun (n : Nat) (r' : Run) : (s.comeTo n).provingRun r' = s.provingRun r' := rfl
@[simp] theorem comeTo_inProve (n : Nat) (u' : UnitId) : (s.comeTo n).inProve u' = s.inProve u' := by cases u' <;> rfl

@[simp] theorem elapse_timebase (n : Nat) : (s.elapse n).prove.timebase = s.prove.timebase + n := rfl
@[simp] theorem elapse_config (n : Nat) : (s.elapse n).prove.config = s.prove.config := rfl
@[simp] theorem elapse_engine (n : Nat) : (s.elapse n).prove.engine = s.prove.engine := rfl
@[simp] theorem elapse_working (n : Nat) : (s.elapse n).prove.working = s.prove.working := rfl
@[simp] theorem elapse_result (n : Nat) : (s.elapse n).prove.result = s.prove.result := rfl
@[simp] theorem comeTo_engine (n : Nat) : (s.comeTo n).prove.engine = s.prove.engine := rfl
@[simp] theorem comeTo_working (n : Nat) : (s.comeTo n).prove.working = s.prove.working := rfl
@[simp] theorem comeTo_result (n : Nat) : (s.comeTo n).prove.result = s.prove.result := rfl
@[simp] theorem comeTo_config (n : Nat) : (s.comeTo n).prove.config = s.prove.config := rfl

@[simp] theorem elapse_passTimer (n : Nat) : (s.elapse n).prove.passTimer = countDown n s.prove.passTimer := rfl
@[simp] theorem elapse_claim (n : Nat) (u : UnitId) :
    (s.elapse n).claim u = { s.claim u with timer := countDown n (s.claim u).timer } := by
  rcases u with (_ | _ | _ | _) | _ <;> rfl
@[simp] theorem elapse_liveItem (n : Nat) (l : LivePoint) : (s.elapse n).liveItem l = (s.liveItem l).pass n := by
  rcases l with ⟨r, q⟩ | _ | _
  · cases r <;> cases q <;> rfl
  all_goals rfl
@[simp] theorem elapse_limits (n : Nat) (u : UnitId) : (s.elapse n).limits u = s.limits u := by
  rcases u with (_ | _ | _ | _) | _ <;> rfl

@[simp] theorem runOut_none (n : Nat) : runOut n none = none := rfl
@[simp] theorem runOut_some (n left : Nat) : runOut n (some left) = if n < left then some (left - n) else none := rfl

/-- A running timer still runs after any number of ticks, and a stopped one stays stopped. -/
@[simp] theorem countDown_isSome (n : Nat) (t : Option Nat) : (countDown n t).isSome = t.isSome := by cases t <;> rfl

/-- The timebase comes to the later of its own reading and the event's. -/
theorem comeTo_timebase (n : Nat) : (s.comeTo n).prove.timebase = max s.prove.timebase n := by
  simp only [State.comeTo, elapse_timebase]; omega

end Sys2Proof.Machine
end

