-- ==== Sys2Proof/Laws/Requests.lean ====
section
/-! SUPPORT. What taking a request can do before its block acts: the renewal of hold timers, the waiting lists, the handover, and the
outcomes of `serve` and `event`. Proofs about requests cite these and do not unfold them. -/

namespace Sys2Proof.Machine

/-! ## Names of operands -/

@[simp] theorem runOf_runNumber (r : Run) : runOf (runNumber r) = some r := by cases r <;> rfl
@[simp] theorem unitOf_runNumber (r : Run) : unitOf (runNumber r) = some (.run r) := by cases r <;> rfl
@[simp] theorem unitOf_unitNumber (u : UnitId) : unitOf (unitNumber u) = some u := by
  cases u with
  | run r => cases r <;> rfl
  | prover => rfl
@[simp] theorem portOf_portNumber (p : Port) : portOf (portNumber p) = some p := by cases p <;> rfl
@[simp] theorem slotOf_val (i : SlotId) : slotOf i.val = some i := by simp [slotOf]
@[simp] theorem gradeOf_val (g : GradeId) : gradeOf (g.val + 1) = some g := by
  have h : 1 ≤ g.val + 1 ∧ g.val + 1 ≤ 8 := ⟨by omega, by omega⟩
  simp [gradeOf, h]
@[simp] theorem namedUnits_runNumber (r : Run) : namedUnits (runNumber r) = [.run r] := by cases r <;> rfl
@[simp] theorem namedUnits_unitNumber (u : UnitId) : namedUnits (unitNumber u) = [u] := by simp [namedUnits]
@[simp] theorem startUnits_runNumber (r : Run) : startUnits (runNumber r) = [.run r, .prover] := by cases r <;> rfl

/-- A unit field that names a run names that unit. -/
theorem namedUnits_of_runOf {unit : Nat} {r : Run} (h : runOf unit = some r) : namedUnits unit = [.run r] := by
  unfold runOf at h
  split at h <;> simp_all [namedUnits, unitOf]

/-! ## Renewal (R155) -/

/-- A renewal changes at most one hold timer. -/
theorem renew_eq (p : Port) (u : UnitId) (s : State) : ∃ t, renew p s u = s.setClaim u { s.claim u with timer := t } := by
  unfold renew
  split
  · exact ⟨_, rfl⟩
  · exact ⟨(s.claim u).timer, (setClaim_same s u).symm⟩

@[simp] theorem renewed_nil (p : Port) (s : State) : renewed p [] s = s := rfl

theorem renewed_cons (p : Port) (u : UnitId) (us : List UnitId) (s : State) :
    renewed p (u :: us) s = renewed p us (renew p s u) := rfl

/-- A port that does not hold a unit renews nothing there. -/
theorem renew_of_not_holder {p : Port} {u : UnitId} {s : State} (h : s.holds p u = false) : renew p s u = s := by
  simp [renew, h]

/-- The renewal of any units changes claim records alone. -/
theorem renewed_claims (p : Port) (us : List UnitId) (s : State) : ∃ c, renewed p us s = { s with claims := c } := by
  induction us generalizing s with
  | nil => exact ⟨s.claims, rfl⟩
  | cons u us ih =>
    obtain ⟨t, h⟩ := renew_eq p u s
    obtain ⟨c, h'⟩ := ih (renew p s u)
    exact ⟨c, by rw [renewed_cons, h', h]; rfl⟩

/-- A renewal keeps holder, waiting list and hold time of every unit. -/
theorem renew_claim (p : Port) (u w : UnitId) (s : State) :
    ((renew p s u).claim w).holder = (s.claim w).holder ∧ ((renew p s u).claim w).waiting = (s.claim w).waiting
      ∧ ((renew p s u).claim w).holdTime = (s.claim w).holdTime := by
  obtain ⟨t, h⟩ := renew_eq p u s
  rw [h]
  by_cases e : w = u
  · subst e; simp
  · simp [setClaim_ne _ e]

/-- The renewal of any units keeps holder, waiting list and hold time of every unit. -/
theorem renewed_claim (p : Port) (us : List UnitId) (w : UnitId) (s : State) :
    ((renewed p us s).claim w).holder = (s.claim w).holder ∧ ((renewed p us s).claim w).waiting = (s.claim w).waiting
      ∧ ((renewed p us s).claim w).holdTime = (s.claim w).holdTime := by
  induction us generalizing s with
  | nil => exact ⟨rfl, rfl, rfl⟩
  | cons u us ih =>
    obtain ⟨h1, h2, h3⟩ := ih (renew p s u)
    obtain ⟨g1, g2, g3⟩ := renew_claim p u w s
    rw [renewed_cons]
    exact ⟨h1.trans g1, h2.trans g2, h3.trans g3⟩

@[simp] theorem renewed_holds (p : Port) (us : List UnitId) (q : Port) (w : UnitId) (s : State) :
    (renewed p us s).holds q w = s.holds q w := by
  unfold State.holds
  rw [(renewed_claim p us w s).1]

@[simp] theorem renewed_checkers (p : Port) (us : List UnitId) (s : State) : (renewed p us s).checkers = s.checkers := by
  obtain ⟨c, h⟩ := renewed_claims p us s; rw [h]
@[simp] theorem renewed_calcs (p : Port) (us : List UnitId) (s : State) : (renewed p us s).calcs = s.calcs := by
  obtain ⟨c, h⟩ := renewed_claims p us s; rw [h]
@[simp] theorem renewed_curves (p : Port) (us : List UnitId) (s : State) : (renewed p us s).curves = s.curves := by
  obtain ⟨c, h⟩ := renewed_claims p us s; rw [h]
@[simp] theorem renewed_grades (p : Port) (us : List UnitId) (s : State) : (renewed p us s).grades = s.grades := by
  obtain ⟨c, h⟩ := renewed_claims p us s; rw [h]
@[simp] theorem renewed_live (p : Port) (us : List UnitId) (s : State) : (renewed p us s).live = s.live := by
  obtain ⟨c, h⟩ := renewed_claims p us s; rw [h]
@[simp] theorem renewed_bank (p : Port) (us : List UnitId) (s : State) : (renewed p us s).bank = s.bank := by
  obtain ⟨c, h⟩ := renewed_claims p us s; rw [h]
@[simp] theorem renewed_retention (p : Port) (us : List UnitId) (s : State) : (renewed p us s).retention = s.retention := by
  obtain ⟨c, h⟩ := renewed_claims p us s; rw [h]
@[simp] theorem renewed_ring (p : Port) (us : List UnitId) (s : State) : (renewed p us s).ring = s.ring := by
  obtain ⟨c, h⟩ := renewed_claims p us s; rw [h]
@[simp] theorem renewed_prove (p : Port) (us : List UnitId) (s : State) : (renewed p us s).prove = s.prove := by
  obtain ⟨c, h⟩ := renewed_claims p us s; rw [h]
@[simp] theorem renewed_links (p : Port) (us : List UnitId) (s : State) : (renewed p us s).links = s.links := by
  obtain ⟨c, h⟩ := renewed_claims p us s; rw [h]
@[simp] theorem renewed_terminalTime (p : Port) (us : List UnitId) (s : State) : (renewed p us s).terminalTime = s.terminalTime := by
  obtain ⟨c, h⟩ := renewed_claims p us s; rw [h]
@[simp] theorem renewed_clockWait (p : Port) (us : List UnitId) (s : State) : (renewed p us s).clockWait = s.clockWait := by
  obtain ⟨c, h⟩ := renewed_claims p us s; rw [h]
@[simp] theorem renewed_toBank (p : Port) (us : List UnitId) (s : State) : (renewed p us s).toBank = s.toBank := by
  obtain ⟨c, h⟩ := renewed_claims p us s; rw [h]
@[simp] theorem renewed_toEngine (p : Port) (us : List UnitId) (s : State) : (renewed p us s).toEngine = s.toEngine := by
  obtain ⟨c, h⟩ := renewed_claims p us s; rw [h]
@[simp] theorem renewed_pending (p : Port) (us : List UnitId) (s : State) : (renewed p us s).pending = s.pending := by
  obtain ⟨c, h⟩ := renewed_claims p us s; rw [h]
@[simp] theorem renewed_freeCount (p : Port) (us : List UnitId) (s : State) : (renewed p us s).freeCount = s.freeCount := by
  obtain ⟨c, h⟩ := renewed_claims p us s; rw [h]
@[simp] theorem renewed_checker (p : Port) (us : List UnitId) (s : State) (r : Run) :
    (renewed p us s).checker r = s.checker r := by
  obtain ⟨c, h⟩ := renewed_claims p us s; rw [h]; rfl
@[simp] theorem renewed_calcOf (p : Port) (us : List UnitId) (s : State) (r : Run) :
    (renewed p us s).calcOf r = s.calcOf r := by
  obtain ⟨c, h⟩ := renewed_claims p us s; rw [h]; rfl
@[simp] theorem renewed_curve (p : Port) (us : List UnitId) (s : State) (r : Run) :
    (renewed p us s).curve r = s.curve r := by
  obtain ⟨c, h⟩ := renewed_claims p us s; rw [h]; rfl
@[simp] theorem renewed_grade (p : Port) (us : List UnitId) (s : State) (g : GradeId) :
    (renewed p us s).grade g = s.grade g := by
  obtain ⟨c, h⟩ := renewed_claims p us s; rw [h]; rfl
@[simp] theorem renewed_totals (p : Port) (us : List UnitId) (s : State) (r : Run) :
    (renewed p us s).totals r = s.totals r := by
  obtain ⟨c, h⟩ := renewed_claims p us s; rw [h]; rfl
@[simp] theorem renewed_slot (p : Port) (us : List UnitId) (s : State) (i : SlotId) :
    (renewed p us s).slot i = s.slot i := by
  obtain ⟨c, h⟩ := renewed_claims p us s; rw [h]; rfl
@[simp] theorem renewed_link (p : Port) (us : List UnitId) (s : State) (q : Port) :
    (renewed p us s).link q = s.link q := by
  obtain ⟨c, h⟩ := renewed_claims p us s; rw [h]; rfl
@[simp] theorem renewed_liveItem (p : Port) (us : List UnitId) (s : State) (l : LivePoint) :
    (renewed p us s).liveItem l = s.liveItem l := by
  obtain ⟨c, h⟩ := renewed_claims p us s; rw [h]; rfl
@[simp] theorem renewed_limits (p : Port) (us : List UnitId) (s : State) (u : UnitId) :
    (renewed p us s).limits u = s.limits u := by
  obtain ⟨c, h⟩ := renewed_claims p us s; rw [h]; rfl
@[simp] theorem renewed_inProve (p : Port) (us : List UnitId) (s : State) (u : UnitId) :
    (renewed p us s).inProve u = s.inProve u := by
  obtain ⟨c, h⟩ := renewed_claims p us s; rw [h]; cases u <;> rfl
@[simp] theorem renewed_provingRun (p : Port) (us : List UnitId) (s : State) (r : Run) :
    (renewed p us s).provingRun r = s.provingRun r := by
  obtain ⟨c, h⟩ := renewed_claims p us s; rw [h]; rfl
@[simp] theorem renewed_proveRunning (p : Port) (us : List UnitId) (s : State) :
    (renewed p us s).proveRunning = s.proveRunning := by
  obtain ⟨c, h⟩ := renewed_claims p us s; rw [h]; rfl
@[simp] theorem renewed_provedRun (p : Port) (us : List UnitId) (s : State) :
    (renewed p us s).provedRun = s.provedRun := by
  obtain ⟨c, h⟩ := renewed_claims p us s; rw [h]; rfl
@[simp] theorem renewed_parcelOpen (p : Port) (us : List UnitId) (s : State) :
    (renewed p us s).parcelOpen = s.parcelOpen := by
  obtain ⟨c, h⟩ := renewed_claims p us s; rw [h]; rfl
@[simp] theorem renewed_currentSlot (p : Port) (us : List UnitId) (s : State) :
    (renewed p us s).currentSlot = s.currentSlot := by
  obtain ⟨c, h⟩ := renewed_claims p us s; rw [h]; rfl
@[simp] theorem renewed_offeredTarget (p : Port) (us : List UnitId) (s : State) :
    (renewed p us s).offeredTarget = s.offeredTarget := by
  obtain ⟨c, h⟩ := renewed_claims p us s; rw [h]; rfl

/-! ## Waiting lists and handover (R154, R157) -/

/-- Joining a list does nothing to a free unit, to the holder's own, or for a port already on it; else it appends the port. -/
theorem queuePort_eq (p : Port) (s : State) (u : UnitId) (h : s.holds p u = false) :
    queuePort p s u = s.setClaim u (if (s.claim u).holder = none ∨ p ∈ (s.claim u).waiting then s.claim u
      else { s.claim u with waiting := (s.claim u).waiting ++ [p] }) := by
  unfold queuePort
  cases e : (s.claim u).holder with
  | none => simp
  | some q =>
    have hq : q ≠ p := by
      intro hqp
      simp [State.holds, e, hqp] at h
    by_cases hm : p ∈ (s.claim u).waiting <;> simp [hq, hm, e]

/-- A handover gives the unit to the head of its list, with a started timer and CLAIM_GRANTED, or frees it. -/
theorem handover_cases (s : State) (u : UnitId) :
    ((s.claim u).waiting = [] ∧ handover s u = s.setClaim u { s.claim u with holder := none, timer := none })
      ∨ ∃ q rest, (s.claim u).waiting = q :: rest ∧ handover s u = (s.setClaim u { s.claim u with
          holder := some q, waiting := rest, timer := some (Config.seconds (s.claim u).holdTime) }).post q .claimGranted
            (unitBit u) := by
  unfold handover
  cases h : (s.claim u).waiting with
  | nil => exact .inl ⟨rfl, rfl⟩
  | cons q rest => exact .inr ⟨q, rest, rfl, rfl⟩

/-! ## serve and event -/

/-- A request of a supplied part: its block acts on the renewed state, and the response stands in the buffer. -/
theorem serve_supplied {p : Port} {kind : Nat} {us : List UnitId} {act : State → Reply} {s : State}
    (h : s.retention.supplied = true) :
    serve p kind us act s = .next (answered p (act (renewed p us s)).status kind (act (renewed p us s)).body
      (act (renewed p us s)).state) := by
  simp [serve, h, answered, renewed]

/-- Without supply no request is taken. -/
theorem serve_unsupplied {p : Port} {kind : Nat} {us : List UnitId} {act : State → Reply} {s : State}
    (h : s.retention.supplied = false) : serve p kind us act s = .next s := by
  simp [serve, h]

/-- A request always has a next state. -/
theorem serve_next (p : Port) (kind : Nat) (us : List UnitId) (act : State → Reply) (s : State) :
    ∃ t, serve p kind us act s = .next t := by
  unfold serve
  split <;> exact ⟨_, rfl⟩

theorem event_supplied {act : State → State} {s : State} (h : s.retention.supplied = true) :
    event act s = .next (act s) := by
  simp [event, h]

theorem event_unsupplied {act : State → State} {s : State} (h : s.retention.supplied = false) : event act s = .next s := by
  simp [event, h]

/-! ## Expiries (R63, R65, R134, R158, log entry 3) -/

theorem timerDue_iff (t : Option Nat) : timerDue t = true ↔ t = some 1 := by simp [timerDue]

/-- A timer that has just been started with whole seconds has no expiry to take. -/
@[simp] theorem timerDue_seconds (n : Nat) : timerDue (some (Config.seconds n)) = false := by
  simp [timerDue, Config.seconds, Config.ticksPerSecond]
@[simp] theorem timerDue_stopped : timerDue none = false := rfl

theorem loseClaim_cases (u : UnitId) (s : State) :
    (∃ h, (s.claim u).holder = some h ∧ (s.claim u).timer = some 1
        ∧ loseClaim u s = handover (s.post h .claimLost (unitBit u)) u)
      ∨ (((s.claim u).holder = none ∨ (s.claim u).timer ≠ some 1) ∧ loseClaim u s = s) := by
  unfold loseClaim
  split
  · exact .inr ⟨.inl ‹_›, rfl⟩
  · split
    · exact .inl ⟨_, ‹_›, (timerDue_iff _).1 ‹_›, rfl⟩
    · exact .inr ⟨.inr (by rwa [timerDue_iff] at *), rfl⟩

theorem staleSlot_cases (l : LivePoint) (p : Port) (s : State) :
    (∃ r, (s.liveItem l).slots.get p = some r ∧ r.timer = some 1
        ∧ staleSlot l p s = s.setLiveItem l (followSupply (s.limits (liveUnit l)).hold p (s.liveItem l)
            { s.liveItem l with slots := (s.liveItem l).slots.set p (some { r with timer := none }) }))
      ∨ ((∀ r, (s.liveItem l).slots.get p = some r → r.timer ≠ some 1) ∧ staleSlot l p s = s) := by
  unfold staleSlot
  dsimp only
  split
  · exact .inr ⟨by simp_all, rfl⟩
  · rename_i r hr
    split
    · exact .inl ⟨r, hr, (timerDue_iff _).1 ‹_›, rfl⟩
    · rename_i hn
      exact .inr ⟨fun r' h => by rw [hr] at h; cases h; rwa [timerDue_iff] at hn, rfl⟩

theorem lapseRecord_of_not_due {l : LivePoint} {s : State} (h : (s.liveItem l).record.holdTimer ≠ some 1) :
    lapseRecord l s = s := by
  simp [lapseRecord, timerDue, h]

/-! ## The Terminal Clock (R172) -/

@[simp] theorem setClock_terminalTime (time : Nat) (s : State) : (setClock time s).terminalTime = time % 4294967296 := rfl
@[simp] theorem setClock_clockWait (time : Nat) (s : State) : (setClock time s).clockWait = some 10000000 := rfl

/-- An advance adds one, or does not happen while the second that a SET TIME began still runs. -/
theorem advanceClock_cases (s : State) :
    (s.clockWait = none ∧ advanceClock s = { s with terminalTime := (s.terminalTime + 1) % 4294967296 })
      ∨ (s.clockWait ≠ none ∧ advanceClock s = s) := by
  cases h : s.clockWait <;> simp [advanceClock, h]

/-! ## Responses -/

@[simp] theorem answered_response (p : Port) (st : Status) (kind : Nat) (b : Body) (s : State) :
    ((answered p st kind b s).link p).response = some { status := st, kind := kind, body := b } := by
  simp [answered, State.respond]

theorem answered_links (p q : Port) (st : Status) (kind : Nat) (b : Body) (s : State) :
    ((answered p st kind b s).link q).notices = (s.link q).notices
      ∧ ((answered p st kind b s).link q).width = (s.link q).width
      ∧ ((answered p st kind b s).link q).mask = (s.link q).mask
      ∧ ((answered p st kind b s).link q).readout = (s.link q).readout := by
  by_cases h : q = p
  · subst h; simp [answered, State.respond]
  · simp [answered, State.respond, setLink_ne _ h]

end Sys2Proof.Machine
end

