-- ==== Sys2Proof/Laws/Touches.lean ====
section
/-! SUPPORT. One lemma for each shared operation: which fields of the state it can change. A proof that a command leaves a field
alone cites these and unfolds no operation. -/

namespace Sys2Proof.Machine

/-! ## Notices, claims -/

theorem post_touches (p : Port) (k : NoticeKind) (q : BitVec 8) (s : State) :
    ∃ x, s.post p k q = { s with links := x } := ⟨_, rfl⟩

theorem postAll_touches (k : NoticeKind) (q : BitVec 8) (s : State) : ∃ x, s.postAll k q = { s with links := x } := ⟨_, rfl⟩

theorem postTo_touches (ps : PortSet) (k : NoticeKind) (q : BitVec 8) (s : State) :
    ∃ x, s.postTo ps k q = { s with links := x } := by
  have one (p : Port) (t : State) : ∃ x, (if ps.get p then t.post p k q else t) = { t with links := x } := by
    split
    · exact ⟨_, rfl⟩
    · exact ⟨t.links, rfl⟩
  obtain ⟨x, hx⟩ := one .p1 s
  obtain ⟨y, hy⟩ := one .p2 { s with links := x }
  obtain ⟨z, hz⟩ := one .p3 { s with links := y }
  refine ⟨z, ?_⟩
  simp only [State.postTo, ports, List.foldl]
  rw [hx, hy]; exact hz

theorem queuePort_touches (p : Port) (u : UnitId) (s : State) : ∃ c, queuePort p s u = { s with claims := c } := by
  unfold queuePort
  split
  · exact ⟨s.claims, rfl⟩
  · split
    · exact ⟨s.claims, rfl⟩
    · exact ⟨_, rfl⟩

theorem handover_touches (u : UnitId) (s : State) : ∃ c x, handover s u = { s with claims := c, links := x } := by
  unfold handover
  split
  · exact ⟨_, s.links, rfl⟩
  · exact ⟨_, _, rfl⟩

theorem restartHold_touches (u : UnitId) (s : State) : ∃ c, restartHold s u = { s with claims := c } := by
  unfold restartHold
  split
  · exact ⟨s.claims, rfl⟩
  · exact ⟨_, rfl⟩

theorem stopHold_touches (u : UnitId) (s : State) : ∃ c, stopHold s u = { s with claims := c } := ⟨_, rfl⟩

/-! ## Selections and periods -/

theorem setLiveItem_touches (l : LivePoint) (x : LiveItem) (s : State) :
    ∃ v, s.setLiveItem l x = { s with live := v } := by
  cases l with
  | run r q => cases q <;> exact ⟨_, rfl⟩
  | proverTemp => exact ⟨_, rfl⟩
  | proverPress => exact ⟨_, rfl⟩

theorem select_touches (l : LivePoint) (g : GradeId) (s : State) :
    ∃ v x, (select l g s).2 = { s with live := v, links := x } := by
  simp only [select]
  split <;> (cases l with
    | run r q => cases q <;> exact ⟨_, _, rfl⟩
    | proverTemp => exact ⟨_, _, rfl⟩
    | proverPress => exact ⟨_, _, rfl⟩)

theorem gatherPeriod_touches (r : Run) (tMs : Nat) (restart : Bool) (s : State) :
    ∃ v x, (gatherPeriod r tMs restart s).2 = { s with live := v, links := x } := by
  simp only [gatherPeriod]
  obtain ⟨v1, x1, h1⟩ := select_touches (.run r .temp) (s.gradeOfDestination (s.calcOf r).target) s
  rw [h1]
  obtain ⟨v2, x2, h2⟩ := select_touches (.run r .press) (s.gradeOfDestination (s.calcOf r).target)
    { s with live := v1, links := x1 }
  rw [h2]
  obtain ⟨v3, x3, h3⟩ := select_touches (.run r .bsw) (s.gradeOfDestination (s.calcOf r).target)
    { s with live := v2, links := x2 }
  exact ⟨v3, x3, h3⟩

/-- A period close: the run's calculator and checker, the live records with their notices, and the two arrivals. -/
theorem closePeriod_touches (r : Run) (tMs : Nat) (restart : Bool) (s : State) :
    ∃ v x, let a := (gatherPeriod r tMs restart s).1
      closePeriod r tMs restart s = { s with
        live := v, links := x
        calcs := s.calcs.set r (a.calculatorAfter (s.calcOf r))
        checkers := s.checkers.set r (s.checker r).handOver
        toBank := s.toBank.set r (s.toBank.get r ++ [a.arrival])
        toEngine := s.toEngine.set r (some a.arrival) } := by
  obtain ⟨v, x, h⟩ := gatherPeriod_touches r tMs restart s
  refine ⟨v, x, ?_⟩
  simp only [closePeriod, h]
  rfl

theorem openPeriod_touches (r : Run) (s : State) : ∃ c, openPeriod r s = { s with calcs := c } := ⟨_, rfl⟩

theorem applyPendingK_touches (r : Run) (s : State) : ∃ c, applyPendingK r s = { s with calcs := c } := by
  unfold applyPendingK
  split
  · exact ⟨s.calcs, rfl⟩
  · exact ⟨_, rfl⟩

theorem takeAtBank_touches (r : Run) (s : State) : ∃ b t, takeAtBank r s = { s with bank := b, toBank := t } := by
  unfold takeAtBank
  split
  · exact ⟨s.bank, s.toBank, rfl⟩
  · exact ⟨_, _, rfl⟩

/-! ## The Parcel Engine: the ring, the runs' calculators, notices -/

theorem takeLooks_touches (n : Nat) (s : State) :
    ∃ r c x, takeLooks n s = { s with ring := r, calcs := c, links := x } := by
  induction n generalizing s with
  | zero => exact ⟨_, s.calcs, s.links, rfl⟩
  | succ n ih =>
    simp only [takeLooks]
    split
    · obtain ⟨r, c, x, h⟩ := ih { (s.setSlot s.ring.head .empty) with
        ring := { (s.setSlot s.ring.head .empty).ring with head := s.ring.head + 1 } }
      exact ⟨r, c, x, h⟩
    · split
      · exact ⟨_, _, s.links, rfl⟩
      · exact ⟨_, _, s.links, rfl⟩
      · exact ⟨_, s.calcs, _, rfl⟩
      · exact ⟨_, s.calcs, s.links, rfl⟩
    all_goals exact ⟨_, s.calcs, s.links, rfl⟩

theorem takeNext_touches (s : State) : ∃ r c x, takeNext s = { s with ring := r, calcs := c, links := x } :=
  takeLooks_touches 9 s

theorem writeTicket_touches (s : State) : ∃ r x, writeTicket s = { s with ring := r, links := x } := by
  unfold writeTicket
  split
  · exact ⟨s.ring, s.links, rfl⟩
  · rename_i c _
    simp only
    generalize hr : ({ (s.setSlot c.slot _).ring with standingGrade := _, closing := _ } : Ring) = rg
    obtain ⟨x, h⟩ := postTo_touches (((s.slot c.slot).form.bind formWitness).getD (.all false)) .ticketReady (slotBit c.slot)
      { s with ring := rg }
    exact ⟨rg, x, h⟩

theorem closePortion_touches (r : Run) (s : State) :
    ∃ g c x, closePortion r s = { s with ring := g, calcs := c, links := x } := by
  obtain ⟨c, hc⟩ := applyPendingK_touches r s
  simp only [closePortion, hc]
  split
  · exact ⟨s.ring, _, s.links, rfl⟩
  · split
    · rename_i cl _ _
      obtain ⟨g, x, h⟩ := writeTicket_touches
        { s with
          calcs := c.set r { c.get r with target := State.offeredTarget { s with calcs := c } }
          ring := { s.ring with closing := some { cl with owing := cl.owing.set r false } } }
      exact ⟨g, _, x, h⟩
    · exact ⟨_, _, s.links, rfl⟩

theorem writeIfNoneOwe_touches (s : State) : ∃ g x, writeIfNoneOwe s = { s with ring := g, links := x } := by
  unfold writeIfNoneOwe
  split
  · exact ⟨s.ring, s.links, rfl⟩
  · split
    · exact writeTicket_touches s
    · exact ⟨s.ring, s.links, rfl⟩

theorem startClosing_touches (i : SlotId) (reason : CloseReason) (q : Option Run) (s : State) :
    ∃ g c x, startClosing i reason q s = { s with ring := g, calcs := c, links := x } := by
  have finish (t : State) (h : ∃ g c x, t = { s with ring := g, calcs := c, links := x }) :
      ∃ g c x, takeNext (writeIfNoneOwe t) = { s with ring := g, calcs := c, links := x } := by
    obtain ⟨g1, c1, x1, rfl⟩ := h
    obtain ⟨g2, x2, h2⟩ := writeIfNoneOwe_touches { s with ring := g1, calcs := c1, links := x1 }
    rw [h2]
    obtain ⟨g3, c3, x3, h3⟩ := takeNext_touches { s with ring := g2, calcs := c1, links := x2 }
    exact ⟨g3, c3, x3, h3⟩
  cases q with
  | none => exact finish _ ⟨_, s.calcs, s.links, rfl⟩
  | some r =>
    obtain ⟨g, c, x, h⟩ := closePortion_touches r (beginClosing i reason s)
    exact finish _ ⟨g, c, x, h⟩

theorem evaluatePermissive_touches (i : SlotId) (s : State) :
    ∃ g x, evaluatePermissive i s = { s with ring := g, links := x } := by
  unfold evaluatePermissive
  split
  · simp only
    split
    · split
      · exact ⟨_, _, rfl⟩
      · split
        · exact ⟨_, _, rfl⟩
        · exact ⟨s.ring, s.links, rfl⟩
    · exact ⟨s.ring, s.links, rfl⟩
  · exact ⟨s.ring, s.links, rfl⟩

theorem assignArrival_touches (a : Arrival) (s : State) :
    ∃ g x, assignArrival a s = { s with ring := g, links := x } := by
  unfold assignArrival
  split
  · exact ⟨s.ring, s.links, rfl⟩
  · rename_i i _
    obtain ⟨g, x, h⟩ := evaluatePermissive_touches i (addToPortion i a s)
    exact ⟨g, x, h⟩

theorem applyWatch_touches (a : Arrival) (s : State) : ∃ g x, applyWatch a s = { s with ring := g, links := x } := by
  unfold applyWatch
  split
  · exact ⟨_, s.links, rfl⟩
  · split
    · exact ⟨s.ring, s.links, rfl⟩
    · simp only
      split
      · exact ⟨_, _, rfl⟩
      · exact ⟨_, s.links, rfl⟩

theorem advanceClosing_touches (a : Arrival) (s : State) :
    ∃ g c x, advanceClosing a s = { s with ring := g, calcs := c, links := x } := by
  unfold advanceClosing
  split
  · exact closePortion_touches ..
  · split
    · exact ⟨s.ring, s.calcs, s.links, rfl⟩
    · split
      · exact startClosing_touches ..
      · exact ⟨s.ring, s.calcs, s.links, rfl⟩

theorem engineArrival_touches (a : Arrival) (s : State) :
    ∃ g c x, engineArrival a s = { s with ring := g, calcs := c, links := x } := by
  obtain ⟨g1, x1, h1⟩ := assignArrival_touches a s
  simp only [engineArrival, h1]
  obtain ⟨g2, x2, h2⟩ := applyWatch_touches a { s with ring := g1, links := x1 }
  rw [h2]
  obtain ⟨g, c, x, h⟩ := advanceClosing_touches a { s with ring := g2, links := x2 }
  exact ⟨g, c, x, h⟩

/-- With none waiting nothing arrives at the engine. -/
@[simp] theorem takeAtEngine_none {r : Run} {s : State} (h : s.toEngine.get r = none) : takeAtEngine r s = s := by
  simp [takeAtEngine, h]

/-- Taking an arrival at the engine: the ring, the calculators, notices, and nothing waits at the engine for that run. -/
theorem takeAtEngine_touches (r : Run) (s : State) :
    ∃ g c x, takeAtEngine r s = { s with ring := g, calcs := c, links := x, toEngine := s.toEngine.set r none } := by
  unfold takeAtEngine
  split
  · rename_i h
    refine ⟨s.ring, s.calcs, s.links, ?_⟩
    rw [← h]; simp
  · rename_i a _
    obtain ⟨g, c, x, h⟩ := engineArrival_touches a { s with toEngine := s.toEngine.set r none }
    exact ⟨g, c, x, h⟩

/-- Taking a run's arrivals: those of `takeAtEngine`, and the bank with nothing waiting for that run. -/
theorem takeArrivals_touches (r : Run) (s : State) :
    ∃ g c x b, takeArrivals r s = { s with
      ring := g, calcs := c, links := x, bank := b, toBank := s.toBank.set r [], toEngine := s.toEngine.set r none } := by
  obtain ⟨g, c, x, h⟩ := takeAtEngine_touches r s
  simp only [takeArrivals, h]
  exact ⟨g, c, x, _, rfl⟩

theorem settleArrivals_touches (s : State) :
    ∃ g c x b, settleArrivals s = { s with
      ring := g, calcs := c, links := x, bank := b, toBank := .all [], toEngine := .all none } := by
  simp only [settleArrivals, runs, List.foldl]
  obtain ⟨g1, c1, x1, b1, h1⟩ := takeArrivals_touches .r1 s
  rw [h1]
  obtain ⟨g2, c2, x2, b2, h2⟩ := takeArrivals_touches .r2 _
  rw [h2]
  obtain ⟨g3, c3, x3, b3, h3⟩ := takeArrivals_touches .r3 _
  rw [h3]
  obtain ⟨g4, c4, x4, b4, h4⟩ := takeArrivals_touches .r4 _
  rw [h4]
  exact ⟨g4, c4, x4, b4, rfl⟩

/-! ## The Prove Engine: its own state, claims, notices; a pass end selects live values too -/

theorem restartProveHolds_touches (s : State) : ∃ c, restartProveHolds s = { s with claims := c } := by
  unfold restartProveHolds
  split
  · exact restartHold_touches ..
  · rename_i r _
    obtain ⟨c, h⟩ := restartHold_touches (.run r) s
    rw [h]
    obtain ⟨d, h⟩ := restartHold_touches .prover { s with claims := c }
    exact ⟨d, h⟩

theorem endProve_touches (st : ProveState) (reason : Option ProveReason) (s : State) :
    ∃ p c x, endProve st reason s = { s with prove := p, claims := c, links := x } := by
  have finish (t : State) (h : ∃ p, t = { s with prove := p }) :
      ∃ p c x, (restartProveHolds t).postAll .proveEnd 0 = { s with prove := p, claims := c, links := x } := by
    obtain ⟨p, rfl⟩ := h
    obtain ⟨c, h⟩ := restartProveHolds_touches { s with prove := p }
    rw [h]
    exact ⟨p, c, _, rfl⟩
  simp only [endProve]
  split
  · exact finish _ ⟨_, rfl⟩
  · exact finish _ ⟨_, rfl⟩

/-- A state that differs from `s` in the prove, the claims and the notices alone. -/
def ProveChange (s t : State) : Prop := ∃ p c x, t = { s with prove := p, claims := c, links := x }

/-- A state that differs from `s` in the prove, the claims, the notices and the live values alone. -/
def ProveLiveChange (s t : State) : Prop := ∃ p c x v, t = { s with prove := p, claims := c, links := x, live := v }

theorem ProveChange.trans {s t u : State} (h : ProveChange s t) (k : ProveChange t u) : ProveChange s u := by
  obtain ⟨_, _, _, rfl⟩ := h
  obtain ⟨p, c, x, rfl⟩ := k
  exact ⟨p, c, x, rfl⟩

theorem ProveLiveChange.trans {s t u : State} (h : ProveLiveChange s t) (k : ProveLiveChange t u) : ProveLiveChange s u := by
  obtain ⟨_, _, _, _, rfl⟩ := h
  obtain ⟨p, c, x, v, rfl⟩ := k
  exact ⟨p, c, x, v, rfl⟩

theorem ProveChange.live {s t : State} (h : ProveChange s t) : ProveLiveChange s t := by
  obtain ⟨p, c, x, rfl⟩ := h
  exact ⟨p, c, x, s.live, rfl⟩

theorem ProveChange.same (s : State) : ProveChange s s := ⟨s.prove, s.claims, s.links, rfl⟩

theorem ProveChange.ofProve (s : State) (p : Prove) : ProveChange s { s with prove := p } := ⟨p, s.claims, s.links, rfl⟩

theorem appendPass_touches (x : PassRecord) (s : State) : ProveChange s (appendPass x s) := .ofProve ..

theorem afterAbandon_touches (s : State) : ProveChange s (afterAbandon s) := by
  simp only [afterAbandon]
  split
  · exact .ofProve ..
  · exact (ProveChange.ofProve s _).trans (endProve_touches ..)

theorem abandonPass_touches (reason : AbandonReason) (s : State) : ProveChange s (abandonPass reason s) :=
  (appendPass_touches _ s).trans (afterAbandon_touches _)

theorem strayD2_touches (s : State) : ProveChange s (strayD2 s) := by
  simp only [strayD2]
  split
  · exact (ProveChange.ofProve s _).trans (endProve_touches ..)
  · exact .ofProve ..

theorem strayD1_touches (s : State) : ProveChange s (strayD1 s) := by
  have h : ProveChange s (resetConsecutive (appendPass (bareRecord s (some .detector)) (countDetectorError s))) := .ofProve ..
  simp only [strayD1]
  split
  · exact h.trans (endProve_touches ..)
  · split
    · exact h.trans (.ofProve ..)
    · exact h.trans (endProve_touches ..)

theorem detectorEvent_touches (d : Detector) (s : State) : ProveChange s (detectorEvent d s) := by
  unfold detectorEvent
  split
  · exact .same s
  · exact .ofProve ..
  · exact strayD2_touches s
  · exact strayD1_touches s
  · exact .ofProve ..
  · exact strayD1_touches s
  · exact strayD2_touches s

theorem afterValid_touches (s : State) : ProveChange s (afterValid s) := by
  simp only [afterValid]
  split
  · exact .ofProve ..
  · split
    · exact (ProveChange.ofProve s _).trans (endProve_touches ..)
    · split
      · exact .ofProve ..
      · exact (ProveChange.ofProve s _).trans (endProve_touches ..)

theorem gatherPass_touches (r : Run) (n tP : Nat) (s : State) :
    ∃ v x, (gatherPass r n tP s).2 = { s with live := v, links := x } := by
  simp only [gatherPass]
  generalize s.gradeOfDestination (s.calcOf r).target = g
  obtain ⟨v1, x1, h1⟩ := select_touches (.run r .temp) g s
  rw [h1]
  obtain ⟨v2, x2, h2⟩ := select_touches (.run r .press) g { s with live := v1, links := x1 }
  rw [h2]
  obtain ⟨v3, x3, h3⟩ := select_touches .proverTemp g { s with live := v2, links := x2 }
  rw [h3]
  exact select_touches .proverPress g { s with live := v3, links := x3 }

/-- The end of a pass: the prove, the claims, the live records and notices. -/
theorem passEnd_touches (u : ProveSetup) (n tP : Nat) (s : State) : ProveLiveChange s (passEnd u n tP s) := by
  obtain ⟨v, x, h⟩ := gatherPass_touches u.run n tP s
  have hg : ProveLiveChange s (gatherPass u.run n tP s).2 := ⟨s.prove, s.claims, x, v, h⟩
  simp only [passEnd]
  split
  · exact hg.trans ((appendPass_touches ..).trans (afterAbandon_touches _)).live
  · split
    · exact hg.trans ((appendPass_touches ..).trans (afterValid_touches _)).live
    · exact hg.trans ((appendPass_touches ..).trans (afterAbandon_touches _)).live

theorem provePulse_touches (s : State) : ProveLiveChange s (provePulse s) := by
  unfold provePulse
  split
  · exact (ProveChange.ofProve ..).live
  · split
    · exact passEnd_touches ..
    · exact passEnd_touches ..
  · exact (ProveChange.same s).live

theorem hand_touches (r : Run) (h : Handed) (s : State) : ProveLiveChange s (hand r h s) := by
  unfold hand proveItem
  split
  · cases h with
    | pulse => exact provePulse_touches s
    | missing =>
      simp only
      split
      · exact (abandonPass_touches ..).live
      · exact (ProveChange.same s).live
    | reverse =>
      simp only
      split
      · exact (abandonPass_touches ..).live
      · exact (ProveChange.same s).live
    | latchSet => exact ProveChange.live (endProve_touches ..)
  · exact (ProveChange.same s).live

theorem abortIf_touches (b : Bool) (reason : ProveReason) (s : State) : ProveChange s (abortIf b reason s) := by
  unfold abortIf
  split
  · exact endProve_touches ..
  · exact .same s

/-! ## The Pulse Checker: its run's checker, and what it hands on -/

/-- What an edge counts touches the run's checker, the prove, the claims, the live records and notices. -/
theorem countPulse_touches (r : Run) (s : State) :
    ∃ t, ProveLiveChange s t ∧ countPulse r s = { t with checkers := s.checkers.set r (s.checker r).pulse } := by
  have h := hand_touches r .pulse (s.setChecker r (s.checker r).pulse)
  obtain ⟨p, c, x, v, h⟩ := h
  exact ⟨{ s with prove := p, claims := c, links := x, live := v }, ⟨p, c, x, v, rfl⟩, h⟩

theorem countMissing_touches (r : Run) (ch : Channel) (s : State) :
    ∃ t k, ProveLiveChange s t ∧ countMissing r ch s = { t with checkers := s.checkers.set r k } := by
  simp only [countMissing]
  split
  · obtain ⟨p, c, x, v, h⟩ := (hand_touches r .missing
      ((s.setChecker r ((s.checker r).missing ch).latch).postAll .runFault (unitBit (.run r)))).trans (hand_touches r .latchSet _)
    exact ⟨{ s with prove := p, claims := c, links := x, live := v }, _, ⟨p, c, x, v, rfl⟩, h⟩
  · obtain ⟨p, c, x, v, h⟩ := hand_touches r .missing (s.setChecker r ((s.checker r).missing ch))
    exact ⟨{ s with prove := p, claims := c, links := x, live := v }, _, ⟨p, c, x, v, rfl⟩, h⟩

theorem countReverse_touches (r : Run) (s : State) :
    ∃ t k, ProveLiveChange s t ∧ countReverse r s = { t with checkers := s.checkers.set r k } := by
  simp only [countReverse]
  split
  · obtain ⟨p, c, x, v, h⟩ := hand_touches r .reverse ((s.setChecker r { s.checker r with
      reverse := countUp (s.checker r).reverse Config.maxChannel }).postAll .reverseFlow (unitBit (.run r)))
    exact ⟨{ s with prove := p, claims := c, links := x, live := v }, _, ⟨p, c, x, v, rfl⟩, h⟩
  · obtain ⟨p, c, x, v, h⟩ := hand_touches r .reverse (s.setChecker r { s.checker r with
      reverse := countUp (s.checker r).reverse Config.maxChannel })
    exact ⟨{ s with prove := p, claims := c, links := x, live := v }, _, ⟨p, c, x, v, rfl⟩, h⟩

/-! ## Station clear -/

theorem clearClaims_touches (p : Port) (s : State) : ∃ c x, clearClaims p s = { s with claims := c, links := x } := by
  have one (u : UnitId) (t : State) :
      ∃ c x, (if t.holds p u then handover t u else t) = { t with claims := c, links := x } := by
    split
    · exact handover_touches u t
    · exact ⟨t.claims, t.links, rfl⟩
  simp only [clearClaims, units, List.foldl]
  obtain ⟨c1, x1, h1⟩ := one (.run .r1) s
  rw [h1]
  obtain ⟨c2, x2, h2⟩ := one (.run .r2) _
  rw [h2]
  obtain ⟨c3, x3, h3⟩ := one (.run .r3) _
  rw [h3]
  obtain ⟨c4, x4, h4⟩ := one (.run .r4) _
  rw [h4]
  obtain ⟨c5, x5, h5⟩ := one .prover _
  rw [h5]
  exact ⟨_, x5, rfl⟩

theorem voidSlots_touches (p : Port) (s : State) :
    ∃ g c x, voidSlots p s = { s with ring := g, calcs := c, links := x } := by
  simp only [voidSlots]
  split
  · obtain ⟨g, c, x, h⟩ := takeNext_touches { s with
      ring := { s.ring with slots := s.ring.slots.map (fun x => if awaits p x then { x with state := .void } else x) } }
    exact ⟨g, c, x, h⟩
  · exact ⟨_, s.calcs, s.links, rfl⟩

/-- STATION CLEAR touches claims, the prove, the ring, the runs' targets and the links. -/
theorem clearStation_touches (p : Port) (s : State) :
    ∃ g c k x q, clearStation p s = { s with ring := g, calcs := c, claims := k, links := x, prove := q } := by
  obtain ⟨k1, x1, h1⟩ := clearClaims_touches p s
  simp only [clearStation, h1]
  obtain ⟨q, k2, x2, h2⟩ := abortIf_touches (s.provingPort p) .claim { s with claims := k1, links := x1 }
  rw [h2]
  obtain ⟨g, c, x3, h3⟩ := voidSlots_touches p { s with claims := k2, links := x2, prove := q }
  rw [h3]
  exact ⟨g, c, k2, _, q, rfl⟩

end Sys2Proof.Machine
end

