-- ==== Sys2Proof/Tests/Slice0.lean ====
section
/-! SUPPORT. Tests on fixed values. `test_…` compares one command with the manual's worked figures or with a value worked by hand from a
rule; the frames are written out byte by byte, their CRC computed apart from the model. `witness_…` shows, for each statement of
Certificates/Slice0 with hypotheses, states and operands that meet them, at the boundaries of their ranges. -/

namespace Sys2Proof.Tests

open Sys2Proof Sys2Proof.Machine

/-! ## Small states -/

/-- The next state of an outcome. -/
def after (o : Host.Outcome State Fault Refusal) : State :=
  match o with
  | .next t => t
  | .fault _ => .reset
  | .refused _ => .reset

/-- The status in a port's buffer after a command. -/
def statusAt (p : Port) (o : Host.Outcome State Fault Refusal) : Option Status :=
  ((after o).link p).response.map (·.status)

/-- A port holds a unit, its hold timer running. -/
def held (p : Port) (u : UnitId) (s : State) : State :=
  s.setClaim u { s.claim u with holder := some p, timer := some 100000000 }

/-- The part without supply. -/
def unsupplied : State := { State.reset with retention := { State.reset.retention with supplied := false } }

/-- The curve of 2.10. -/
def curve1 : List CurvePoint := [⟨30000, 1002150, true⟩, ⟨45000, 1001400, true⟩, ⟨60000, 1000900, true⟩]

/-- The curve of 3.7, with its disabled point. -/
def curve37 : List CurvePoint :=
  [⟨30000, 1002150, true⟩, ⟨37500, 1001950, false⟩, ⟨45000, 1001400, true⟩, ⟨60000, 1000900, true⟩]

/-- Grade 2 of 2.10. -/
def grade2 : Grade := { f := 750, bsw := 0, table := [⟨1500, 1000000⟩, ⟨3000, 987450⟩, ⟨4500, 974980⟩] }

/-- A run in service with Kmilli 152,400 and the curve of 2.10. -/
def online (r : Run) (s : State) : State :=
  (s.setCalc r { s.calcOf r with runState := .online, kmilli := 152400 }).setCurve r curve1

/-- A report in a slot that is FRESH. -/
def reported (v : Int) (h : Health) : Option Report :=
  some { value := v, health := h, clamped := false, reportTime := 0, timer := some 50000000 }

/-- Ports 1 and 2 report the same value, and the record has selected it AGREED. -/
def agreedOn (v : Int) : LiveItem where
  record := { lastValue := some v, lastStatus := some .agreed, supply := .supplied, holdTimer := none, liveFailed := false }
  slots := { p1 := reported v .good, p2 := reported v .good, p3 := none }

/-- Run 1's live values of 2.10. -/
def live1 (s : State) : State :=
  ((s.setLiveItem (.run .r1 .temp) (agreedOn 3287)).setLiveItem (.run .r1 .press) (agreedOn 1200)).setLiveItem (.run .r1 .bsw)
    (agreedOn 2500)

/-- A NORMAL parcel of grade 2 with the margins of 6.11 and witnesses ports 1 and 3. -/
def parcel : ControlForm := .normal 77 1 2400000 60000 2000 4 ⟨true, false, true⟩ .manual

/-- A slot with a form. -/
def slotWith (st : SlotState) (f : ControlForm) : RingSlot :=
  { RingSlot.empty with state := st, reserver := some .p1, form := some f }

/-- Run 1 ONLINE and held by port 1, no parcel. -/
def idling : State := held .p1 (.run .r1) (live1 (online .r1 .reset))

/-- The ring with slot 3 CURRENT. -/
def ringOn (current : CurrentState) (level : Permissive) (f : ControlForm) : Ring :=
  { Ring.cold with slots := (Eight.all .empty).set 3 (slotWith .current f), current := current, level := level, head := 4, tail := 4 }

/-- Run 1 ONLINE and held by port 1, delivering into slot 3, whose parcel is OPEN. -/
def loading : State :=
  (({ idling with ring := ringOn .opened .full parcel }).setGrade 1 grade2).setCalc .r1 { idling.calcOf .r1 with target := some 3 }

def passOf (k : Nat) : PassRecord :=
  { number := k, abandoned := none, endTime := 0, tD := some 20052140, inputs := none, figures := none }

/-- A prove RUNNING on run 1 for port 1 with n = 2 and 3 attempts at most, the conditions of 8.10 otherwise. -/
def proving (e : EngineState) (w : Option WorkingPass) (attempts errors : Nat) (passes : List PassRecord) : State :=
  let hold : Claim := { holder := some .p1, waiting := [], holdTime := 10, timer := none }
  let s := (loading.setClaim (.run .r1) hold).setClaim .prover hold
  { s with
    prove := {
      config := { Prove.cold.config with bpv := 25000000 }
      engine := e
      timebase := 500030000
      passTimer := w.map (fun _ => 600000000)
      working := w
      result := { ProveResult.cold with
        state := .running, attempts := attempts, detectorErrors := errors, passes := passes
        setup := some { run := .r1, port := .p1, n := 2, maxAttempts := 3, tolerance := 500, csp := 999880, startTime := 0 } } }
    live := { s.live with prover := { s.live.prover with temp := agreedOn 3250, press := agreedOn 900 } } }

/-- A pass of which D1, and perhaps the first pulse and D2, have come. -/
def pass (first d2 : Option Nat) (n : Nat) : Option WorkingPass := some { d1 := 500000000, first := first, d2 := d2, n := n }

/-- A COMPLETE result of run 1, whose curve is `c`; port 1 holds the run. -/
def completed (mf q band : Nat) (c : List CurvePoint) : State :=
  let s := idling.setCurve .r1 c
  { s with
    prove := { s.prove with
      config := { s.prove.config with band := band }
      result := { (proving .idle none 2 0 [passOf 1, passOf 2]).prove.result with state := .complete, mf := some mf, q := some q } } }

/-- An arrival of run 1 as period 1 of 2.10 delivers it. -/
def arrivalTo (d : Option SlotId) (pulses nsv : Nat) : Arrival where
  run := .r1
  destination := d
  ivInc := 623
  gsvInc := 615
  nsvInc := nsv
  revInc := 0
  pulses := pulses
  reversePulses := 0
  endTime := 40000
  tMs := 500
  q := 44881
  kmilli := 152400
  temp := 3287
  p := 1200
  bsw := 2500
  mf := 1001406
  ccf := 987338
  tempWeighted := 2047801
  pWeighted := 747600
  bswWeighted := 1557500
  mfWeighted := 623875938
  ccfWeighted := 615111574
  flags := {}

/-- An arrival of run 1 waits at the engine and at the bank. -/
def arriving (a : Arrival) (s : State) : State :=
  { s with toEngine := s.toEngine.set .r1 (some a), toBank := s.toBank.set .r1 [a] }

/-- Slot 3 TOPPED with run 1 quiet for its four periods, and perhaps run 2 too. -/
def quietAt (two : Bool) : State :=
  let s := (arriving (arrivalTo (some 3) 0 0) loading).setCalc .r1 { loading.calcOf .r1 with quiet := 4 }
  let t := if two then s.setCalc .r2 { s.calcOf .r2 with runState := .online, target := some 3, quiet := 4 } else s
  { t with ring := { s.ring with current := .topped, level := .stop } }

/-! ## Well-formed commands: each check refuses a term -/

theorem test_wf_one_byte : (Instr.setService .p1 256 1).wf = false ∧ (Instr.setService .p1 255 1).wf = true := by decide
theorem test_wf_two_bytes : (Instr.ackNotices .p1 0 65536).wf = false ∧ (Instr.ackNotices .p1 0 65535).wf = true := by decide
theorem test_wf_four_bytes : (Instr.setPeriod .p1 1 4294967296).wf = false ∧ (Instr.setPeriod .p1 1 4294967295).wf = true := by
  decide
theorem test_wf_eight_bytes : (Instr.setProver .p1 5 18446744073709551616 60 3 2500 50000).wf = false
    ∧ (Instr.setProver .p1 5 18446744073709551615 60 3 2500 50000).wf = true := by decide
theorem test_wf_signed : (Instr.reportLive .p1 1 0 2147483648 0).wf = false ∧ (Instr.reportLive .p1 1 0 (-2147483649) 0).wf = false
    ∧ (Instr.reportLive .p1 1 0 (-2147483648) 0).wf = true := by decide
theorem test_wf_form : (Instr.writeSlot .p1 0 1 ⟨0, 1, 256, 1, 0, 0, 1, 1, 0⟩).wf = false
    ∧ (Instr.writeSlot .p1 0 1 ⟨0, 1, 255, 1, 0, 0, 1, 1, 0⟩).wf = true := by decide
theorem test_wf_point : (Instr.loadGrade .p1 0 2 0 0 [⟨0, 4294967296⟩]).wf = false := by decide
theorem test_wf_points_fit : (Instr.loadGrade .p1 0 2 0 0 (List.replicate 63 ⟨0, 0⟩)).wf = false
    ∧ (Instr.loadGrade .p1 0 2 0 0 (List.replicate 62 ⟨0, 0⟩)).wf = true := by decide
theorem test_wf_prover_tolerance : (Instr.setLiveLimits .p1 5 5 120 50 30 1 2).wf = false
    ∧ (Instr.setLiveLimits .p1 1 5 120 50 30 1 2).wf = true := by decide

/-! ## Frames: R164's check value of the CRC, and a frame of every family written out -/

theorem test_crc_check_value : crc [49, 50, 51, 52, 53, 54, 55, 56, 57] = 10673 := by decide +kernel
theorem test_frame_setService : decodeFrame .p1
    [1, 2, 0, 0, 1, 1, 44, 35]
    = .request (.setService .p1 2 1) := by decide +kernel
theorem test_frame_setKFactor : decodeFrame .p1
    [3, 1, 0, 0, 4, 0, 2, 83, 80, 148, 154]
    = .request (.setKFactor .p1 1 152400) := by decide +kernel
theorem test_frame_addPoint : decodeFrame .p1
    [7, 1, 0, 0, 9, 0, 0, 175, 200, 0, 15, 71, 184, 1, 142, 195]
    = .request (.addPoint .p1 1 45000 1001400 1) := by decide +kernel
theorem test_frame_loadGrade : decodeFrame .p1
    [11, 0, 0, 0, 26, 2, 0, 0, 2, 238, 0, 0, 0, 0, 2, 255, 255, 254, 12, 0, 15, 66, 64, 0, 0, 11, 184, 0, 15, 17, 58, 143, 171]
    = .request (.loadGrade .p1 0 2 750 0 [⟨-500, 1000000⟩, ⟨3000, 987450⟩]) := by decide +kernel
theorem test_frame_reportLive : decodeFrame .p1
    [13, 5, 0, 0, 6, 1, 255, 255, 255, 216, 0, 155, 155]
    = .request (.reportLive .p1 5 1 (-40) 0) := by decide +kernel
theorem test_frame_setLiveLimits_run : decodeFrame .p1
    [14, 1, 0, 0, 21, 0, 0, 0, 5, 0, 0, 0, 120, 0, 0, 0, 50, 0, 0, 0, 30, 0, 0, 3, 232, 2, 122, 232]
    = .request (.setLiveLimits .p1 1 5 120 50 30 1000 2) := by decide +kernel
theorem test_frame_setLiveLimits_prover : decodeFrame .p1
    [14, 5, 0, 0, 17, 0, 0, 0, 5, 0, 0, 0, 120, 0, 0, 0, 50, 0, 0, 0, 30, 2, 186, 153]
    = .request (.setLiveLimits .p1 5 5 120 50 30 0 2) := by decide +kernel
theorem test_frame_readTotals : decodeFrame .p1
    [16, 1, 1, 0, 1, 1, 235, 97]
    = .request (.readTotals .p1 1 true 1) := by decide +kernel
theorem test_frame_writeSlot : decodeFrame .p1
    [18, 0, 0, 0, 37, 3, 0, 0, 0, 0, 77, 2, 0, 0, 0, 0, 0, 36, 159, 0, 0, 0, 0, 0, 0, 0, 234, 96, 0, 0, 0, 0, 0, 0, 7, 208, 0, 0, 0, 4, 5, 1, 131, 160]
    = .request (.writeSlot .p1 0 3 ⟨0, 77, 2, 2400000, 60000, 2000, 4, 5, 1⟩) := by decide +kernel
theorem test_frame_setProver : decodeFrame .p1
    [26, 5, 0, 0, 24, 0, 0, 0, 0, 1, 125, 120, 64, 0, 0, 0, 60, 0, 0, 0, 3, 0, 0, 9, 196, 0, 0, 195, 80, 150, 58]
    = .request (.setProver .p1 5 25000000 60 3 2500 50000) := by decide +kernel
theorem test_frame_startProve : decodeFrame .p1
    [27, 1, 0, 0, 16, 0, 0, 0, 5, 0, 0, 0, 8, 0, 0, 1, 244, 0, 15, 65, 200, 227, 162]
    = .request (.startProve .p1 1 5 8 500 999880) := by decide +kernel
theorem test_frame_acceptProve : decodeFrame .p1
    [30, 1, 2, 0, 0, 194, 42]
    = .request (.acceptProve .p1 1 true) := by decide +kernel
theorem test_frame_claim : decodeFrame .p1
    [32, 3, 0, 0, 4, 0, 0, 0, 20, 172, 72]
    = .request (.claim .p1 3 20) := by decide +kernel
theorem test_frame_setPortMode : decodeFrame .p1
    [34, 0, 0, 0, 3, 0, 0, 44, 187, 194]
    = .request (.setPortMode .p1 0 0 44) := by decide +kernel
/-- No row of the opcode table has bits. -/
theorem test_table_word : decodeTableWord 8 0 = none := rfl

/-! ## Chapter 1 -/

/-- The states of 1.9 and 1.10: W = 100, E = 2, the expectation and the window counts given. -/
def windowed (e : Expectation) (pulses errors : Nat) : State :=
  idling.setChecker .r1 { idling.checker .r1 with
    expectation := e, windowLength := 100, errorLimit := 2, windowPulses := pulses, windowErrors := errors }

/-- 1.9, step 4: a B edge in place of a lost A pulse. -/
theorem test_channel_held_high : let c := (after (exec (.risingEdge .r1 .b true 0) (windowed .aNext 41 0))).checker .r1
    (c.accepted, c.missingA, c.windowPulses, c.windowErrors, c.expectation, c.security) = (1, 1, 42, 1, .aNext, .alert) := by
  decide

/-- 1.9, step 5: the error that comes to E sets the latch and the mark. -/
theorem test_latch_at_limit : let t := after (exec (.risingEdge .r1 .b true 0) (windowed .aNext 42 1))
    ((t.checker .r1).security, (t.checker .r1).failureMark, (t.link .p3).notices.runFault) = (.failed, true, ⟨true, 1⟩) := by
  decide

/-- 1.10, step 3: the substituted pulse completes the window, after the error was tested. -/
theorem test_window_completed : let c := (after (exec (.risingEdge .r1 .a false 0) (windowed .bNext 99 0))).checker .r1
    (c.missingB, c.windowPulses, c.windowErrors, c.failed, c.expectation) = (1, 0, 0, false, .bNext) := by decide

/-- An A edge that finds B high is a reverse pulse (R4). -/
theorem test_reverse_pulse : let t := after (exec (.risingEdge .r1 .a true 0) (windowed .aNext 41 0))
    ((t.checker .r1).reverse, (t.checker .r1).windowPulses, (t.checker .r1).expectation, (t.link .p2).notices.reverseFlow)
      = (1, 41, .either, ⟨true, 1⟩) := by decide

/-! ## Chapter 2: the periods of 2.10 -/

/-- Run 1 of 2.10 in the last millisecond of a period with these pulses and residues. -/
def closing210 (p rev rI rG rN : Nat) : State :=
  (loading.setChecker .r1 { loading.checker .r1 with accepted := p, reverse := rev }).setCalc .r1
    { loading.calcOf .r1 with elapsed := 499, rI := rI, rG := rG, rN := rN }

/-- The figures of the last-period record of run 1. -/
def figuresOf (s : State) : Option (List Nat) :=
  (s.calcOf .r1).lastPeriod.map (fun x => [x.ivInc, x.q, x.mf, x.ctl, x.cpl, x.ccf, x.csw, x.gsvInc, x.nsvInc, x.revInc])

theorem test_period_1 : figuresOf (after (exec (.periodExpiry .r1) (closing210 95 0 0 0 0)))
    = some [623, 44881, 1001406, 985064, 1000901, 987338, 997500, 615, 613, 0] := by decide

/-- R21: two milliseconds before the end of the 500 ms no period expires, and the timer advances; in the last it expires. -/
theorem test_period_expires_at_its_length : [498, 499].map (fun ms =>
      let s := loading.setCalc .r1 { loading.calcOf .r1 with elapsed := ms }
      [after (exec (.periodExpiry .r1) s), after (exec (.periodTimerAdvance .r1) s)].map (fun t =>
        ((t.toEngine.get .r1).map (·.tMs), (t.calcOf .r1).elapsed)))
    = [[(none, 498), (none, 499)], [(some 500, 0), (none, 499)]] := by decide

/-- Period 2, from the residues period 1 leaves. -/
theorem test_period_2 : let t := after (exec (.periodExpiry .r1) (closing210 96 2 54800 111574 462500))
    figuresOf t = some [630, 45354, 1001388, 985064, 1000901, 987320, 997500, 622, 620, 13]
      ∧ ((t.calcOf .r1).rI, (t.calcOf .r1).rR, (t.calcOf .r1).rG, (t.calcOf .r1).rN) = (42800, 18800, 123174, 907500) := by
  decide

/-- The weighted products of period 1. -/
theorem test_weighted_products :
    (((after (exec (.periodExpiry .r1) (closing210 95 0 0 0 0))).toEngine.get .r1).map
      (fun a => ([a.tempWeighted, a.pWeighted, a.bswWeighted, a.mfWeighted, a.ccfWeighted], a.destination)))
      = some ([2047801, 747600, 1557500, 623875938, 615111574], some 3) := by decide

/-- The K-factor set during the portion is pending, and rI goes from 12,000 to 12,023 when it is applied (2.10). -/
theorem test_pending_k : statusAt .p1 (exec (.setKFactor .p1 1 152700) loading) = some .okPending
    ∧ ((closing210 0 0 12000 0 0).calcOf .r1 |>.applyK 152700).rI = 12023 := by decide

/-! ## Chapter 3 -/

/-- 3.7. -/
theorem test_curve_answers : [0, 30000, 30010, 37500, 44881, 45000, 52500, 65000, 999999].map (curveMf? curve37)
    = [some (1002150, true), some (1002150, false), some (1002149, false), some (1001775, false), some (1001406, false),
       some (1001400, false), some (1001150, false), some (1000900, true), some (1000900, true)] := by decide

/-- 3.8, temperatures. -/
theorem test_ctl_answers : [1200, 1500, 1515, 2250, 3250, 3287, 4500, 5000].map (gradeCtl grade2)
    = [(1000000, true), (1000000, false), (999874, false), (993725, false), (985372, false), (985064, false), (974980, false),
       (974980, true)] := by decide

/-- 3.8, pressures, and the greatest CPL of any grade. -/
theorem test_cpl_answers : [-40, 900, 1200, 18000].map (gradeCpl grade2) = [1000000, 1000675, 1000901, 1011378]
    ∧ gradeCpl { grade2 with f := 2000 } 15000 = 1030928 := by decide

/-! ## Chapter 4 -/

/-- Run 1's T with these reports, after the sequence of 4.8 has selected 3,287. -/
def reports48 (a b : Option Report) (st : SelStatus) : State :=
  idling.setLiveItem (.run .r1 .temp) { agreedOn 3287 with
    record := { (agreedOn 3287).record with lastStatus := some st }, slots := { p1 := a, p2 := b, p3 := none } }

/-- 4.8, times 0, 40 and 60: AGREED, DISAGREE with its notice on entry, SINGLE. -/
theorem test_selections :
    (select (.run .r1 .temp) 0 (reports48 (reported 3286 .good) (reported 3288 .good) .agreed)).1 = ⟨3287, .agreed⟩
    ∧ (select (.run .r1 .temp) 0 (reports48 (reported 3286 .good) (reported 3350 .good) .agreed)).1 = ⟨3286, .disagree⟩
    ∧ (select (.run .r1 .temp) 0 (reports48 (reported 3286 .suspect) (reported 3350 .good) .disagree)).1 = ⟨3350, .single⟩ := by
  decide

theorem test_disagree_notice :
    ((select (.run .r1 .temp) 0 (reports48 (reported 3286 .good) (reported 3350 .good) .agreed)).2.link .p2).notices.liveDisagree
      = ⟨true, 1⟩
    ∧ ((select (.run .r1 .temp) 0 (reports48 (reported 3286 .good) (reported 3351 .good) .disagree)).2.link .p2).notices.liveDisagree
      = ⟨false, 0⟩ := by decide

/-- A temperature of 12,001 is stored as 12,000 and answered OK_CLAMPED (R62). -/
theorem test_clamped_report : let o := exec (.reportLive .p3 1 0 12001 0) idling
    statusAt .p3 o = some .okClamped
      ∧ ((after o).liveItem (.run .r1 .temp)).slots.p3.map (fun r => (r.value, r.clamped)) = some (12000, true) := by decide

/-- A freshness timer's expiry that empties F starts the live hold timer of 120 s (4.8, time 66); after the report of that moment
taken first it does not happen (4.8, its last paragraph). -/
theorem test_freshness_expiry :
    let s := (reports48 (reported 3286 .suspect) (reported 3350 .good) .single).elapse 49999999
    [s, after (exec (.reportLive .p2 1 0 3350 0) s)].map (fun s =>
        let x := (after (exec (.freshnessTimerExpiry (.run .r1 .temp) .p2) s)).liveItem (.run .r1 .temp)
        (x.record.supply, x.record.holdTimer))
      = [(.holding, some 1200000000), (.supplied, none)] := by decide

/-! ## Chapter 5 -/

/-- The bank of 5.7. -/
def bank57 : Bank :=
  let t (n : Nat) : RunTotals := { iv := n, gsv := 0, nsv := 0, rev := 0, unIv := 0, unGsv := 0, unNsv := 0, periods := 0, offline := 0 }
  { runs := ⟨t 999999999700, t 150000000000, t 140000000000, t 122345679200⟩, iv := 412345678900, gsv := 0, nsv := 0, rev := 0 }

/-- 5.7: the run total wraps, the station total does not. -/
theorem test_wrap : let b := (after (exec (.incrementArrivalAtBank .r1)
      (arriving (arrivalTo (some 3) 95 613) { loading with bank := bank57 }))).bank
    (b.runs.r1.iv, b.iv, b.runs.r1.periods, b.runs.r1.unIv) = (323, 412345679523, 1, 0) := by decide

/-- 5.7: NARROW gives the last eight digits, and the override flag inverts the port's width. -/
theorem test_narrow : [false, true].map (fun w => ((after (exec (.readTotals .p2 1 w 1) { loading with
      bank := bank57, links := loading.links.set .p2 { loading.link .p2 with width := .narrow } })).link .p2).response.map
        (fun r => match r.body with | .runTotals _ _ w t => (w, t.iv) | _ => (.wide, 0)))
    = [some (.narrow, 99999700), some (.wide, 999999999700)] := by decide

/-! ## Chapters 6 and 7 -/

/-- Slot 3 with this parcel NSV, at this level. -/
def filled (nsv : Nat) (level : Permissive) : State :=
  let s := { loading with ring := ringOn .opened level parcel }
  s.setSlot 3 { slotWith .current parcel with
    portions := (PerRun.all none).set .r1 (some (Portion.first { arrivalTo (some 3) 95 613 with nsvInc := nsv })) }

/-- 6.11: the arrivals of 613, 1,200 and 205 litres. -/
theorem test_trim_and_stop :
    [(filled 2338500 .full, 613), (filled 2339113 .full, 1200), (filled 2397810 .trim, 205)].map (fun x =>
      let r := (after (exec (.incrementArrivalAtEngine .r1) (arriving (arrivalTo (some 3) 95 x.2) x.1))).ring
      (r.current, r.level))
    = [(.opened, .full), (.opened, .trim), (.topped, .stop)] := by decide

/-- The mean conditions of run 1's portion in 7.9: mean MF 1,001,408 and mean CCF 987,340. -/
theorem test_means : meanOf 1872632688 1870 0 = 1001408 ∧ meanOf 1846325528 1870 0 = 987340 ∧ meanOf 5 0 77 = 77 := by decide

/-- Slot 3 COMPLETE with the witnesses of 7.9, port 1 having collected or not. -/
def complete79 (one : Bool) : State :=
  let x := slotWith .complete (.standing 12 1 ⟨true, true, false⟩ .auto)
  let t : Ticket := { reason := .cut, openTime := 40000, closeTime := 40001, flags := { curveClamp := true }, overrun := 0, iv := 7046,
                      gsv := 6951, nsv := 6932, portions := [] }
  State.reset.setSlot 3 { x with ticket := some t, collected := ⟨one, false, false⟩ }

/-- 7.9: port 3 is no witness; port 2's read completes the set and frees the slot. -/
theorem test_collecting : [(.p3, false), (.p1, false), (.p2, true)].map (fun x =>
      let y := (after (exec (.readTicket x.1 0 3) (complete79 x.2))).slot 3
      (y.state, y.collected.p1, y.collected.p2))
    = [(.complete, false, false), (.complete, true, false), (.free, false, false)] := by decide

/-! ## Chapter 8 -/

/-- The inputs of the pass of 8.10. -/
def inputs810 : PassInputs where
  n := 381
  tP := 20031500
  runTemp := ⟨3287, .agreed⟩
  runPress := ⟨1200, .agreed⟩
  proverTemp := ⟨3250, .agreed⟩
  proverPress := ⟨900, .agreed⟩
  grade := 1
  kmilli := 152400

/-- 8.10. -/
theorem test_pass_figures : passFigures 25000000 999880 20052140 grade2 inputs810
    = { ns := 3813926, ivm := 25025761, q := 44929, ctlM := 985064, cplM := 1000901, ccfM := 985952, ctlP := 985372, cplP := 1000675,
        ccfP := 985919, cpv := 24647975, cmv := 24674199, mfPass := some 998937 } := by decide +kernel

/-- 8.10: the pulse after D2 ends the pass, which is VALID. -/
theorem test_pass_end : (after (exec (.risingEdge .r1 .a false 520061500)
      (proving .awaitEnd (pass (some 500030000) (some 520052140) 380) 1 0 []))).prove.result.passes.map
        (fun x => (x.number, x.abandoned, x.tD, x.mfOf, x.qOf)) = [(1, none, some 20052140, 998937, 44929)] := by decide +kernel

/-- 8.11: the repeatability test, and with a tolerance of 100 its failure. -/
theorem test_repeatability : repeatable 500 [998937, 998990, 998905, 999012, 998960] = true
    ∧ repeatable 100 [998937, 998990, 998905, 999012, 998960] = false ∧ halfUp 4994804 5 = 998961 ∧ halfUp 224620 5 = 44924 := by
  decide

/-- 8.11: the point at 45,000 takes MF 998,961, with deviation 2,443 against the reference 1,001,404. -/
theorem test_acceptance : let t := after (exec (.acceptProve .p1 1 false) (completed 998961 44924 50000 curve1))
    t.curve .r1 = [⟨30000, 1002150, true⟩, ⟨45000, 998961, true⟩, ⟨60000, 1000900, true⟩]
      ∧ t.prove.result.acceptance = some ⟨some 1001404, some 2443, false, 45000, .replaced⟩ := by decide

/-- The installations of 8.12. -/
theorem test_installations : [(50000, 44924), (50000, 37500), (50000, 52000), (200000, 52500)].map
      (fun x => chooseInstall x.1 x.2 curve37)
    = [(.replaced, 45000), (.enabled, 37500), (.inserted, 52000), (.replaced, 45000)] := by decide

/-! ## Chapters 9 and 10 -/

/-- Run 3 of 9.9 held by port 1 with 20 s, ports 2 and 3 waiting. -/
def waiting99 (holder : Port) (line : List Port) : State :=
  State.reset.setClaim (.run .r3) { holder := some holder, waiting := line, holdTime := 20, timer := some 200000000 }

/-- The same at the last tick of the hold timer. -/
def expiring99 (holder : Port) (line : List Port) : State := (waiting99 holder line).elapse 199999999

/-- 9.9, times 9 and 12. -/
theorem test_claim_and_release :
    statusAt .p2 (exec (.claim .p2 3 0) (waiting99 .p1 [.p2, .p3])) = some .waiting
    ∧ (let t := after (exec (.release .p1 3) (waiting99 .p1 [.p2, .p3]))
       (t.claim (.run .r3), (t.link .p2).notices.claimGranted) = (⟨some .p2, [.p3], 20, some 200000000⟩, ⟨true, 4⟩)) := by decide

/-- 9.9, times 32 and 60. -/
theorem test_hold_expiry : let t := after (exec (.holdTimerExpiry (.run .r3)) (expiring99 .p2 [.p3]))
    ((t.claim (.run .r3)).holder, (t.link .p2).notices.claimLost, (t.link .p3).notices.claimGranted) = (some .p3, ⟨true, 4⟩, ⟨true, 4⟩)
      ∧ ((after (exec (.holdTimerExpiry (.run .r3)) (expiring99 .p3 []))).claim (.run .r3)) = ⟨none, [], 20, none⟩ := by decide

/-- Port 2 of 10.9, whose mask is TICKET_READY, PARCEL_STAGE and RUN_FAULT, after step 3. -/
def notices109 : State :=
  State.reset.setLink .p2 { State.reset.link .p2 with
    mask := 0x2C, notices := { parcelStage := ⟨true, 3⟩, reverseFlow := ⟨true, 1⟩ } }

/-- 10.9, steps 3 and 4. -/
theorem test_attention : notices109.attention .p2 = true
    ∧ (let t := after (exec (.ackNotices .p2 0 8) notices109)
       (t.attention .p2, (t.link .p2).notices.parcelStage, (t.link .p2).notices.reverseFlow) = (false, ⟨false, 0⟩, ⟨true, 1⟩)) := by
  decide

/-- The flag word of 10.8. -/
theorem test_flag_word : ({ curveClamp := true, kChanged := true, temp := { disagree := true }, bsw := { dflt := true } } : Flags).word
    = 2 + 16 + 256 + 131072 := by decide

/-- RESPONSE_READOUT of an OK to SET TIME (kind 38): status, kind, length 0, and the CRC. -/
theorem test_readout : ((after (exec (.responseReadout .p1) (after (exec (.setTime .p1 0 5) .reset)))).link .p1).readout
    = [0, 38, 0, 0, 176, 166] := by decide +kernel

/-- A start with a changed memory is a cold initialization; an intact one is a restart (R87). -/
theorem test_start : ((after (exec (.partStart .powerUp false) unsupplied)).link .p1).notices = { retentionLost := ⟨true, 0⟩ }
    ∧ ((after (exec (.partStart .powerUp true) unsupplied)).link .p1).notices = { restarted := ⟨true, 0⟩ } := by decide

/-! ## Witnesses: the queue, supply, frames -/

/-- A queue that waits and an empty one. -/
theorem witness_StepTakesFrontCommand :
    (step { State.reset with pending := [.setTime .p1 0 5, .terminalTimeAdvance] } =
      exec (.setTime .p1 0 5) { State.reset with pending := [.terminalTimeAdvance] })
    ∧ State.reset.pending = [] ∧ (after (step .reset)).prove.timebase = 1 ∧ (after (step unsupplied)).prove.timebase = 0 :=
  ⟨rfl, rfl, rfl, rfl⟩

/-- Seven ticks: a timer of 5 stands at 1, longer ones go down by 7, a stopped one stays stopped. -/
theorem witness_StepTakesFrontCommand_ticks :
    let s := (proving .inPass (pass none none 0) 1 0 []).setClaim (.run .r2) ⟨some .p2, [], 10, some 5⟩
    let t := s.elapse 7
    (t.prove.timebase, t.prove.passTimer, (t.claim (.run .r2)).timer, (t.claim (.run .r1)).timer,
        ((t.liveItem (.run .r1 .temp)).slots.get .p1).bind (·.timer), (t.liveItem (.run .r1 .temp)).record.holdTimer)
      = (500030007, some 599999993, some 1, none, some 49999993, none) ∧ (s.comeTo 500030007).prove.timebase = 500030007
      ∧ (s.comeTo 0).prove.timebase = 500030000 := by decide

theorem witness_UnsuppliedPartIsInert : unsupplied.retention.supplied = false ∧ actsUnsupplied (.setTime .p1 0 5) = false
    ∧ actsUnsupplied (.partStart .resetInput true) = false ∧ actsUnsupplied .lossOfSupply = false := by decide

/-- Operands at the ends of what a frame carries; each is also read back. -/
theorem witness_RequestFramesRoundTrip :
    [Instr.setProver .p2 255 18446744073709551615 0 4294967295 0 1, .reportLive .p2 0 255 (-2147483648) 0,
      .loadGrade .p2 0 1 0 0 [], .setLiveLimits .p2 5 1 1 1 1 0 1, .setLiveLimits .p2 4 1 1 1 1 4294967295 1,
      .acceptProve .p2 1 true, .setPortMode .p2 0 1 65535].all (fun i =>
        i.wf && decide (requestPort i = some .p2)
          && decide ((encodeRequest i).map (decodeFrame .p2) = some (.request i))) = true := by decide +kernel

/-- A frame cut short, one whose length field is 513, one whose CRC is wrong; kinds 0 and 39; flags 4; a body one byte too long. -/
theorem witness_RefusedFrameIsAnsweredAlone :
    [[1, 2, 3, 4], [1, 1, 0, 2, 1], [6, 1, 0, 0, 0, 0, 0], withCrc [0, 1, 0, 0, 0], withCrc [39, 1, 0, 0, 0],
      withCrc [6, 1, 4, 0, 0], withCrc [6, 1, 3, 0, 1, 9]].map (fun f =>
        (statusAt .p1 (exec (.refusedRequestFrame .p1 f) .reset), ((after (exec (.refusedRequestFrame .p1 f) .reset)).link .p1
          |>.response.map (·.kind))))
    = [(some .frameError, some 0), (some .frameError, some 0), (some .frameError, some 0), (some .unknown, some 0),
       (some .unknown, some 39), (some .range, some 6), (some .range, some 6)] := by decide +kernel

theorem witness_ResponseIsReadOutOnce : State.reset.retention.supplied = true ∧ (State.reset.link .p1).response = none
    ∧ ((after (exec (.setTime .p1 0 5) .reset)).link .p1).response = some ⟨.ok, 38, .empty⟩ := by decide

/-! ## Witnesses: edges -/

/-- The expectation EITHER meets both forward clauses; counts at their greatest value and a window one short of its length. -/
theorem witness_ClassifiedEdges : let s := idling.setChecker .r1 { windowed .either 99 1 |>.checker .r1 with
      accepted := 80000, reverse := 40000 }
    s.retention.supplied = true ∧ (s.calcOf .r1).runState = .online ∧ s.provingRun .r1 = false
      ∧ (s.checker .r1).expectation ≠ .aNext ∧ (s.checker .r1).expectation ≠ .bNext
      ∧ ((after (exec (.risingEdge .r1 .a false 0) s)).checker .r1).accepted = 80000
      ∧ ((after (exec (.risingEdge .r1 .a true 0) s)).checker .r1).reverse = 40000 := by decide

/-- One error short of E, with the expectation of either channel. -/
theorem witness_MissingPulseIsSubstituted : [(windowed .bNext 10 1, Channel.a), (windowed .aNext 10 1, .b)].map (fun x =>
      (x.1.provingRun .r1, (x.1.checker .r1).expectation,
        ((after (exec (.risingEdge .r1 x.2 (decide (x.2 = .b)) 0) x.1)).checker .r1).failed))
    = [(false, .bNext, true), (false, .aNext, true)] := by decide

/-- What stands of a prove after a command: the engine, the outcome of its last pass, the result's reason. -/
def proveAfter (o : Host.Outcome State Fault Refusal) : EngineState × Option AbandonReason × Option ProveReason :=
  let q := (after o).prove
  (q.engine, q.result.passes.getLast?.bind (·.abandoned), q.result.reason)

/-- A reverse pulse in AWAIT_D1, in a pass, and in the pass of the last attempt. -/
theorem witness_ClassifiedEdges_proving :
    [proving .awaitD1 none 0 0 [], proving .inPass (pass none none 0) 1 0 [],
      proving .awaitEnd (pass none (some 500030000) 0) 3 0 []].map (fun s =>
        proveAfter (exec (.risingEdge .r1 .a true 0) s))
    = [(.awaitD1, none, none), (.awaitD1, some .reverse, none), (.idle, some .reverse, some .repeatability)] := by decide

/-- The proved run with the checker of 1.9 before a missing-B event, the window errors given. -/
def missingIn (errors : Nat) (s : State) : State := s.setChecker .r1 ((windowed .bNext 10 errors).checker .r1)

/-- A missing event below E and at E: in AWAIT_D1, in a pass, and in the pass of the last attempt. -/
theorem witness_MissingPulseIsSubstituted_proving :
    [missingIn 0 (proving .awaitD1 none 0 0 []), missingIn 0 (proving .inPass (pass none none 0) 1 0 []),
      missingIn 1 (proving .awaitD1 none 0 0 []), missingIn 1 (proving .inPass (pass none none 0) 1 0 []),
      missingIn 1 (proving .inPass (pass none none 0) 3 0 [])].map (fun s =>
        proveAfter (exec (.risingEdge .r1 .a false 0) s))
    = [(.awaitD1, none, none), (.awaitD1, some .pulse, none), (.idle, none, some .pulse), (.idle, some .pulse, some .pulse),
       (.idle, some .pulse, some .repeatability)] := by decide

theorem witness_OfflineEdges : (State.reset.calcOf .r4).runState = .offline ∧ State.reset.retention.supplied = true
    ∧ ((after (exec (.risingEdge .r4 .a true 7) (State.reset.setChecker .r4 { State.reset.checker .r4 with
        offlinePulses := 4294967295 }))).checker .r4).offlinePulses = 4294967295 := by decide

/-! ## Witnesses: passes -/

/-- Awaiting D1; in a pass before and after its first pulse. -/
theorem witness_PulseDuringPass :
    [proving .awaitD1 none 0 0 [], proving .inPass (pass none none 0) 1 0 [],
      proving .inPass (pass (some 500030000) none 0) 1 0 []].map (fun s =>
        (s.provingRun .r1 && decide (s.prove.engine ≠ .awaitEnd), (s.checker .r1).expectation,
          (after (exec (.risingEdge .r1 .a false 500030001) s)).prove.working.map (fun w => (w.first, w.n))))
    = [(true, .either, none), (true, .either, some (some 500030001, 0)), (true, .either, some (some 500030000, 1))] := by decide

/-- A pass with t_P above 0, and one whose pulse after D2 falls on the first pulse's reading. -/
theorem witness_PassEndIsRecorded :
    let s := proving .awaitEnd (pass (some 500030000) (some 500030000) 0) 1 0 []
    s.retention.supplied = true ∧ (s.calcOf .r1).runState = .online ∧ s.prove.result.state = .running
      ∧ s.prove.result.setup.map (·.run) = some .r1 ∧ s.prove.engine = .awaitEnd ∧ (s.checker .r1).expectation ≠ .bNext
      ∧ [500030000, 500030001].map (fun at' => (after (exec (.risingEdge .r1 .a false at') s)).prove.result.passes.map
          (fun x => (x.abandoned, x.tD))) = [[(some .noPulses, some 30000)], [(some .range, some 30000)]] := by decide +kernel

/-- A VALID pass of 8.10 after a pass with this factor, `attempts` begun and `consecutive` VALID so far. -/
def secondPass (mf attempts consecutive : Nat) : State :=
  let old : PassRecord := { passOf 1 with figures := some { passFigures 25000000 999880 20052140 grade2 inputs810 with mfPass := some mf } }
  let s := proving .awaitEnd (pass (some 500030000) (some 520052140) 380) attempts 0 [old]
  s.setResult { s.prove.result with consecutive := consecutive }

/-- No pulse before D2; the second VALID pass in a row, within the tolerance, beyond it, and beyond it at the last attempt; the first
of a row. -/
theorem witness_PassEndIsRecorded_outcomes :
    [(proving .awaitEnd (pass none (some 520052140) 0) 1 0 [], 520061500), (secondPass 998990 2 1, 520061500),
      (secondPass 990000 2 1, 520061500), (secondPass 990000 3 1, 520061500), (secondPass 998990 2 0, 520061500)].map (fun x =>
        let q := (after (exec (.risingEdge .r1 .a false x.2) x.1)).prove.result
        (q.passes.getLast?.bind (·.abandoned), q.consecutive, q.state, q.mf))
    = [(some .noPulses, 0, .running, none), (none, 2, .complete, some 998964), (none, 2, .running, none),
       (none, 2, .failed, none), (none, 1, .running, none)] := by decide +kernel

/-- No interval, no K-factor's worth of pulses, and a flow above the greatest. -/
theorem witness_ValidPassFigures_ends : (passFigures 25000000 999880 0 grade2 inputs810).q = 0
    ∧ (passFigures 25000000 999880 20052140 grade2 { inputs810 with n := 0 }).mfPass = none
    ∧ (passFigures 25000000 999880 1 grade2 { inputs810 with tP := 1 }).q = 999999 := by decide +kernel

theorem witness_ValidPassFigures : figuresValid (passFigures 25000000 999880 20052140 grade2 inputs810) = true := by
  decide +kernel

/-- The figures of 8.10 meet each condition of a VALID pass with MF_pass 998,937. -/
theorem witness_ValidPassFigures_valid : let f := passFigures 25000000 999880 20052140 grade2 inputs810
    0 < f.cmv ∧ 1 ≤ f.q ∧ f.q ≤ 999999 ∧ 2 * 998937 * f.cmv ≤ 2 * (f.cpv * 1000000) + f.cmv
      ∧ 2 * (f.cpv * 1000000) + f.cmv < (2 * 998937 + 2) * f.cmv := by decide +kernel

/-- The soundness that the second part asks for, awaiting D1 and in a pass. -/
theorem witness_DetectorActuations_sound : (proving .awaitD1 none 1 1 [passOf 1]).prove.Sound
    ∧ (proving .inPass (pass none none 0) 1 2 []).prove.Sound ∧ (proving .inPass (pass none none 0) 3 0 [passOf 1, passOf 2]).prove.Sound := by
  refine ⟨⟨by decide, by decide, by decide, ?_, ?_, by decide⟩, ⟨by decide, by decide, by decide, ?_, ?_, by decide⟩,
    ⟨by decide, by decide, by decide, ?_, ?_, by decide⟩⟩
  · intro w h; cases h
  · intro _; exact ⟨_, rfl, by decide, by decide, by decide⟩
  · intro w h; cases h; decide
  · intro _; exact ⟨_, rfl, by decide, by decide, by decide⟩
  · intro w h; cases h; decide
  · intro _; exact ⟨_, rfl, by decide, by decide, by decide⟩

/-- IDLE; D1 and D2 in order; a stray D2 below the limit and at it; a stray D1 below the limit with an attempt left and without. -/
theorem witness_DetectorActuations :
    [(idling, Detector.d1), (proving .awaitD1 none 0 0 [], .d1), (proving .inPass (pass none none 0) 1 0 [], .d2),
      (proving .awaitD1 none 1 1 [passOf 1], .d2), (proving .awaitD1 none 1 2 [passOf 1], .d2),
      (proving .inPass (pass none none 0) 1 1 [], .d1), (proving .inPass (pass none none 0) 3 0 [passOf 1, passOf 2], .d1),
      (proving .inPass (pass none none 0) 1 2 [], .d1)].map (fun x =>
        let q := (after (exec (.detectorActuation x.2 500040000) x.1)).prove
        (q.engine, q.result.attempts, q.result.detectorErrors, q.result.reason))
    = [(.idle, 0, 0, none), (.inPass, 1, 0, none), (.awaitEnd, 1, 0, none), (.awaitD1, 1, 2, none), (.idle, 1, 3, some .detector),
       (.inPass, 2, 2, none), (.idle, 3, 1, some .repeatability), (.idle, 1, 3, some .detector)] := by decide

/-- No timer; two ticks left; the last tick, with an attempt left and at the last attempt. -/
theorem witness_PassTimerExpiry :
    [proving .awaitD1 none 0 0 [], (proving .inPass (pass none none 0) 2 0 [passOf 1]).elapse 599999998,
      (proving .inPass (pass none none 0) 2 0 [passOf 1]).elapse 599999999,
      (proving .awaitEnd (pass none (some 500030000) 0) 3 0 [passOf 1, passOf 2]).elapse 599999999].map (fun s =>
        (s.prove.passTimer, s.passInProgress, (after (exec .passTimerExpiry s)).prove.engine))
    = [(none, false, .awaitD1), (some 2, true, .inPass), (some 1, true, .awaitD1), (some 1, true, .idle)] := by decide

/-! ## Witnesses: periods and settings -/

/-- The last millisecond, with and without an arrival that waits; an earlier one; an OFFLINE run. -/
theorem witness_PeriodExpiryDelivers : let s := closing210 95 0 0 0 0
    s.retention.supplied = true ∧ (s.calcOf .r1).runState = .online ∧ s.toEngine.get .r1 = none ∧ 0 < (s.calcOf .r1).kmilli
    ∧ (s.calcOf .r1).openLength ≤ (s.calcOf .r1).elapsed + 1
    ∧ (arriving (arrivalTo (some 3) 95 613) s).toEngine.get .r1 ≠ none
    ∧ (loading.calcOf .r1).elapsed + 1 < (loading.calcOf .r1).openLength ∧ (s.calcOf .r2).runState = .offline := by decide

/-- T_ms 0, the run's own length, and a flow above the greatest; and a reverse count that changes the reverse volume alone. -/
theorem witness_IndicatedVolumeAndFlow : 0 < (loading.calcOf .r1).kmilli
    ∧ [(0, 95), (500, 95), (1, 80000)].map (fun x =>
        ((closePeriod .r1 x.1 false (closing210 x.2 0 0 0 0)).toEngine.get .r1).map (fun a => (a.ivInc, a.q)))
      = [some (623, 0), some (623, 44881), some (524934, 999999)]
    ∧ let s := closing210 95 0 0 0 0
      let back := s.setChecker .r1 { s.checker .r1 with reverse := 95 }
      ((closePeriod .r1 500 false back).toEngine.get .r1).map (fun a => (a.ivInc, a.q, a.revInc)) = some (623, 44881, 623) := by
  decide

/-- IV_inc = 0 with the greatest residue. -/
theorem witness_PeriodStagesAreExact : let t := closePeriod .r1 500 false (closing210 0 0 0 999999 0)
    (t.toEngine.get .r1).map (fun a => (a.ivInc, a.gsvInc)) = some (0, 0) ∧ (t.calcOf .r1).rG = 999999 := by decide

/-- A destination with its form's grade, and none with the standing grade. -/
theorem witness_PeriodStagesAreExact_grade : [loading, idling].map (fun s =>
      ((s.calcOf .r1).target, ((closePeriod .r1 500 false s).calcOf .r1).lastPeriod.map (fun x => (x.grade, x.ctl, x.flags.tableClamp))))
    = [(some 3, some (1, 985064, false)), (none, some (0, 1000000, true))] := by decide

/-- The last advance before the open length, the millisecond that is the expiry's, and an OFFLINE run. -/
theorem witness_PeriodTimerAdvances : let s := loading.setCalc .r1 { loading.calcOf .r1 with elapsed := 498 }
    s.retention.supplied = true ∧ (s.calcOf .r1).runState = .online ∧ (s.calcOf .r1).elapsed + 1 < (s.calcOf .r1).openLength
      ∧ ((after (exec (.periodTimerAdvance .r1) s)).calcOf .r1).elapsed = 499 ∧ (s.calcOf .r2).runState = .offline
      ∧ ((closing210 0 0 0 0 0).calcOf .r1).openLength = ((closing210 0 0 0 0 0).calcOf .r1).elapsed + 1 := by decide

/-- With and without an enabled point. -/
theorem witness_GoingOnline : [[⟨45000, 1001400, false⟩], curve37].map (fun c =>
      let s := (held .p1 (.run .r1) .reset).setCurve .r1 c
      (s.retention.supplied, s.holds .p1 (.run .r1), (s.calcOf .r1).runState, statusAt .p1 (exec (.setService .p1 1 1) s)))
    = [(true, true, .offline, some .noCurve), (true, true, .offline, some .ok)] := by decide

theorem witness_GoingOffline : loading.retention.supplied = true ∧ loading.holds .p1 (.run .r1) = true
    ∧ (loading.calcOf .r1).runState = .online ∧ statusAt .p1 (exec (.setService .p1 1 0) loading) = some .ok := by decide

/-- The arrival that waits and the partial period's are both in the totals of the OFFLINE run (R36, R80). -/
theorem test_offline_totals : let t := after (exec (.setService .p1 1 0) (arriving (arrivalTo (some 3) 95 613) loading))
    ((t.calcOf .r1).runState, t.toBank.get .r1, (t.totals .r1).periods, (t.totals .r1).iv) = (.offline, [], 2, 623) := by decide

/-- The proved run goes OFFLINE awaiting D1 and during a pass. -/
theorem witness_GoingOffline_proving : [proving .awaitD1 none 0 0 [], proving .inPass (pass none none 0) 1 0 []].map (fun s =>
      let o := exec (.setService .p1 1 0) s
      (proveAfter o, (after o).prove.result.state, [s.provingRun .r1, ((after o).link .p3).notices.proveEnd.pending]))
    = [((.idle, none, some .offline), .aborted, [true, true]), ((.idle, some .ended, some .offline), .aborted, [true, true])] := by decide

/-- The ends of the ranges and the values beyond them. -/
theorem witness_RunSettings : loading.retention.supplied = true ∧ loading.holds .p1 (.run .r1) = true
    ∧ [99, 100, 2000, 2001].map (fun n => statusAt .p1 (exec (.setPeriod .p1 1 n) loading))
      = [some .range, some .ok, some .ok, some .range]
    ∧ [(99, 1), (100, 1), (1000000, 1000), (1000001, 1), (100, 0), (100, 1001)].map
        (fun x => statusAt .p1 (exec (.setSecurity .p1 1 x.1 x.2) loading))
      = [some .range, some .ok, some .ok, some .range, some .range, some .range]
    ∧ statusAt .p1 (exec (.setService .p1 1 2) loading) = some .range
    ∧ statusAt .p1 (exec (.clearRunFault .p1 1) loading) = some .ok := by decide

/-- No target; a CURRENT and a CLOSING target; K at both ends. -/
theorem witness_KFactorNowOrPending : [(idling, 1000), (idling, 99999999), (loading, 1000),
      (loading.setSlot 3 (slotWith .closing parcel), 99999999)].map (fun x =>
        (x.1.holds .p1 (.run .r1), x.1.provingRun .r1, statusAt .p1 (exec (.setKFactor .p1 1 x.2) x.1)))
    = [(true, false, some .ok), (true, false, some .ok), (true, false, some .okPending), (true, false, some .okPending)] := by decide

/-- An arrival waits that leaves the portion open, and one that closes it at the quiet test with no parcel to follow. -/
theorem witness_KFactorNowOrPending_waiting : [arriving (arrivalTo (some 3) 95 613) loading, quietAt false].map (fun s =>
      let t := after (exec (.setKFactor .p1 1 7000) s)
      ((s.toEngine.get .r1).isSome, t.toEngine.get .r1, (t.link .p1).response.map (·.status), (t.calcOf .r1).pendingK,
        (t.calcOf .r1).kmilli))
    = [(true, none, some .okPending, some 7000, 152400), (true, none, some .ok, none, 7000)] := by decide

/-- Values next to the range, and a prove on the run. -/
theorem witness_KFactorNowOrPending_refusals : [999, 100000000].map (fun x => statusAt .p1 (exec (.setKFactor .p1 1 x) loading))
      = [some .range, some .range]
    ∧ statusAt .p1 (exec (.setKFactor .p1 1 0) (proving .awaitD1 none 0 0 [])) = some .proving := by decide

/-- A unit beyond the runs; a free run; a run that another port holds, the port on its list or not. -/
theorem witness_OnlyTheHolderConfiguresARun : runConfiguration (.setPeriod .p2 5 100) = some (.p2, 5, 2) ∧ runOf 5 = none
    ∧ runOf 0 = none ∧ runOf 1 = some .r1
    ∧ [(State.reset, []), (held .p1 (.run .r1) .reset, [Port.p2]),
       ((held .p1 (.run .r1) .reset).setClaim (.run .r1) ⟨some .p1, [.p2], 10, some 1⟩, [.p2])].map (fun x =>
        (x.1.holds .p2 (.run .r1), decide (((after (exec (.setPeriod .p2 1 100) x.1)).claim (.run .r1)).waiting = x.2)))
      = [(false, true), (false, true), (false, true)] := by decide

/-- The other requests of a holder from port 2: the prover free, and the run held by port 1; START PROVE lacking both units, the
prover alone and the run alone; unit fields that no such request has. -/
theorem witness_OnlyTheHolderConfiguresARun_others :
    (loading.holds .p2 (.run .r1) = false ∧ loading.holds .p2 .prover = false)
    ∧ [exec (.setLiveLimits .p2 1 5 120 50 50 1000 1) loading, exec (.setProver .p2 5 0 0 0 0 0) loading, exec (.abortProve .p2 5) loading,
        exec (.startProve .p2 1 2 2 50 990000) loading, exec (.startProve .p1 1 2 2 50 990000) loading,
        exec (.startProve .p2 1 2 2 50 990000) (held .p2 .prover loading)].map (fun o => (statusAt .p2 o, ((after o).claim (.run .r1)).waiting))
      = [(some .notHolder, [.p2]), (some .notHolder, []), (some .notHolder, []), (some .notHolder, [.p2]), (none, []),
         (some .notHolder, [.p2])]
    ∧ [exec (.setLiveLimits .p2 0 5 120 50 50 1000 1) loading, exec (.setProver .p2 1 0 0 0 0 0) loading, exec (.abortProve .p2 6) loading,
        exec (.startProve .p2 5 2 2 50 990000) loading].map (statusAt .p2)
      = [some .range, some .range, some .range, some .range] := by decide

/-! ## Witnesses: tables -/

theorem curve1_sound : CurveSound curve1 := by unfold CurveSound; decide

theorem curve37_sound : CurveSound curve37 := by unfold CurveSound; decide

/-- An added point, a changed one and a removed one, the MF at both ends of its range. -/
theorem witness_CurveEdits : let s := idling.setCurve .r1 curve37
    CurveSound (s.curve .r1) ∧ s.holds .p1 (.run .r1) = true ∧ s.provingRun .r1 = false
      ∧ statusAt .p1 (exec (.addPoint .p1 1 1 800000 1) s) = some .ok
      ∧ statusAt .p1 (exec (.addPoint .p1 1 999999 1200000 0) s) = some .ok
      ∧ statusAt .p1 (exec (.changePoint .p1 1 45000 800000 0) s) = some .ok
      ∧ statusAt .p1 (exec (.removePoint .p1 1 45000) s) = some .ok := by
  refine ⟨curve37_sound, ?_⟩; decide

/-- Eight points of which one is enabled. -/
def fullCurve : List CurvePoint :=
  [⟨1, 1000000, true⟩, ⟨2, 1000000, false⟩, ⟨3, 1000000, false⟩, ⟨4, 1000000, false⟩, ⟨5, 1000000, false⟩, ⟨6, 1000000, false⟩,
    ⟨7, 1000000, false⟩, ⟨8, 1000000, false⟩]

/-- Each refusal, at the value next to its range; PROVING first. -/
theorem witness_CurveEditRefusals : let s := idling.setCurve .r1 fullCurve
    CurveSound (s.curve .r1) ∧ (s.calcOf .r1).runState = .online ∧ (proving .awaitD1 none 0 0 []).provingRun .r1 = true
      ∧ [(9, 799999, 1), (9, 1200001, 1), (0, 1000000, 1), (1000000, 1000000, 1), (9, 1000000, 2), (8, 1000000, 1),
         (9, 1000000, 1)].map (fun x => statusAt .p1 (exec (.addPoint .p1 1 x.1 x.2.1 x.2.2) s))
        = [some .range, some .range, some .range, some .range, some .range, some .duplicate, some .curveFull]
      ∧ [(1, 799999, 1), (9, 1000000, 1), (1, 1000000, 0)].map (fun x => statusAt .p1 (exec (.changePoint .p1 1 x.1 x.2.1 x.2.2) s))
        = [some .range, some .notFound, some .noCurve]
      ∧ [9, 1].map (fun x => statusAt .p1 (exec (.removePoint .p1 1 x) s)) = [some .notFound, some .noCurve]
      ∧ statusAt .p1 (exec (.addPoint .p1 1 0 0 9) (proving .awaitD1 none 0 0 [])) = some .proving := by
  refine ⟨by unfold CurveSound; decide, ?_⟩; decide

/-- A grade at the ends of its ranges, not in use; the standing grade in use. -/
theorem witness_GradeIsLoadedWhole : Grade.Sound { f := 2000, bsw := 100000, table := [⟨-2000, 900000⟩, ⟨12000, 1100000⟩] }
    ∧ statusAt .p1 (exec (.loadGrade .p1 0 8 2000 100000 [⟨-2000, 900000⟩, ⟨12000, 1100000⟩]) .reset) = some .ok
    ∧ State.reset.ring.standingGrade = 0
    ∧ statusAt .p1 (exec (.loadGrade .p1 0 1 2000 100000 [⟨-2000, 900000⟩, ⟨12000, 1100000⟩]) .reset) = some .inUse := by
  refine ⟨by unfold Grade.Sound; decide, ?_⟩; decide

/-- Each value next to its range, an empty and an overlong table, grades 0 and 9, and two points out of order. -/
theorem witness_GradeIsLoadedWhole_refusals : let put (g f bsw : Nat) (pts : List RawPoint) := statusAt .p1 (exec (.loadGrade .p1 0 g f bsw pts) .reset)
    [put 2 2001 0 [⟨0, 1000000⟩], put 2 0 100001 [⟨0, 1000000⟩], put 2 0 0 [], put 2 0 0 (List.replicate 13 ⟨0, 1000000⟩),
      put 2 0 0 [⟨-2001, 1000000⟩], put 2 0 0 [⟨0, 899999⟩], put 0 0 0 [⟨0, 1000000⟩], put 9 0 0 [⟨0, 1000000⟩]]
      = List.replicate 8 (some .range)
    ∧ put 2 0 0 [⟨0, 1000000⟩, ⟨0, 1000000⟩] = some .order := by decide

/-- At a point, below, above and between two points; a gauge pressure of 0. -/
theorem witness_TableAnswers : CurveSound curve37
    ∧ [45000, 29999, 60001, 30001].map (curveMf? curve37)
      = [some (1001400, false), some (1002150, true), some (1000900, true), some (1002150, false)]
    ∧ grade2.f ≤ 2000 ∧ gradeCpl grade2 0 = 1000000 := by
  refine ⟨curve37_sound, ?_⟩; decide

/-- At a point, below, above and between two points of a CTL table. -/
theorem witness_TableAnswers_ctl : grade2.Sound ∧ [1500, 1499, 4501, 1501].map (gradeCtl grade2)
    = [(1000000, false), (1000000, true), (974980, true), (999992, false)] := by
  refine ⟨by unfold Grade.Sound; decide, by decide⟩

/-! ## Witnesses: live values -/

/-- GOOD; SUSPECT that empties F; SUSPECT with F empty; the prover's pressure. -/
theorem witness_ReportIsStored : idling.retention.supplied = true
    ∧ livePointOf (liveUnit .proverPress) 1 = some .proverPress ∧ livePointOf (liveUnit (.run .r1 .bsw)) 2 = some (.run .r1 .bsw)
    ∧ [(reports48 none none .agreed, 0), (reports48 (reported 1 .good) none .agreed, 1),
       (reports48 (reported 1 .suspect) none .agreed, 1)].map (fun x =>
        ((x.1.liveItem (.run .r1 .temp)).f.length,
          ((after (exec (.reportLive .p1 1 0 (-2000) x.2) x.1)).liveItem (.run .r1 .temp)).record.supply))
      = [(0, .supplied), (1, .holding), (0, .supplied)] := by decide

/-- A GOOD report with the latch set: the prover's record SUPPLIED before it and not, and a run's. -/
theorem witness_ReportIsStored_latch :
    let x (st : SupplyState) : LiveItem := { agreedOn 900 with record := { (agreedOn 900).record with supply := st, liveFailed := true } }
    [idling.setLiveItem .proverTemp (x .lapsed), idling.setLiveItem .proverTemp (x .supplied)].map (fun s =>
        ((after (exec (.reportLive .p1 5 0 100 0) s)).liveItem .proverTemp).record.liveFailed) = [false, true]
      ∧ ((after (exec (.reportLive .p1 1 0 100 0) (idling.setLiveItem (.run .r1 .temp) (x .lapsed)))).liveItem
          (.run .r1 .temp)).record.liveFailed = true := by decide

/-- Both live timers at their last tick; a GOOD and a SUSPECT report taken before their expiry. -/
theorem witness_ReportIsStored_sameMoment :
    let x : LiveItem := { agreedOn 900 with
      record := { (agreedOn 900).record with supply := .holding, holdTimer := some 1 }
      slots := { p1 := reported 900 .suspect, p2 := none, p3 := none } }
    let s := (idling.setLiveItem (.run .r1 .temp) x).elapse 49999999
    [0, 1].map (fun h =>
        let t := after (exec (.reportLive .p1 1 0 900 h) s)
        (((t.liveItem (.run .r1 .temp)).slots.get .p1).bind (·.timer),
          ((after (exec (.liveHoldTimerExpiry (.run .r1 .temp)) t)).liveItem (.run .r1 .temp)).record.supply))
      = [(some 50000000, .supplied), (some 50000000, .lapsed)] := by decide

/-- Unit 0 and 6, a quantity beyond each unit's, health 2. -/
theorem witness_ReportIsStored_range : [(0, 0, 0), (6, 0, 0), (1, 3, 0), (5, 2, 0), (1, 0, 2)].map (fun x =>
      statusAt .p1 (exec (.reportLive .p1 x.1 x.2.1 5 x.2.2) idling)) = List.replicate 5 (some .range) := by decide

/-- Timers at their last tick, before it and stopped; the latch clear and set. -/
theorem witness_LiveTimersExpire :
    let s (latch : Bool) := idling.setLiveItem (.run .r1 .temp) { agreedOn 3287 with
      record := { (agreedOn 3287).record with supply := .holding, holdTimer := some 1, liveFailed := latch } }
    [0, 49999998, 49999999].map (fun n => (((idling.elapse n).liveItem (.run .r1 .temp)).slots.get .p1).bind (·.timer))
        = [some 50000000, some 2, some 1]
      ∧ (idling.liveItem (.run .r1 .temp)).slots.get .p3 = none ∧ (idling.liveItem (.run .r1 .temp)).record.holdTimer = none
      ∧ [false, true].map (fun b => let t := after (exec (.liveHoldTimerExpiry (.run .r1 .temp)) (s b))
          ((t.liveItem (.run .r1 .temp)).record.supply, (t.link .p1).notices.runFault.pending))
        = [(.lapsed, true), (.lapsed, false)] := by decide

/-- No selected value; HOLDING and LAPSED; one value; a spread at the tolerance of 50 and one above it. -/
theorem witness_SelectionChooses :
    let empty (st : SupplyState) (v : Option Int) := idling.setLiveItem (.run .r1 .temp)
      { record := { lastValue := v, lastStatus := none, supply := st, holdTimer := none, liveFailed := false }, slots := .all none }
    [empty .lapsed none, empty .holding (some 7), empty .lapsed (some 7), reports48 (reported 100 .good) none .agreed,
      reports48 (reported 100 .good) (reported 150 .good) .agreed, reports48 (reported 100 .good) (reported 151 .good) .agreed].map
        (fun s => (select (.run .r1 .temp) 0 s).1)
    = [⟨1500, .dflt⟩, ⟨7, .held⟩, ⟨7, .failed⟩, ⟨100, .single⟩, ⟨125, .agreed⟩, ⟨100, .disagree⟩] := by decide

/-- Both ends of every limit; the prover while a prove is RUNNING. -/
theorem witness_LiveLimitsAreSet : loading.holds .p1 (.run .r1) = true ∧ (proving .awaitD1 none 0 0 []).holds .p1 .prover = true
    ∧ statusAt .p1 (exec (.setLiveLimits .p1 1 1 10 0 0 0 1) loading) = some .ok
    ∧ statusAt .p1 (exec (.setLiveLimits .p1 1 60 3600 1000 1000 100000 3) loading) = some .ok
    ∧ statusAt .p1 (exec (.setLiveLimits .p1 5 60 3600 1000 1000 100000 3) (held .p1 .prover loading)) = some .ok
    ∧ statusAt .p1 (exec (.setLiveLimits .p1 5 1 10 0 0 0 1) (proving .awaitD1 none 0 0 [])) = some .proving := by decide

/-- Values out of range while a prove is RUNNING. -/
theorem witness_LiveLimitsAreSet_proving : (proving .awaitD1 none 0 0 []).holds .p1 .prover = true
    ∧ (proving .awaitD1 none 0 0 []).proveRunning = true
    ∧ statusAt .p1 (exec (.setLiveLimits .p1 5 0 0 1001 1001 0 4) (proving .awaitD1 none 0 0 [])) = some .proving := by decide

/-- Each limit next to its range. -/
theorem witness_LiveLimitsAreSet_range : let put (st hold t p b pref : Nat) := statusAt .p1 (exec (.setLiveLimits .p1 1 st hold t p b pref) loading)
    [put 0 10 0 0 0 1, put 61 10 0 0 0 1, put 1 9 0 0 0 1, put 1 3601 0 0 0 1, put 1 10 1001 0 0 1, put 1 10 0 1001 0 1,
      put 1 10 0 0 100001 1, put 1 10 0 0 0 0, put 1 10 0 0 0 4] = List.replicate 9 (some .range) := by decide

/-! ## Witnesses: totals and readings -/

/-- None waiting; one with a destination; one with none. -/
theorem witness_BankAddsArrival : loading.toBank.get .r1 = []
    ∧ [some 3, none].map (fun d => ((after (exec (.incrementArrivalAtBank .r1) (arriving (arrivalTo d 95 613) loading))).totals .r1).unIv)
      = [0, 623] := by decide

/-- Groups 0 and 5, units 0, 1 and 5. -/
theorem witness_TotalsAreRead : loading.retention.supplied = true
    ∧ [(1, 0), (1, 5), (0, 1), (5, 3), (1, 2), (1, 4), (0, 2), (0, 4), (1, 3)].map
        (fun x => statusAt .p2 (exec (.readTotals .p2 x.1 true x.2) loading))
      = [some .range, some .range, some .range, some .range, some .range, some .range, some .ok, some .ok, some .ok] := by decide

/-- PARCEL PROGRESS of a NORMAL parcel with a portion, of a HOLD and of no slot. -/
theorem witness_TotalsAreRead_progress :
    ([filled 613 .full, { idling with ring := ringOn .held .stop (.hold 9) }, idling] : List State).map (fun s =>
      (s.progress.slot, s.progress.kind, s.progress.parcelNsv, s.progress.remaining))
    = [(some 3, some .normal, some 613, some 2399387), (some 3, some .hold, none, none), (none, none, none, none)] := by decide

/-- A slot that is COMPLETE. -/
theorem witness_ReadingsChangeNothing : loading.retention.supplied = true ∧ ((complete79 true).slot 3).state = .complete
    ∧ statusAt .p3 (exec (.readSlot .p3 0 3) (complete79 true)) = some .ok := by decide

/-- Units next to their ranges, grades 0 and 9. -/
theorem witness_ReadingsChangeNothing_range : [exec (.readRun .p1 0) loading, exec (.readCurve .p1 5) loading, exec (.readLive .p1 6) loading,
      exec (.readGrade .p1 0 0) loading, exec (.readGrade .p1 0 9) loading, exec (.readGrade .p1 1 1) loading, exec (.readNotices .p1 1) loading,
      exec (.readProve .p1 4 1) loading].map (statusAt .p1) = List.replicate 8 (some .range) := by decide +kernel

/-- First pass numbers 0, 1, 20 and 21; the second of two records alone. -/
theorem witness_ProveIsRead : [0, 1, 20, 21].map (fun n => statusAt .p1 (exec (.readProve .p1 5 n) loading))
      = [some .range, some .ok, some .ok, some .range]
    ∧ ((after (exec (.readProve .p1 5 2) (completed 998961 44924 50000 curve1))).link .p1).response.map
        (fun r => match r.body with | .prove v => v.page.map (·.number) | _ => []) = some [2] := by decide +kernel

/-! ## Witnesses: the ring -/

/-- Slot 2 RESERVED by port 1, and the head slot another. -/
def reservedSlot (f : Option ControlForm) : State :=
  State.reset.setSlot 2 { RingSlot.empty with state := .reserved, reserver := some .p1, form := f }

/-- Forms of each kind at the ends of their ranges. -/
theorem witness_SlotsBeforeTheTake : (State.reset.slot State.reset.ring.tail).state = .free
    ∧ ((reservedSlot none).slot 2).state = .reserved ∧ ((reservedSlot none).slot 2).reserver = some .p1
    ∧ ((reservedSlot none).slot 2).reserver ≠ some .p2 ∧ ((reservedSlot none).slot 3).state ≠ .reserved
    ∧ [(⟨0, 4294967295, 1, 1, 0, 0, 1, 1, 0⟩ : RawForm), ⟨0, 0, 8, 10000000000, 10000000000, 10000000000, 255, 7, 1⟩,
       ⟨1, 5, 8, 0, 0, 0, 0, 7, 1⟩, ⟨2, 5, 0, 0, 0, 0, 0, 0, 9⟩].map
        (fun f => statusAt .p1 (exec (.writeSlot .p1 0 2 f) (reservedSlot none))) = [some .ok, some .ok, some .ok, some .ok]
    ∧ statusAt .p1 (exec (.reserveSlot .p1 0) (State.reset.setSlot 0 (slotWith .reserved parcel))) = some .ringFull := by decide

/-- A form that fits, at equal margins, and one that does not; each state that CANCEL SLOT meets. -/
theorem witness_SlotsBeforeTheTake_arm : (reservedSlot none).ring.head ≠ 2
    ∧ [some (.normal 1 0 5 5 5 1 ⟨true, false, false⟩ .auto), some (.normal 1 0 5 5 6 1 ⟨true, false, false⟩ .auto), none].map
        (fun f => statusAt .p1 (exec (.armSlot .p1 0 2) (reservedSlot f))) = [some .ok, some .order, some .range]
    ∧ [SlotState.reserved, .armed, .free, .current, .closing, .complete, .void].map
        (fun st => statusAt .p1 (exec (.cancelSlot .p1 0 2) (State.reset.setSlot 2 (slotWith st parcel))))
      = [some .ok, some .ok, some .state, some .state, some .state, some .state, some .state] := by decide

/-- Forms with one field next to its range; another port's slot; slot 8 and unit 1. -/
theorem witness_SlotsBeforeTheTake_refusals :
    [(⟨3, 5, 1, 1, 0, 0, 1, 1, 0⟩ : RawForm), ⟨1, 5, 0, 1, 0, 0, 1, 1, 0⟩, ⟨0, 5, 9, 1, 0, 0, 1, 1, 0⟩, ⟨0, 5, 1, 0, 0, 0, 1, 1, 0⟩,
      ⟨0, 5, 1, 10000000001, 0, 0, 1, 1, 0⟩, ⟨0, 5, 1, 1, 10000000001, 0, 1, 1, 0⟩, ⟨0, 5, 1, 1, 0, 10000000001, 1, 1, 0⟩,
      ⟨0, 5, 1, 1, 0, 0, 0, 1, 0⟩, ⟨0, 5, 1, 1, 0, 0, 256, 1, 0⟩, ⟨1, 5, 1, 1, 0, 0, 1, 0, 0⟩, ⟨1, 5, 1, 1, 0, 0, 1, 8, 0⟩,
      ⟨1, 5, 1, 1, 0, 0, 1, 1, 2⟩].map (fun f => statusAt .p1 (exec (.writeSlot .p1 0 2 f) (reservedSlot none)))
      = List.replicate 12 (some .range)
    ∧ statusAt .p2 (exec (.cancelSlot .p2 0 2) (reservedSlot none)) = some .notOwner
    ∧ [exec (.armSlot .p1 0 8) .reset, exec (.readSlot .p1 1 0) .reset, exec (.reserveSlot .p1 1) .reset].map (statusAt .p1)
      = List.replicate 3 (some .range) := by decide

/-- The head slot cancelled while IDLE: it is freed and the ARMED slot after it is taken. -/
theorem witness_SlotsBeforeTheTake_head : let s := (idling.setSlot 0 (slotWith .reserved parcel)).setSlot 1 (slotWith .armed parcel)
    let t := after (exec (.cancelSlot .p1 0 0) s)
    (s.ring.head, s.ring.current, (t.slot 0).state, (t.slot 1).state, t.ring.head, (t.calcOf .r1).target)
      = (0, .idle, .free, .current, 2, some 1) := by decide

/-- A take of a VOID, an ARMED, a RESERVED and a COMPLETE head slot. -/
theorem witness_TakeOpensTheHeadSlot_looks : [SlotState.void, .armed, .reserved, .complete].map (fun st =>
      let t := takeNext (idling.setSlot 0 (slotWith st parcel))
      (t.ring.current, t.ring.head, (t.slot 0).state))
    = [(.idle, 1, .free), (.opened, 1, .current), (.idle, 0, .reserved), (.idle, 0, .complete)] := by decide

/-- A NORMAL and a HOLD form in the head slot, run 1 ONLINE without a target. -/
theorem witness_TakeOpensTheHeadSlot : marginsOk parcel = true ∧ idling.ring.current = .idle
    ∧ [parcel, .hold 9].map (fun f =>
        let t := after (exec (.armSlot .p1 0 0) (idling.setSlot 0 (slotWith .reserved f)))
        (t.ring.current, (t.calcOf .r1).target, (t.slot 0).state))
      = [(.opened, some 0, .current), (.held, none, .current)] := by decide

/-- Not held; held with an empty head slot; resume pending clear and set. -/
theorem witness_HoldAndResume :
    let h : State := { idling with ring := ringOn .held .stop (.hold 9) }
    loading.ring.current ≠ .held ∧ h.ring.current = .held ∧ h.currentSlot = some 3 ∧ (h.slot h.ring.head).state = .free
      ∧ statusAt .p2 (exec (.releaseHold .p2 0) h) = some .ok ∧ loading.ring.resumePending = false
      ∧ statusAt .p2 (exec (.resumeLoading .p2 0) { loading with ring := { loading.ring with resumePending := true } }) = some .ok := by
  decide

/-- RELEASE HOLD with an ARMED head slot. -/
theorem witness_HoldAndResume_take :
    let h : State := { idling with ring := ringOn .held .stop (.hold 9) }
    let t := after (exec (.releaseHold .p2 0) (h.setSlot 4 (slotWith .armed parcel)))
    (t.ring.current, (t.slot 3).state, (t.slot 4).state, t.ring.head) = (.opened, .free, .current, 5) := by decide

/-- Another slot; a closing in progress; the cut with a run that owes and with none. -/
theorem witness_CutStartsAClosing : loading.parcelOpen = true ∧ (loading.slot 4).state ≠ .current
    ∧ ([{ loading with ring := { loading.ring with closing := some ⟨2, .cut, 0, .all true⟩ } }, loading,
        { idling with ring := ringOn .topped .stop parcel }] : List State).map (fun s =>
          let o := exec (.cutParcel .p2 0 3) s
          (statusAt .p2 o, ((after o).slot 3).state))
      = [(some .busy, .current), (some .ok, .closing), (some .ok, .complete)] := by decide

/-- A cut before an ARMED head slot, with a run that owes and with none: the take makes the head slot CURRENT. -/
theorem witness_CutStartsAClosing_take :
    [(loading, parcel), (loading, .hold 9), ({ idling with ring := ringOn .topped .stop parcel }, parcel)].map (fun x =>
      let t := after (exec (.cutParcel .p2 0 3) (x.1.setSlot 4 (slotWith .armed x.2)))
      ([(t.slot 3).state, (t.slot 4).state], t.ring.head, t.ring.current, t.ring.level, (t.calcOf .r1).target))
    = [([.closing, .current], 5, .opened, .full, some 3), ([.closing, .current], 5, .held, .stop, some 3),
       ([.complete, .current], 5, .opened, .full, some 4)] := by decide

/-- The CURRENT slot in HELD, and IDLE. -/
theorem witness_CutStartsAClosing_state : ([{ idling with ring := ringOn .held .stop (.hold 9) }, idling] : List State).map (fun s =>
      (s.ring.current, statusAt .p2 (exec (.cutParcel .p2 0 3) s))) = [(.held, some .state), (.idle, some .state)] := by decide

/-- The first arrival of a portion and a later one, to a CURRENT slot. -/
theorem witness_ArrivalJoinsItsPortion :
    [loading, filled 0 .full].map (fun s =>
      let a := arriving (arrivalTo (some 3) 95 613) s
      ((a.slot 3).state, ((s.slot 3).portions.get .r1).isSome,
        (((after (exec (.incrementArrivalAtEngine .r1) a)).slot 3).portions.get .r1).map (·.periods)))
    = [(.current, false, some 1), (.current, true, some 2)] := by decide

/-- None waiting; no pulses; pulses with the watch set and clear. -/
theorem witness_WatchAndPermissive : loading.toEngine.get .r1 = none
    ∧ [(0, true), (1, true), (1, false)].map (fun x =>
        let t := after (exec (.incrementArrivalAtEngine .r1) (arriving (arrivalTo none x.1 613)
          { loading with ring := { loading.ring with watch := x.2 } }))
        (t.ring.watch, (t.link .p1).notices.parcelStage.pending))
      = [(true, false), (false, true), (false, false)] := by decide

/-- The remaining volume at the stop margin, one above it at the trim margin, above both, at the trim level, and TOPPED. -/
theorem witness_WatchAndPermissive_levels :
    [filled 2398000 .full, filled 2340000 .full, filled 2339999 .full, filled 2397999 .trim].map (fun s =>
      ((s.slot 3).form, (evaluatePermissive 3 s).ring.level))
    = [(some parcel, .stop), (some parcel, .trim), (some parcel, .full), (some parcel, .trim)]
    ∧ (ringOn .topped .stop parcel).current = .topped := by decide

/-- The soundness of a ring from parts over the lists of slots and runs, each of which can be decided. -/
theorem ringSound_of (s : State)
    (h1 : ∀ i j : SlotId, (s.slot i).state = .current → (s.slot j).state = .current → i = j)
    (h2 : s.ring.current = .idle ↔ ∀ i : SlotId, (s.slot i).state ≠ .current)
    (h3 : ∀ i : SlotId, (s.slot i).state = .current → ∀ f ∈ (s.slot i).form.toList,
      (s.ring.current = .held ↔ formKind f = .hold) ∧ (s.ring.current = .topped → formKind f = .normal))
    (h4 : s.ring.current = .opened ↔ s.ring.level ≠ .stop)
    (h5 : ∀ i : SlotId, (s.slot i).state = .closing ↔ ∃ c ∈ s.ring.closing.toList, c.slot = i)
    (h6 : ∀ c ∈ s.ring.closing.toList, (∀ r ∈ runs, c.owing.get r = true ↔ (s.calcOf r).runState = .online
      ∧ (s.calcOf r).target = some c.slot) ∧ ∃ r ∈ runs, c.owing.get r = true)
    (h7 : ∀ r ∈ runs, ∀ i ∈ (s.calcOf r).target.toList, (s.calcOf r).runState = .online
      ∧ ((s.slot i).state = .closing ∨ ((s.slot i).state = .current ∧ s.ring.current ≠ .held)))
    (h8 : ∀ r ∈ runs, (s.calcOf r).runState = .online → s.parcelOpen = true → (s.calcOf r).target ≠ none)
    (h9 : ∀ i : SlotId, ∀ r ∈ runs, ∀ x ∈ ((s.slot i).portions.get r).toList, x.run = r) : s.RingSound := by
  have all : ∀ r : Run, r ∈ runs := by intro r; cases r <;> decide
  simp only [Option.mem_toList] at h3 h5 h6 h7 h9
  exact ⟨h1, h2, fun i f hi hf => (h3 i hi f hf).1, fun i f hi hf => (h3 i hi f hf).2, h4, fun i => h5 i,
    fun c r hc => (h6 c hc).1 r (all r), fun c hc => (h6 c hc).2.imp fun _ h => h.2, fun r i hi => h7 r (all r) i hi,
    fun r => h8 r (all r), fun i r x hx => h9 i r (all r) x hx⟩

theorem loading_ringSound : loading.RingSound :=
  ringSound_of _ (by decide) (by decide) (by decide) (by decide) (by decide) (by decide) (by decide) (by decide) (by decide)

/-- An arrival of run 1 to the OPEN parcel of 6.11, above the trim margin, at it and at the stop margin. -/
theorem witness_WatchAndPermissive_arrival :
    let s (nsv : Nat) := arriving (arrivalTo (some 3) 95 613) (filled nsv .full)
    (s 0).RingSound ∧ ((s 0).calcOf .r1).runState = .online ∧ ((s 0).calcOf .r1).quiet < 4
      ∧ [2339386, 2339387, 2397387].map (fun n => (after (exec (.incrementArrivalAtEngine .r1) (s n))).ring.level)
        = [.full, .trim, .stop] :=
  ⟨ringSound_of _ (by decide) (by decide) (by decide) (by decide) (by decide) (by decide)
    (by decide) (by decide) (by decide), by decide⟩

/-- Slot 3 CLOSING, owed by run 1 and perhaps by run 2, while run 1's arrival waits. -/
def owed (two : Bool) : State :=
  let s := arriving (arrivalTo (some 3) 95 613) loading
  let t := if two then s.setCalc .r2 { s.calcOf .r2 with runState := .online, target := some 3 } else s
  { t with ring := { s.ring with
      slots := s.ring.slots.set 3 { s.slot 3 with state := .closing }
      current := .idle, level := .stop, closing := some ⟨3, .cut, 40, ⟨true, two, false, false⟩⟩ } }

/-- The last run to owe, and one that another follows. -/
theorem witness_WatchAndPermissive_owing : (owed false).RingSound ∧ (owed true).RingSound
    ∧ [owed false, owed true].map (fun s =>
        let t := after (exec (.incrementArrivalAtEngine .r1) s)
        ((t.slot 3).state, t.ring.closing.map (·.owing), (t.calcOf .r1).target))
      = [(.complete, none, none), (.closing, some ⟨false, true, false, false⟩, none)] :=
  ⟨ringSound_of _ (by decide) (by decide) (by decide) (by decide) (by decide) (by decide) (by decide) (by decide) (by decide),
    ringSound_of _ (by decide) (by decide) (by decide) (by decide) (by decide) (by decide) (by decide) (by decide) (by decide), by decide⟩

/-- The quiet close with no run owing and with one. -/
theorem witness_WatchAndPermissive_quiet : (quietAt false).RingSound ∧ (quietAt true).RingSound
    ∧ [quietAt false, quietAt true].map (fun s =>
        let t := after (exec (.incrementArrivalAtEngine .r1) s)
        ((t.slot 3).state, t.ring.closing.map (fun c => (c.reason, c.owing)), (t.slot 3).ticket.map (·.reason)))
      = [(.complete, none, some .quiet), (.closing, some (.quiet, ⟨false, true, false, false⟩), none)] :=
  ⟨ringSound_of _ (by decide) (by decide) (by decide) (by decide) (by decide) (by decide) (by decide) (by decide) (by decide),
    ringSound_of _ (by decide) (by decide) (by decide) (by decide) (by decide) (by decide) (by decide) (by decide) (by decide), by decide⟩

/-- The quiet close before an ARMED head slot: the delivering run takes the next parcel as its target. -/
theorem witness_WatchAndPermissive_quiet_take : [quietAt false, quietAt true].map (fun s =>
      let t := after (exec (.incrementArrivalAtEngine .r1) (s.setSlot 4 (slotWith .armed parcel)))
      ([(t.slot 3).state, (t.slot 4).state], t.ring.head, t.ring.current, [(t.calcOf .r1).target, (t.calcOf .r2).target]))
    = [([.complete, .current], 5, .opened, [some 4, none]), ([.closing, .current], 5, .opened, [some 4, some 3])] := by decide

/-- A closing with one portion, NORMAL above its target and STANDING; a portion with IV 0. -/
theorem witness_TicketIsWritten :
    let s (f : ControlForm) (a : Arrival) : State := { loading with ring := { loading.ring with
      slots := loading.ring.slots.set 3 { slotWith .closing f with portions := (PerRun.all none).set .r1 (some (Portion.first a)) }
      closing := some ⟨3, .quiet, 9, .all false⟩ } }
    [(parcel, { arrivalTo (some 3) 95 613 with nsvInc := 2400001 }),
     (.standing 1 1 (.all true) .auto, { arrivalTo (some 3) 0 0 with ivInc := 0 })].map (fun x =>
        (((writeTicket (s x.1 x.2)).slot 3).ticket.map (fun k => (k.overrun, k.portions.map (·.meanTemp)))))
      = [some (1, [3287]), some (0, [3287])] := by decide

/-- Not COMPLETE; COMPLETE with a ticket, a form and its witnesses. -/
theorem witness_TicketIsReadAndCollected : ((complete79 false).slot 2).state ≠ .complete
    ∧ ((complete79 false).slot 3).state = .complete ∧ ((complete79 false).slot 3).ticket.isSome = true
    ∧ (((complete79 false).slot 3).form.bind formWitness) = some ⟨true, true, false⟩ := by decide

/-! ## Witnesses: proving requests -/

/-- SET PROVER at both ends; START PROVE with each refusal, and accepted at both ends of its ranges. -/
theorem witness_ProveIsSetUp :
    let s := held .p1 .prover loading
    s.holds .p1 .prover = true ∧ s.holds .p1 (.run .r1) = true ∧ (proving .awaitD1 none 0 0 []).proveRunning = true
      ∧ statusAt .p1 (exec (.setProver .p1 5 10000 1 1 100 1000) s) = some .ok
      ∧ statusAt .p1 (exec (.setProver .p1 5 500000000 600 10 20000 200000) s) = some .ok
      ∧ [(2, 2, 50, 990000), (10, 20, 5000, 1010000), (1, 2, 50, 990000), (10, 9, 50, 990000), (2, 21, 50, 990000)].map
          (fun x => statusAt .p1 (exec (.startProve .p1 1 x.1 x.2.1 x.2.2.1 x.2.2.2) s))
        = [some .ok, some .ok, some .range, some .range, some .range]
      ∧ statusAt .p1 (exec (.startProve .p1 1 2 2 50 990000) (held .p1 .prover (completed 998961 44924 50000 curve1)))
        = some .resultPending
      ∧ statusAt .p1 (exec (.startProve .p1 1 2 2 50 990000) (held .p1 .prover (held .p1 (.run .r1) .reset))) = some .offline
      ∧ statusAt .p1 (exec (.startProve .p1 1 2 2 50 990000) (s.setChecker .r1 { s.checker .r1 with failed := true }))
        = some .pulseFailed := by decide

/-- Each field of SET PROVER next to its range, and a prove RUNNING. -/
theorem witness_ProveIsSetUp_refusals : let put (b t d a m : Nat) := statusAt .p1 (exec (.setProver .p1 5 b t d a m) (held .p1 .prover loading))
    [put 9999 1 1 100 1000, put 500000001 1 1 100 1000, put 10000 0 1 100 1000, put 10000 601 1 100 1000, put 10000 1 0 100 1000,
      put 10000 1 11 100 1000, put 10000 1 1 99 1000, put 10000 1 1 20001 1000, put 10000 1 1 100 999, put 10000 1 1 100 200001]
      = List.replicate 10 (some .range)
    ∧ statusAt .p1 (exec (.setProver .p1 5 0 0 0 0 0) (proving .awaitD1 none 0 0 [])) = some .proving := by decide

/-- No prove; a prove awaiting D1; a pass in progress. -/
theorem witness_ProveIsAborted : [held .p1 .prover loading, proving .awaitD1 none 0 0 [], proving .inPass (pass none none 0) 1 0 []].map
      (fun s => (s.holds .p1 .prover, statusAt .p1 (exec (.abortProve .p1 5) s),
        (after (exec (.abortProve .p1 5) s)).prove.result.passes.length))
    = [(true, some .state, 0), (true, some .ok, 0), (true, some .ok, 1)] := by decide

/-- Each installation of 8.12; no enabled point; a deviation beyond the limit, and forced; a full curve. -/
theorem witness_ResultIsAccepted : CurveSound curve37 ∧ (completed 1001000 44924 50000 curve37).holds .p1 (.run .r1) = true
    ∧ [(completed 1001000 44924 50000 curve37, false), (completed 1001000 37500 50000 curve37, false),
       (completed 1001000 52000 50000 curve37, false), (completed 1001000 52000 50000 [], false),
       (completed 1001000 52000 50000 [], true), (completed 900000 44924 50000 curve37, false),
       (completed 900000 44924 50000 curve37, true), (completed 1000000 99 1000 fullCurve, false)].map
        (fun x => statusAt .p1 (exec (.acceptProve .p1 1 x.2) x.1))
      = [some .ok, some .ok, some .ok, some .noCurve, some .ok, some .deviation, some .ok, some .curveFull] := by
  refine ⟨curve37_sound, ?_⟩; decide

/-- No result, a prove RUNNING, and the result of run 1 for run 2. -/
theorem witness_ResultIsAccepted_state : [(idling, 1), (proving .awaitD1 none 0 0 [], 1),
      (held .p1 (.run .r2) (completed 998961 44924 50000 curve1), 2)].map (fun x => statusAt .p1 (exec (.acceptProve .p1 x.2 true) x.1))
    = List.replicate 3 (some .state) := by decide

/-- Units 0, 1 and 5; not the holder; no COMPLETE result; a result of run 1. -/
theorem witness_ResultIsDiscarded : runOf 0 = none ∧ runOf 5 = none ∧ runOf 1 = some .r1
    ∧ [(completed 998961 44924 50000 curve1, Port.p1), (completed 998961 44924 50000 curve1, .p2), (idling, .p1)].map
        (fun x => statusAt x.2 (exec (.discardProve x.2 1) x.1)) = [some .ok, some .notHolder, some .state] := by decide

/-! ## Witnesses: claims, links, supply -/

/-- A free unit, the holder, another port; a hold time of 0 and of 60; a list and none. -/
theorem witness_ClaimsAreMadeAndHandedOver :
    [(State.reset, Port.p1, 0), (State.reset, .p1, 60), (waiting99 .p1 [], .p1, 60), (waiting99 .p1 [], .p2, 0),
      (waiting99 .p1 [.p3], .p2, 60)].map (fun x => statusAt x.2.1 (exec (.claim x.2.1 3 x.2.2) x.1))
      = [some .ok, some .ok, some .ok, some .waiting, some .waiting]
    ∧ (waiting99 .p1 []).inProve (.run .r3) = false ∧ ((expiring99 .p1 []).claim (.run .r3)).timer = some 1
    ∧ ((waiting99 .p1 []).claim (.run .r3)).timer = some 200000000
    ∧ ((proving .awaitD1 none 0 0 []).claim .prover).timer = none := by decide

/-- An expiry of the same moment, after the holder's CLAIM, its RELEASE, its READ RUN and another port's CLAIM. -/
theorem witness_ClaimsAreMadeAndHandedOver_sameMoment :
    [Instr.claim .p1 3 0, .release .p1 3, .readRun .p1 3, .claim .p2 3 0].map (fun c =>
        let t := after (exec (.holdTimerExpiry (.run .r3)) (after (exec c (expiring99 .p1 [.p3]))))
        ((t.claim (.run .r3)).holder, (t.link .p1).notices.claimLost.pending))
      = [(some .p1, false), (some .p3, false), (some .p1, false), (some .p3, true)] := by decide

/-- Hold time 61, units 0 and 6, a port that does not hold the unit; the proving port releases each unit of its prove. -/
theorem witness_ClaimsAreMadeAndHandedOver_others :
    [exec (.claim .p1 3 61) .reset, exec (.claim .p1 0 0) .reset, exec (.release .p1 6) .reset,
      exec (.release .p1 3) (waiting99 .p2 [])].map (statusAt .p1) = [some .range, some .range, some .range, some .notHolder]
    ∧ [1, 5].map (fun n =>
        let t := after (exec (.release .p1 n) (proving .inPass (pass none none 0) 1 0 []))
        (t.prove.result.reason, (t.claim (.run .r1)).holder, (t.claim .prover).holder))
      = [(some .claim, none, some .p1), (some .claim, some .p1, none)] := by decide

/-- Masks 1,023 and 1,024, widths 1 and 2, the greatest time. -/
theorem witness_LinkAndClockSettings : State.reset.retention.supplied = true
    ∧ [(1, 1023), (1, 1024), (2, 1023)].map (fun x => statusAt .p3 (exec (.setPortMode .p3 0 x.1 x.2) .reset))
      = [some .ok, some .range, some .range]
    ∧ [1023, 1024].map (fun m => statusAt .p3 (exec (.ackNotices .p3 0 m) .reset)) = [some .ok, some .range]
    ∧ (after (exec (.setTime .p3 0 4294967295) .reset)).terminalTime = 4294967295 := by decide

/-- After a SET TIME no advance counts at the same moment or one tick short of a whole second; the one a whole second later goes from
4,294,967,295 to 0, and the next one counts too. -/
theorem witness_LinkAndClockSettings_second : State.reset.clockWait = none
    ∧ (let t := after (exec (.setTime .p3 0 4294967295) .reset)
       [t, t.elapse 9999999, t.elapse 10000000, after (exec .terminalTimeAdvance (t.elapse 10000000))].map (fun s =>
         (s.clockWait, (after (exec .terminalTimeAdvance s)).terminalTime))
       = [(some 10000000, 4294967295), (some 1, 4294967295), (none, 0), (none, 1)]) := by decide

/-- A unit field of 1. -/
theorem witness_LinkAndClockSettings_unit : [exec (.setPortMode .p3 1 0 0) .reset, exec (.ackNotices .p3 1 0) .reset, exec (.setTime .p3 1 0) .reset,
      exec (.stationClear .p3 1) .reset].map (statusAt .p3) = List.replicate 4 (some .range) := by decide

/-- A station that holds one run, and the proving port. -/
theorem witness_StationIsCleared : loading.ClaimsSound ∧ (proving .awaitD1 none 0 0 []).ClaimsSound
    ∧ (proving .awaitD1 none 0 0 []).provingPort .p1 = true ∧ loading.provingPort .p1 = false := by
  refine ⟨⟨?_, by decide⟩, ⟨?_, ?_⟩, by decide, by decide⟩
  · intro u
    rcases u with (_ | _ | _ | _) | _
    · exact ⟨fun h => (by cases h), fun p h => by cases h; decide⟩
    all_goals exact ⟨fun _ => ⟨rfl, rfl⟩, fun p h => by cases h⟩
  · intro u
    rcases u with (_ | _ | _ | _) | _
    · exact ⟨fun h => (by cases h), fun p h => by cases h; decide⟩
    · exact ⟨fun _ => ⟨rfl, rfl⟩, fun p h => by cases h⟩
    · exact ⟨fun _ => ⟨rfl, rfl⟩, fun p h => by cases h⟩
    · exact ⟨fun _ => ⟨rfl, rfl⟩, fun p h => by cases h⟩
    · exact ⟨fun h => (by cases h), fun p h => by cases h; decide⟩
  · intro _; exact ⟨_, rfl, rfl, rfl, rfl⟩

/-- The holder with two ports on its list, a port on the list, and the holder of a unit that nobody waits for. -/
theorem witness_StationIsCleared_handover : (waiting99 .p1 [.p2, .p3]).ClaimsSound
    ∧ [(waiting99 .p1 [.p2, .p3], Port.p1), (waiting99 .p1 [.p2, .p3], .p2), (waiting99 .p1 [], .p1)].map (fun x =>
        let t := after (exec (.stationClear x.2 0) x.1)
        (t.claim (.run .r3), (t.link .p2).notices.claimGranted))
      = [(⟨some .p2, [.p3], 20, some 200000000⟩, ⟨true, 4⟩), (⟨some .p1, [.p3], 20, some 200000000⟩, ⟨false, 0⟩),
         (⟨none, [], 20, none⟩, ⟨false, 0⟩)] := by
  refine ⟨⟨?_, by decide⟩, by decide⟩
  intro u
  rcases u with (_ | _ | _ | _) | _
  all_goals first
    | exact ⟨fun _ => ⟨rfl, rfl⟩, fun p h => by cases h⟩
    | exact ⟨fun h => (by cases h), fun p h => by cases h; decide⟩

/-- A reset input and a power-up; the domain valid, changed, and lapsed. -/
theorem witness_StartOfThePart : loading.retention.supplied = true ∧ loading.retention.lapse = false
    ∧ loading.retention.checkMatches = true ∧ (loading.calcOf .r1).runState = .online ∧ (loading.calcOf .r2).runState = .offline
    ∧ (((after (exec (.partStart .resetInput true) loading)).calcOf .r1).lastPeriod.map (·.flags.restartPeriod)) = some true
    ∧ ((after (exec (.partStart .powerUp true) { loading with retention := { loading.retention with lapse := true } })).calcOf .r1).runState
      = .offline := by decide

/-- A restart with an arrival waiting, whose parcel's resume mode is MANUAL: the totals and the parcel hold it before the restart
partial period. -/
theorem witness_StartOfThePart_waiting : let s := arriving (arrivalTo (some 3) 95 613) loading
    (afterCommands (arrivalsOf s) s).isSome = true ∧ loading.toEngine = .all none ∧ loading.toBank = .all []
      ∧ (let t := after (exec (.partStart .resetInput true) s)
         (t.ring.resumePending, (t.totals .r1).iv, (t.slot 3).parcelNsv, (t.toBank.get .r1).length) = (true, 623, 613, 1)) := by decide

/-- The loss with an arrival waiting keeps its increments. -/
theorem witness_SupplyIsLost_waiting : let t := after (exec .lossOfSupply (arriving (arrivalTo (some 3) 95 613) loading))
    ((t.totals .r1).iv, (t.slot 3).parcelNsv, t.toBank.get .r1, t.toEngine.get .r1) = (623, 613, [], none) := by decide

/-- Supply present and lost; the battery at each level. -/
theorem witness_SupplyIsLost : (after (exec .lossOfSupply loading)).retention = ⟨false, .normal, false, true⟩
    ∧ (after (exec (.retentionSupplyChange .low) unsupplied)).retention.lapse = false
    ∧ (after (exec (.retentionSupplyChange .lapsed) loading)).retention.lapse = false
    ∧ (after (exec (.retentionSupplyChange .lapsed) unsupplied)).retention.lapse = true := by
  refine ⟨by decide, by decide, by decide, rfl⟩

/-! ## Witnesses: the invariants -/

/-- A step that changes a checker, from a state whose checkers and calculators are in range. -/
theorem witness_RunBlocksStayInRange : loading.CheckersSound ∧ loading.CalculatorsSound := by
  constructor <;> intro r <;> cases r <;> constructor <;> decide

theorem witness_TablesStaySound : loading.TablesSound := by
  refine ⟨?_, ?_, ?_⟩
  · intro r; cases r <;> (unfold CurveSound; decide)
  · unfold Grade.Sound; decide
  · intro r h
    cases r
    · exact ⟨⟨30000, 1002150, true⟩, by decide, rfl⟩
    all_goals exact absurd h (by decide)

theorem witness_RecordsStayInForm : loading.LiveSound ∧ loading.NoticesSound := by
  constructor
  · intro l
    rcases l with ⟨r, q⟩ | _ | _
    · cases r <;> cases q <;> exact ⟨by decide, by decide, fun p r h => by cases p <;> cases h <;> decide⟩
    all_goals exact ⟨by decide, by decide, fun p r h => by cases p <;> cases h⟩
  · intro p k _; cases p <;> cases k <;> rfl

theorem witness_StationTotalsAreSums : bank57.Sound :=
  ⟨fun r => by cases r <;> (unfold RunTotals.inRange; decide), by decide, by decide, by decide, by decide⟩

theorem witness_RingStaysCoherent : loading.RingSound := loading_ringSound

/-- The pass in progress of 8.10. -/
theorem witness_ProveStaysCoherent : (proving .awaitEnd (pass (some 500030000) (some 520052140) 380) 1 0 []).prove.Sound := by
  refine ⟨by decide, by decide, by decide, ?_, ?_, by decide⟩
  · intro w h; cases h; decide
  · intro _; exact ⟨_, rfl, by decide, by decide, by decide⟩

theorem witness_ClaimsStayInForm : (proving .inPass (pass none none 0) 1 0 []).ClaimsSound :=
  ⟨witness_StationIsCleared.2.1.claims, fun _ => ⟨_, rfl, rfl, rfl, rfl⟩⟩

end Sys2Proof.Tests
end

/-! The period computation (2.4 to 2.7): what a close gathers, where its answers go, and the exactness of each stage. -/

namespace Sys2Proof.Machine

/-! ## Rounding and limiting -/

/-- Half-up is the nearest integer, a half going up (0.8), written without division. -/
theorem halfUp_nearest (n : Nat) {d : Nat} (hd : 0 < d) :
    2 * halfUp n d * d ≤ 2 * n + d ∧ 2 * n < (2 * halfUp n d + 1) * d := by
  have hlow : (2 * n + d) / (2 * d) * (2 * d) ≤ 2 * n + d := Nat.div_mul_le_self ..
  have hhigh : 2 * n + d < 2 * d * ((2 * n + d) / (2 * d) + 1) := Nat.lt_mul_div_succ _ (by omega)
  unfold halfUp
  constructor <;> linarith

theorem byFactor_nearest (x f : Nat) :
    2 * byFactor x f * 1000000 ≤ 2 * (x * f) + 1000000 ∧ 2 * (x * f) < (2 * byFactor x f + 1) * 1000000 :=
  halfUp_nearest (x * f) (d := Config.ppm) (by decide)

theorem limitPressure_cast (p : Int) : (limitPressure p : Int) = max 0 (min 15000 p) := by
  unfold limitPressure; omega

theorem cswOf_bounds (bsw : Nat) : 900000 ≤ cswOf bsw ∧ cswOf bsw ≤ 1000000 := by
  simp only [cswOf, Config.ppm]; omega

theorem periodFlow_of_zero (pulses kmilli : Nat) {tMs : Nat} (h : tMs = 0) : periodFlow pulses kmilli tMs = 0 := if_pos h

theorem periodFlow_of_ne_zero (pulses kmilli : Nat) {tMs : Nat} (h : tMs ≠ 0) :
    periodFlow pulses kmilli tMs = min 999999 (pulses * 36000000000 / (kmilli * tMs)) := if_neg h

/-! ## The stages of the computation: a quotient delivered and a residue carried -/

namespace PeriodInputs

variable (i : PeriodInputs)

/-- R25: no pulse is lost in the indicated volume. -/
theorem ivInc_exact (h : 0 < i.kmilli) :
    i.newRI < i.kmilli ∧ i.ivInc * i.kmilli + i.newRI = i.pulses * 1000000 + i.rI :=
  ⟨Nat.mod_lt _ h, Nat.div_add_mod' ..⟩

/-- R31: no pulse is lost in the reverse volume. -/
theorem revInc_exact (h : 0 < i.kmilli) :
    i.newRR < i.kmilli ∧ i.revInc * i.kmilli + i.newRR = i.reversePulses * 1000000 + i.rR :=
  ⟨Nat.mod_lt _ h, Nat.div_add_mod' ..⟩

/-- R29: no part of a litre is lost in GSV. -/
theorem gsvInc_exact : i.newRG < 1000000 ∧ i.gsvInc * 1000000 + i.newRG = i.ivInc * i.ccf + i.rG :=
  ⟨Nat.mod_lt _ (by decide), Nat.div_add_mod' ..⟩

/-- R29: a period without volume leaves a residue below one litre as it is. -/
theorem gsvInc_of_ivInc_zero (hiv : i.ivInc = 0) (hrG : i.rG < 1000000) : i.gsvInc = 0 ∧ i.newRG = i.rG := by
  obtain ⟨-, hsum⟩ := i.gsvInc_exact
  rw [hiv] at hsum
  omega

/-- R30: no part of a litre is lost in NSV. -/
theorem nsvInc_exact : i.newRN < 1000000 ∧ i.nsvInc * 1000000 + i.newRN = i.gsvInc * i.csw + i.rN :=
  ⟨Nat.mod_lt _ (by decide), Nat.div_add_mod' ..⟩

end PeriodInputs

/-! ## The grade of a destination (R54, R107) -/

theorem gradeOfDestination_none (s : State) : s.gradeOfDestination none = s.ring.standingGrade := rfl

theorem gradeOfDestination_some {s : State} {i : SlotId} {f : ControlForm} {g : GradeId} (hform : (s.slot i).form = some f)
    (hgrade : formGrade f = some g) : s.gradeOfDestination (some i) = g := by
  simp [State.gradeOfDestination, hform, hgrade]

/-! ## Selections -/

theorem select_value (l : LivePoint) (g : GradeId) (s : State) :
    (select l g s).1 = selectValue (s.liveItem l) (s.tolerance l) (s.limits (liveUnit l)).preferred
      (defaultValue (liveQuantity l) (s.grade g)) := rfl

theorem select_live (l : LivePoint) (g : GradeId) (s : State) :
    (select l g s).2.live
      = (s.setLiveItem l { s.liveItem l with record := (s.liveItem l).record.after (select l g s).1 }).live := by
  simp only [select]
  split <;> rfl

theorem liveItem_congr (l : LivePoint) {s t : State} (h : t.live = s.live) : t.liveItem l = s.liveItem l := by
  simp only [State.liveItem, h]

theorem tolerance_congr (l : LivePoint) {s t : State} (h : t.live = s.live) : t.tolerance l = s.tolerance l := by
  simp only [State.tolerance, h]

theorem limits_congr (u : UnitId) {s t : State} (h : t.live = s.live) : t.limits u = s.limits u := by
  simp only [State.limits, h]

theorem setLiveItem_live_congr (l : LivePoint) (x : LiveItem) {s t : State} (h : t.live = s.live) :
    (t.setLiveItem l x).live = (s.setLiveItem l x).live := by
  cases l with
  | run r q => cases q <;> simp only [State.setLiveItem, h]
  | proverTemp => simp only [State.setLiveItem, h]
  | proverPress => simp only [State.setLiveItem, h]

/-- A selection rests on the Live Value Table and the grades alone: what it answers, and what it leaves in the table. -/
theorem select_congr (l : LivePoint) (g : GradeId) {s t : State} (hlive : t.live = s.live) (hgrades : t.grades = s.grades) :
    (select l g t).1 = (select l g s).1 ∧ (select l g t).2.live = (select l g s).2.live := by
  have hvalue : (select l g t).1 = (select l g s).1 := by
    simp only [select_value, liveItem_congr l hlive, tolerance_congr l hlive, limits_congr _ hlive, State.grade, hgrades]
  refine ⟨hvalue, ?_⟩
  simp only [select_live, hvalue, liveItem_congr l hlive, setLiveItem_live_congr l _ hlive]

theorem select_grades (l : LivePoint) (g : GradeId) (s : State) : (select l g s).2.grades = s.grades := by
  obtain ⟨v, x, h⟩ := select_touches l g s
  rw [h]

/-! ## What a close gathers (R24) -/

section Gathered

variable (r : Run) (tMs : Nat) (restart : Bool) (s : State)

/-- The reverse counts enter the gathering as the reverse items alone. -/
theorem gatherPeriod_reverse (n m : Nat) :
    (gatherPeriod r tMs restart
        ((s.setChecker r { s.checker r with reverse := n }).setCalc r { s.calcOf r with rR := m })).1
      = { (gatherPeriod r tMs restart s).1 with reversePulses := n, rR := m } := by
  generalize hg : s.gradeOfDestination (s.calcOf r).target = g
  set s' := (s.setChecker r { s.checker r with reverse := n }).setCalc r { s.calcOf r with rR := m } with hs'
  have hg' : s'.gradeOfDestination (s.calcOf r).target = g := hg
  have hchecker : s'.checker r = { s.checker r with reverse := n } := by simp [hs']
  have hcalc : s'.calcOf r = { s.calcOf r with rR := m } := by simp [hs']
  obtain ⟨htemp, hlive⟩ := select_congr (.run r .temp) g (s := s) (t := s') rfl rfl
  obtain ⟨hpress, hlive'⟩ := select_congr (.run r .press) g hlive (by simp only [select_grades]; rfl)
  obtain ⟨hbsw, -⟩ := select_congr (.run r .bsw) g hlive' (by simp only [select_grades]; rfl)
  simp only [gatherPeriod, hchecker, hcalc, hg, hg', htemp, hpress, hbsw]
  rfl

/-! ## Where the answers of a close go -/

@[simp] theorem closePeriod_toEngine :
    (closePeriod r tMs restart s).toEngine.get r = some (gatherPeriod r tMs restart s).1.arrival :=
  PerRun.get_set_self ..

@[simp] theorem closePeriod_toBank :
    (closePeriod r tMs restart s).toBank.get r = s.toBank.get r ++ [(gatherPeriod r tMs restart s).1.arrival] := by
  obtain ⟨v, x, h⟩ := closePeriod_touches r tMs restart s
  rw [h]
  exact PerRun.get_set_self ..

@[simp] theorem closePeriod_calcOf :
    (closePeriod r tMs restart s).calcOf r = (gatherPeriod r tMs restart s).1.calculatorAfter (s.calcOf r) :=
  setCalc_self ..

end Gathered

/-! ## The period's statements -/

/-- Settles O16: the stages' quotients and residues are exact, and a close with other reverse counts gathers the same but for
the reverse items. -/
theorem indicatedVolumeAndFlow : Obligations.IndicatedVolumeAndFlow := by
  intro r tMs restart s hk
  simp only [closePeriod_toEngine, closePeriod_calcOf, gatherPeriod_reverse]
  obtain ⟨hrI, hiv⟩ := (gatherPeriod r tMs restart s).1.ivInc_exact hk
  obtain ⟨hrR, hrev⟩ := (gatherPeriod r tMs restart s).1.revInc_exact hk
  have hstopped (h : tMs = 0) := periodFlow_of_zero (s.checker r).accepted (s.calcOf r).kmilli h
  have hflow (h : tMs ≠ 0) := periodFlow_of_ne_zero (s.checker r).accepted (s.calcOf r).kmilli h
  refine ⟨_, _, rfl, rfl, rfl, rfl, rfl, rfl, hrI, hiv, hstopped, ?flow, ?cappedFlow, rfl, rfl, hrR, hrev,
    fun n m => ⟨_, rfl, rfl, rfl, rfl, rfl⟩⟩
  case flow => exact fun h hle => (hflow h).trans (min_eq_right hle)
  case cappedFlow => exact fun h hlt => (hflow h).trans (min_eq_left hlt.le)

/-- Settles O17: the record and the arrival give what the close gathered, at the grade of the destination; each
factor is the nearest integer, and what each division leaves is carried. -/
theorem periodStagesAreExact : Obligations.PeriodStagesAreExact := by
  refine ⟨?selections, ?factor, ?volumes⟩ <;> intro r tMs restart s <;>
    simp only [closePeriod_toEngine, closePeriod_toBank, closePeriod_calcOf]
  case selections =>
    refine ⟨_, _, s.gradeOfDestination (s.calcOf r).target, rfl, rfl, rfl, rfl, ?standing, ?ofForm, rfl, rfl,
      limitPressure_cast _, rfl, (Int.ofNat_toNat _).trans (max_comm ..), rfl, rfl, rfl, rfl, rfl, rfl, rfl, rfl, rfl, rfl,
      rfl⟩
    case standing => exact fun h => by rw [h, gradeOfDestination_none]
    case ofForm => exact fun i f x h hform hgrade => by rw [h, gradeOfDestination_some hform hgrade]
  case factor =>
    exact ⟨_, _, _, _, rfl, rfl, byFactor_nearest .., byFactor_nearest .., rfl, rfl, rfl, rfl, rfl⟩
  case volumes =>
    set i := (gatherPeriod r tMs restart s).1
    obtain ⟨hrG, hgsv⟩ := i.gsvInc_exact
    obtain ⟨hrN, hnsv⟩ := i.nsvInc_exact
    obtain ⟨hcswLow, hcswHigh⟩ := cswOf_bounds i.water
    exact ⟨_, _, rfl, rfl, rfl, rfl, rfl, rfl, rfl, rfl, rfl, hrG, hgsv, i.gsvInc_of_ivInc_zero, rfl, hcswLow, hcswHigh, rfl,
      hrN, hnsv⟩

end Sys2Proof.Machine

/-! Selections of the Live Value Table (4.4): what is chosen from F, what an empty F gives, and what a selection leaves behind. -/

namespace Sys2Proof.Machine

/-! ## The fresh and good slots (R59) -/

/-- F lists the ports whose slot is fresh and good. -/
theorem LiveItem.mem_f {x : LiveItem} {p : Port} {v : Int} : (p, v) ∈ x.f ↔ freshGood (x.slots.get p) = some v := by
  have hport : p ∈ ports := by cases p <;> decide
  constructor
  · intro h
    obtain ⟨q, -, hq⟩ := List.mem_filterMap.mp h
    obtain ⟨w, hw, heq⟩ := Option.map_eq_some_iff.mp hq
    cases heq
    exact hw
  · intro h
    exact List.mem_filterMap.mpr ⟨p, hport, Option.map_eq_some_iff.mpr ⟨v, h, rfl⟩⟩

/-- F holds each port at most once. -/
theorem LiveItem.f_functional {x : LiveItem} {p : Port} {v w : Int} (hv : (p, v) ∈ x.f) (hw : (p, w) ∈ x.f) : v = w :=
  Option.some.inj ((mem_f.mp hv).symm.trans (mem_f.mp hw))

/-! ## The spread (R68) -/

/-- The largest less the smallest is within a bound exactly when every difference is. -/
theorem spread_le_iff {vs : List Int} {tol : Int} (hne : vs ≠ []) :
    spread vs ≤ tol ↔ ∀ a ∈ vs, ∀ b ∈ vs, a - b ≤ tol := by
  obtain ⟨v, rest, rfl⟩ := List.exists_cons_of_ne_nil hne
  obtain ⟨hmax, hle⟩ := List.max?_eq_some_iff.mp (List.max?_cons' (x := v) (xs := rest))
  obtain ⟨hmin, hge⟩ := List.min?_eq_some_iff.mp (List.min?_cons' (x := v) (xs := rest))
  constructor
  · intro h a ha b hb
    calc a - b ≤ rest.foldl max v - rest.foldl min v := sub_le_sub (hle a ha) (hge b hb)
      _ ≤ tol := h
  · exact fun h => h _ hmax _ hmin

theorem spread_map_le_iff {f : List (Port × Int)} {tol : Int} (hlen : 2 ≤ f.length) :
    spread (f.map (·.2)) ≤ tol ↔ ∀ a ∈ f, ∀ b ∈ f, a.2 - b.2 ≤ tol := by
  have hne : f.map (·.2) ≠ [] := List.ne_nil_of_length_pos (by rw [List.length_map]; omega)
  simp only [spread_le_iff hne, List.forall_mem_map]

/-! ## The choice from F (R68) -/

section Choice

variable {f : List (Port × Int)} {first : Port × Int} {tol : Nat} {preferred : Port}

theorem chooseFrom_single : chooseFrom [first] first tol preferred = ⟨first.2, .single⟩ := rfl

/-- Two or three values agree when no two of them are further apart than the tolerance. -/
theorem chooseFrom_agreed (hlen : 2 ≤ f.length) (hnear : ∀ a ∈ f, ∀ b ∈ f, a.2 - b.2 ≤ (tol : Int)) :
    chooseFrom f first tol preferred = ⟨halfAway (f.map (·.2)).sum f.length, .agreed⟩ := by
  rw [chooseFrom, if_neg (by omega), if_pos ((spread_map_le_iff hlen).mpr hnear)]

/-- Values too far apart disagree: that of the first entry of the preferred port stands, or else the first of all. -/
theorem chooseFrom_disagree (hlen : 2 ≤ f.length) (hfar : ¬ ∀ a ∈ f, ∀ b ∈ f, a.2 - b.2 ≤ (tol : Int)) :
    chooseFrom f first tol preferred
      = ⟨((f.find? (fun x => decide (x.1 = preferred))).getD first).2, .disagree⟩ := by
  rw [chooseFrom, if_neg (by omega), if_neg (mt (spread_map_le_iff hlen).mp hfar)]
  cases f.find? (fun x => decide (x.1 = preferred)) <;> rfl

end Choice

/-! ## The value and status of a selection (R67, R68) -/

section Value

variable {x : LiveItem} {tol : Nat} {preferred : Port} {dflt : Int}

theorem selectValue_default (hf : x.f = []) (hlast : x.record.lastValue = none) :
    selectValue x tol preferred dflt = ⟨dflt, .dflt⟩ := by
  simp only [selectValue, hf, hlast]

theorem selectValue_held {v : Int} (hf : x.f = []) (hlast : x.record.lastValue = some v) (hsupply : x.record.supply ≠ .lapsed) :
    selectValue x tol preferred dflt = ⟨v, .held⟩ := by
  simp only [selectValue, hf, hlast, if_neg hsupply]

theorem selectValue_failed {v : Int} (hf : x.f = []) (hlast : x.record.lastValue = some v) (hsupply : x.record.supply = .lapsed) :
    selectValue x tol preferred dflt = ⟨v, .failed⟩ := by
  simp only [selectValue, hf, hlast, if_pos hsupply]

theorem selectValue_single {a : Port × Int} (hf : x.f = [a]) : selectValue x tol preferred dflt = ⟨a.2, .single⟩ := by
  simp only [selectValue, hf, chooseFrom_single]

theorem selectValue_of_head {a : Port × Int} (hf : x.f.head? = some a) :
    selectValue x tol preferred dflt = chooseFrom x.f a tol preferred := by
  obtain ⟨rest, hcons⟩ := List.head?_eq_some_iff.mp hf
  simp only [selectValue, hcons]

theorem LiveItem.exists_head {x : LiveItem} (hlen : 2 ≤ x.f.length) : ∃ a, x.f.head? = some a :=
  Option.isSome_iff_exists.mp (List.isSome_head?.mpr (List.ne_nil_of_length_pos (by omega)))

theorem selectValue_agreed (hlen : 2 ≤ x.f.length) (hnear : ∀ a ∈ x.f, ∀ b ∈ x.f, a.2 - b.2 ≤ (tol : Int)) :
    selectValue x tol preferred dflt = ⟨halfAway (x.f.map (·.2)).sum x.f.length, .agreed⟩ := by
  obtain ⟨a, ha⟩ := LiveItem.exists_head hlen
  rw [selectValue_of_head ha, chooseFrom_agreed hlen hnear]

/-- In DISAGREE the preferred port's value stands where the port is in F, and the lowest-numbered port's otherwise. -/
theorem selectValue_disagree (hlen : 2 ≤ x.f.length) (hfar : ¬ ∀ a ∈ x.f, ∀ b ∈ x.f, a.2 - b.2 ≤ (tol : Int)) :
    (selectValue x tol preferred dflt).status = .disagree
      ∧ (∀ v, (preferred, v) ∈ x.f → (selectValue x tol preferred dflt).value = v)
      ∧ ((∀ v, (preferred, v) ∉ x.f) → x.f.head?.map (·.2) = some (selectValue x tol preferred dflt).value) := by
  obtain ⟨a, ha⟩ := LiveItem.exists_head hlen
  rw [selectValue_of_head ha, chooseFrom_disagree hlen hfar]
  cases hfind : x.f.find? (fun y => decide (y.1 = preferred)) with
  | none =>
    refine ⟨rfl, fun v hv => absurd (List.find?_eq_none.mp hfind _ hv) (by simp), fun _ => ?_⟩
    rw [ha]
    rfl
  | some y =>
    obtain ⟨q, w⟩ := y
    have hmem := List.mem_of_find?_eq_some hfind
    obtain rfl : q = preferred := by simpa using List.find?_some hfind
    exact ⟨rfl, fun v hv => LiveItem.f_functional hmem hv, fun habsent => absurd hmem (habsent w)⟩

end Value

/-! ## What a selection leaves behind (R68, R69) -/

/-- The record takes the status of every selection, and the value of one that rests on reports. -/
theorem SelRecord.after_eq (r : SelRecord) (sel : Selected) :
    r.after sel = { r with
      lastStatus := some sel.status
      lastValue := if sel.status = .single ∨ sel.status = .agreed ∨ sel.status = .disagree then some sel.value
        else r.lastValue } := by
  obtain ⟨v, st⟩ := sel
  cases st <;> rfl

@[simp] theorem setLiveItem_self (l : LivePoint) (x : LiveItem) (s : State) : (s.setLiveItem l x).liveItem l = x := by
  cases l with
  | run r q => cases q <;> simp [State.setLiveItem, State.liveItem]
  | proverTemp => rfl
  | proverPress => rfl

theorem select_liveItem (l : LivePoint) (g : GradeId) (s : State) :
    (select l g s).2.liveItem l = { s.liveItem l with record := (s.liveItem l).record.after (select l g s).1 } := by
  rw [liveItem_congr l (select_live l g s), setLiveItem_self]

theorem select_slots (l : LivePoint) (g : GradeId) (s : State) :
    ((select l g s).2.liveItem l).slots = (s.liveItem l).slots := by
  rw [select_liveItem]

theorem select_record (l : LivePoint) (g : GradeId) (s : State) :
    ((select l g s).2.liveItem l).record = (s.liveItem l).record.after (select l g s).1 := by
  rw [select_liveItem]

/-- LIVE_DISAGREE is posted on entry into DISAGREE, and nothing else reaches a link. -/
theorem select_links (l : LivePoint) (g : GradeId) (s : State) :
    (select l g s).2.links
      = if (select l g s).1.status = .disagree ∧ (s.liveItem l).record.lastStatus ≠ some .disagree then
          (s.postAll .liveDisagree (unitBit (liveUnit l))).links
        else s.links := by
  rw [select_value]
  simp only [select]
  generalize selectValue _ _ _ _ = sel
  obtain ⟨v, hset⟩ := setLiveItem_touches l { s.liveItem l with record := (s.liveItem l).record.after sel } s
  rw [hset]
  split <;> rfl

/-- Settles O30: the tables of R67 and R68 by the form of F, then the record, the slots and the notice. -/
theorem selectionChooses : Obligations.SelectionChooses := by
  intro l g s
  refine ⟨?absent, ?holding, ?lapsed, ?one, ?near, ?far, select_slots l g s, ?record, select_links l g s⟩
  case absent => exact fun hf hlast => selectValue_default hf hlast
  case holding => exact fun v hf hlast hsupply => selectValue_held hf hlast (by simp [hsupply])
  case lapsed => exact fun v hf hlast hsupply => selectValue_failed hf hlast hsupply
  case one => exact fun a hf => selectValue_single hf
  case near => exact fun hlen hnear => selectValue_agreed hlen hnear
  case far => exact fun hlen hfar => selectValue_disagree hlen hfar
  case record => exact (select_record l g s).trans (SelRecord.after_eq ..)

end Sys2Proof.Machine

/-! Discarding a result (8.9): what the checks of a request on a run answer, and DISCARD PROVE with the requests after it. -/

namespace Sys2Proof.Machine

/-! ## Requests on a run that only its holder may have carried out (R154) -/

theorem holds_iff (p : Port) (u : UnitId) (s : State) : s.holds p u = true ↔ (s.claim u).holder = some p := by
  simp [State.holds]

section RunRequest
variable {p : Port} {kind unit : Nat} {s : State} {act : State → Run → Reply}

/-- A unit field of no run is refused with RANGE. -/
theorem serve_run_range (hsup : s.retention.supplied = true) (hrun : runOf unit = none) :
    serve p kind (namedUnits unit) (fun s => withRun unit s fun r => asHolder p (.run r) s (act s r)) s
      = .next (answered p .range kind .empty (renewed p (namedUnits unit) s)) := by
  simp [serve_supplied hsup, withRun, hrun, refuse]

/-- A port that does not hold the run renews nothing, joins its waiting list and is shown its claim record. -/
theorem serve_run_notHolder {r : Run} (hsup : s.retention.supplied = true) (hrun : runOf unit = some r)
    (hheld : s.holds p (.run r) = false) :
    serve p kind (namedUnits unit) (fun s => withRun unit s fun r => asHolder p (.run r) s (act s r)) s
      = .next (answered p .notHolder kind (.claims [(queuePort p s (.run r)).claimView (.run r)])
          (queuePort p s (.run r))) := by
  have hrenewed : renewed p (namedUnits unit) s = s := by
    rw [namedUnits_of_runOf hrun, renewed_cons, renew_of_not_holder hheld, renewed_nil]
  simp [serve_supplied hsup, hrenewed, withRun, hrun, asHolder, hheld, notHolder]

/-- The holder's request is carried out on the renewed state. -/
theorem serve_run_holder {r : Run} (hsup : s.retention.supplied = true) (hrun : runOf unit = some r)
    (hheld : s.holds p (.run r) = true) :
    serve p kind (namedUnits unit) (fun s => withRun unit s fun r => asHolder p (.run r) s (act s r)) s
      = .next (answered p (act (renewed p (namedUnits unit) s) r).status kind (act (renewed p (namedUnits unit) s) r).body
          (act (renewed p (namedUnits unit) s) r).state) := by
  simp [serve_supplied hsup, withRun, hrun, asHolder, hheld]

end RunRequest

/-! ## ACCEPT PROVE and DISCARD PROVE -/

theorem exec_discardProve (p : Port) (unit : Nat) (s : State) :
    exec (.discardProve p unit) s = execDiscardProve p unit s := rfl

theorem exec_acceptProve (p : Port) (unit : Nat) (force : Bool) (s : State) :
    exec (.acceptProve p unit force) s = execAcceptProve p unit force s := rfl

/-- DISCARD PROVE of a unit field of no run is refused with RANGE. -/
theorem exec_discardProve_range {p : Port} {unit : Nat} {s : State} (hsup : s.retention.supplied = true)
    (hrun : runOf unit = none) :
    exec (.discardProve p unit) s = .next (answered p .range 31 .empty (renewed p (namedUnits unit) s)) := by
  rw [exec_discardProve, execDiscardProve, serve_run_range hsup hrun]

/-- DISCARD PROVE of a port that does not hold the run: it joins the waiting list (R154). -/
theorem exec_discardProve_notHolder {p : Port} {unit : Nat} {r : Run} {s : State} (hsup : s.retention.supplied = true)
    (hrun : runOf unit = some r) (hheld : s.holds p (.run r) = false) :
    exec (.discardProve p unit) s = .next (answered p .notHolder 31
      (.claims [(queuePort p s (.run r)).claimView (.run r)]) (queuePort p s (.run r))) := by
  rw [exec_discardProve, execDiscardProve, serve_run_notHolder hsup hrun hheld]

section OfHolder
variable {p : Port} {unit : Nat} {r : Run} {s : State} (hsup : s.retention.supplied = true) (hrun : runOf unit = some r)
  (hheld : s.holds p (.run r) = true)
include hsup hrun hheld

/-- A COMPLETE result of the run becomes DISCARDED (R151). -/
theorem exec_discardProve_complete (hmine : s.prove.result.state = .complete ∧ s.provedRun = some r) :
    exec (.discardProve p unit) s = .next (answered p .ok 31 .empty
      ((renewed p (namedUnits unit) s).setResult { s.prove.result with state := .discarded })) := by
  rw [exec_discardProve, execDiscardProve, serve_run_holder hsup hrun hheld]
  simp [hmine, okReply]

/-- Without a COMPLETE result of the run, DISCARD PROVE is refused with STATE (R151). -/
theorem exec_discardProve_state (hnone : ¬ (s.prove.result.state = .complete ∧ s.provedRun = some r)) :
    exec (.discardProve p unit) s = .next (answered p .state 31 .empty (renewed p (namedUnits unit) s)) := by
  rw [exec_discardProve, execDiscardProve, serve_run_holder hsup hrun hheld]
  simp [hnone, refuse]

/-- Without a COMPLETE result of the run, ACCEPT PROVE is refused with STATE, forced or not (check 3 of R149). -/
theorem exec_acceptProve_state (force : Bool) (hnone : ¬ (s.prove.result.state = .complete ∧ s.provedRun = some r)) :
    exec (.acceptProve p unit force) s = .next (answered p .state 30 .empty (renewed p (namedUnits unit) s)) := by
  rw [exec_acceptProve, execAcceptProve, serve_run_holder hsup hrun hheld]
  simp [completeFor, hnone, refuse]

end OfHolder

/-- Settles O47: R151's checks in their order, then the two later requests, which find the result DISCARDED and so not COMPLETE. -/
theorem resultIsDiscarded : Obligations.ResultIsDiscarded := by
  intro p unit s hsup
  refine ⟨fun hrun => exec_discardProve_range hsup hrun, fun r hrun => ⟨?notHolder, ?state, ?discarded⟩⟩
  case notHolder =>
    intro hother
    have hheld : s.holds p (.run r) = false := by simpa [State.holds] using hother
    rw [← queuePort_eq p s (.run r) hheld]
    exact ⟨_, exec_discardProve_notHolder hsup hrun hheld⟩
  case state =>
    exact fun hheld hnone => exec_discardProve_state hsup hrun ((holds_iff ..).mpr hheld) hnone
  case discarded =>
    intro hholder hmine
    have hheld : s.holds p (.run r) = true := (holds_iff ..).mpr hholder
    refine ⟨_, exec_discardProve_complete hsup hrun hheld hmine, rfl, ?_⟩
    set t := answered p .ok 31 .empty
      ((renewed p (namedUnits unit) s).setResult { s.prove.result with state := .discarded })
    have hsup' : t.retention.supplied = true := by simpa [t, answered] using hsup
    have hheld' : t.holds p (.run r) = true := (renewed_holds ..).trans hheld
    have hnone : ¬ (t.prove.result.state = .complete ∧ t.provedRun = some r) := by simp [t, answered]
    exact ⟨exec_discardProve_state hsup' hrun hheld' hnone, fun force => exec_acceptProve_state hsup' hrun hheld' force hnone⟩

end Sys2Proof.Machine

/-! Frames: the items of the state that each command can change. Every statement about a command that leaves something alone,
and every invariant about one part of the state, cites the table `acts`. -/

namespace Sys2Proof.Machine

/-- The items of the state. -/
inductive Item where
  | checkers | calcs | curves | grades | live | bank | retention | ring | prove | claims | links | terminalTime | clockWait
  | toBank | toEngine | pending | freeCount
deriving DecidableEq

/-- Every item but the queue. -/
def partItems : List Item :=
  [.checkers, .calcs, .curves, .grades, .live, .bank, .retention, .ring, .prove, .claims, .links, .terminalTime, .clockWait,
    .toBank, .toEngine, .freeCount]

/-! ## What a command can change -/

/-- The items of the state that an event, or the block that takes a request, can change. -/
def acts : Instr → List Item
  | .setService .. => [.claims, .links, .checkers, .calcs, .live, .bank, .ring, .prove, .toBank, .toEngine]
  | .setPeriod .. => [.calcs]
  | .setKFactor .. => [.links, .calcs, .ring, .toEngine]
  | .setSecurity .. => [.checkers]
  | .clearRunFault .. => [.checkers, .live]
  | .readRun .. => []
  | .addPoint .. => [.curves]
  | .changePoint .. => [.curves]
  | .removePoint .. => [.curves]
  | .readCurve .. => []
  | .loadGrade .. => [.grades]
  | .readGrade .. => []
  | .reportLive .. => [.live]
  | .setLiveLimits .. => [.live]
  | .readLive .. => []
  | .readTotals .. => []
  | .reserveSlot .. => [.ring]
  | .writeSlot .. => [.ring]
  | .armSlot .. => [.links, .ring, .calcs]
  | .cancelSlot .. => [.links, .ring, .calcs]
  | .readSlot .. => []
  | .releaseHold .. => [.links, .ring, .calcs]
  | .resumeLoading .. => [.ring]
  | .cutParcel .. => [.links, .ring, .calcs]
  | .readTicket .. => [.ring]
  | .setProver .. => [.prove]
  | .startProve .. => [.claims, .prove]
  | .abortProve .. => [.claims, .links, .prove]
  | .readProve .. => []
  | .acceptProve .. => [.prove, .curves]
  | .discardProve .. => [.prove]
  | .claim .. => [.claims]
  | .release .. => [.claims, .links, .prove]
  | .setPortMode .. => [.links]
  | .readNotices .. => []
  | .ackNotices .. => [.links]
  | .stationClear .. => [.claims, .links, .ring, .calcs, .prove]
  | .setTime .. => [.terminalTime, .clockWait]
  | .responseReadout .. => [.links]
  | .risingEdge .. => [.claims, .links, .checkers, .bank, .prove, .live, .clockWait]
  | .detectorActuation .. => [.claims, .links, .prove, .live, .clockWait]
  | .passTimerExpiry => [.claims, .links, .prove]
  | .periodExpiry .. => [.ring, .calcs, .links, .live, .checkers, .toBank, .toEngine]
  | .incrementArrivalAtBank .. => [.bank, .toBank]
  | .incrementArrivalAtEngine .. => [.ring, .calcs, .links, .toEngine]
  | .freshnessTimerExpiry .. => [.live]
  | .liveHoldTimerExpiry .. => [.live, .links]
  | .holdTimerExpiry .. => [.claims, .links]
  | .terminalTimeAdvance => [.terminalTime]
  | .partStart .. => partItems
  | .lossOfSupply => [.ring, .calcs, .links, .toEngine, .bank, .toBank, .retention, .freeCount]
  | .retentionSupplyChange .. => [.retention, .freeCount]
  | .periodTimerAdvance .. => [.calcs]
  | .refusedRequestFrame .. => partItems

/-- An item stands in both states alike. -/
def Same : Item → State → State → Prop
  | .checkers, s, t => t.checkers = s.checkers
  | .calcs, s, t => t.calcs = s.calcs
  | .curves, s, t => t.curves = s.curves
  | .grades, s, t => t.grades = s.grades
  | .live, s, t => t.live = s.live
  | .bank, s, t => t.bank = s.bank
  | .retention, s, t => t.retention = s.retention
  | .ring, s, t => t.ring = s.ring
  | .prove, s, t => t.prove = s.prove
  | .claims, s, t => t.claims = s.claims
  | .links, s, t => t.links = s.links
  | .terminalTime, s, t => t.terminalTime = s.terminalTime
  | .clockWait, s, t => t.clockWait = s.clockWait
  | .toBank, s, t => t.toBank = s.toBank
  | .toEngine, s, t => t.toEngine = s.toEngine
  | .pending, s, t => t.pending = s.pending
  | .freeCount, s, t => t.freeCount = s.freeCount

/-- The two states differ in the listed items alone. -/
structure Frame (xs : List Item) (s t : State) : Prop where
  same : ∀ x, x ∉ xs → Same x s t

theorem Same.refl (x : Item) (s : State) : Same x s s := by cases x <;> rfl

theorem Same.trans {x : Item} {s t u : State} (h : Same x s t) (k : Same x t u) : Same x s u := by
  cases x <;> exact Eq.trans k h

namespace Frame

variable {xs ys : List Item} {s t u : State}

theorem refl (xs : List Item) (s : State) : Frame xs s s := ⟨fun x _ => Same.refl x s⟩

theorem trans (h : Frame xs s t) (k : Frame xs t u) : Frame xs s u :=
  ⟨fun x hx => (h.same x hx).trans (k.same x hx)⟩

theorem mono (h : Frame xs s t) (hsub : xs ⊆ ys) : Frame ys s t :=
  ⟨fun x hx => h.same x (fun hm => hx (hsub hm))⟩

/-- A further change within the list. -/
theorem andThen (h : Frame xs s t) (k : Frame ys t u) (hsub : ys ⊆ xs) : Frame xs s u := h.trans (k.mono hsub)

theorem ite {c : Prop} [Decidable c] (h : c → Frame xs s t) (k : ¬ c → Frame xs s u) :
    Frame xs s (if c then t else u) := by
  split
  · exact h ‹_›
  · exact k ‹_›

end Frame

/-! ## The operations -/

section Operations

variable (s : State)

theorem setChecker_frame (r : Run) (c : Checker) : Frame [.checkers] s (s.setChecker r c) := by
  exact ⟨fun x hx => by cases x <;> first | rfl | simp at hx⟩

theorem setCalc_frame (r : Run) (k : Calculator) : Frame [.calcs] s (s.setCalc r k) := by
  exact ⟨fun x hx => by cases x <;> first | rfl | simp at hx⟩

theorem setCurve_frame (r : Run) (c : List CurvePoint) : Frame [.curves] s (s.setCurve r c) := by
  exact ⟨fun x hx => by cases x <;> first | rfl | simp at hx⟩

theorem setGrade_frame (g : GradeId) (y : Grade) : Frame [.grades] s (s.setGrade g y) := by
  exact ⟨fun x hx => by cases x <;> first | rfl | simp at hx⟩

theorem live_frame (l : Live) : Frame [.live] s { s with live := l } := by
  exact ⟨fun x hx => by cases x <;> first | rfl | simp at hx⟩

theorem ring_frame (g : Ring) : Frame [.ring] s { s with ring := g } := by
  exact ⟨fun x hx => by cases x <;> first | rfl | simp at hx⟩

theorem prove_frame (p : Prove) : Frame [.prove] s { s with prove := p } := by
  exact ⟨fun x hx => by cases x <;> first | rfl | simp at hx⟩

theorem claims_frame (c : PerUnit Claim) : Frame [.claims] s { s with claims := c } := by
  exact ⟨fun x hx => by cases x <;> first | rfl | simp at hx⟩

theorem links_frame (l : PerPort Link) : Frame [.links] s { s with links := l } := by
  exact ⟨fun x hx => by cases x <;> first | rfl | simp at hx⟩

theorem bank_frame (b : Bank) (q : PerRun (List Arrival)) : Frame [.bank, .toBank] s { s with bank := b, toBank := q } := by
  exact ⟨fun x hx => by cases x <;> first | rfl | simp at hx⟩

theorem clock_frame (n : Nat) (w : Option Nat) :
    Frame [.terminalTime, .clockWait] s { s with terminalTime := n, clockWait := w } := by
  exact ⟨fun x hx => by cases x <;> first | rfl | simp at hx⟩

theorem retention_frame (y : Retention) (n : Nat) :
    Frame [.retention, .freeCount] s { s with retention := y, freeCount := n } := by
  exact ⟨fun x hx => by cases x <;> first | rfl | simp at hx⟩

theorem elapse_frame (n : Nat) : Frame [.prove, .live, .claims, .clockWait] s (s.elapse n) := by
  exact ⟨fun x hx => by cases x <;> first | rfl | simp at hx⟩

theorem renewed_frame (p : Port) (us : List UnitId) : Frame [.claims] s (renewed p us s) := by
  obtain ⟨c, h⟩ := renewed_claims p us s
  rw [h]; exact claims_frame s c

theorem queuePort_frame (p : Port) (u : UnitId) : Frame [.claims] s (queuePort p s u) := by
  obtain ⟨c, h⟩ := queuePort_touches p u s
  rw [h]; exact claims_frame s c

theorem handover_frame (u : UnitId) : Frame [.claims, .links] s (handover s u) := by
  obtain ⟨c, l, h⟩ := handover_touches u s
  rw [h]; exact ⟨fun x hx => by cases x <;> first | rfl | simp at hx⟩

theorem ring_calcs_frame {t : State} (h : ∃ g c l, t = { s with ring := g, calcs := c, links := l }) :
    Frame [.ring, .calcs, .links] s t := by
  obtain ⟨g, c, l, rfl⟩ := h
  exact ⟨fun x hx => by cases x <;> first | rfl | simp at hx⟩

theorem takeAtEngine_frame (r : Run) : Frame [.ring, .calcs, .links, .toEngine] s (takeAtEngine r s) := by
  obtain ⟨g, c, l, h⟩ := takeAtEngine_touches r s
  rw [h]; exact ⟨fun x hx => by cases x <;> first | rfl | simp at hx⟩

theorem takeArrivals_frame (r : Run) :
    Frame [.ring, .calcs, .links, .toEngine, .bank, .toBank] s (takeArrivals r s) := by
  obtain ⟨g, c, l, b, h⟩ := takeArrivals_touches r s
  rw [h]; exact ⟨fun x hx => by cases x <;> first | rfl | simp at hx⟩

theorem settleArrivals_frame : Frame [.ring, .calcs, .links, .toEngine, .bank, .toBank] s (settleArrivals s) := by
  obtain ⟨g, c, l, b, h⟩ := settleArrivals_touches s
  rw [h]; exact ⟨fun x hx => by cases x <;> first | rfl | simp at hx⟩

theorem closePeriod_frame (r : Run) (tMs : Nat) (restart : Bool) :
    Frame [.live, .links, .calcs, .checkers, .toBank, .toEngine] s (closePeriod r tMs restart s) := by
  obtain ⟨v, l, h⟩ := closePeriod_touches r tMs restart s
  rw [h]; exact ⟨fun x hx => by cases x <;> first | rfl | simp at hx⟩

variable {s}

theorem ProveChange.frame {t : State} (h : ProveChange s t) : Frame [.prove, .claims, .links] s t := by
  obtain ⟨p, c, l, rfl⟩ := h
  exact ⟨fun x hx => by cases x <;> first | rfl | simp at hx⟩

theorem ProveLiveChange.frame {t : State} (h : ProveLiveChange s t) : Frame [.prove, .claims, .links, .live] s t := by
  obtain ⟨p, c, l, v, rfl⟩ := h
  exact ⟨fun x hx => by cases x <;> first | rfl | simp at hx⟩

theorem checkers_frame {t : State} {xs : List Item} (h : Frame xs s t) (c : PerRun Checker) :
    Frame (.checkers :: xs) s { t with checkers := c } := by
  refine ⟨fun x hx => ?_⟩
  simp only [List.mem_cons, not_or] at hx
  cases x <;> first | exact h.same _ hx.2 | simp at hx

end Operations

/-! ## Compositions of operations -/

theorem applyPendingK_frame (r : Run) (s : State) : Frame [.calcs] s (applyPendingK r s) := by
  unfold applyPendingK
  split
  · exact .refl ..
  · exact setCalc_frame ..

theorem closeIfOwing_frame (r : Run) (s : State) : Frame [.ring, .calcs, .links] s (closeIfOwing r s) := by
  unfold closeIfOwing
  split
  · exact .refl ..
  · exact .ite (fun _ => ring_calcs_frame s (closePortion_touches r s)) (fun _ => .refl ..)

theorem abortIf_frame (b : Bool) (reason : ProveReason) (s : State) :
    Frame [.prove, .claims, .links] s (abortIf b reason s) := (abortIf_touches b reason s).frame

theorem takeOffline_frame (r : Run) (s : State) : Frame [.calcs, .checkers] s (takeOffline r s) :=
  ((setCalc_frame ..).mono (by decide)).andThen (setChecker_frame ..) (by decide)

theorem goOffline_frame (r : Run) (s : State) :
    Frame [.checkers, .calcs, .live, .bank, .ring, .prove, .claims, .links, .toBank, .toEngine] s (goOffline r s) := by
  unfold goOffline
  have h1 := (takeAtEngine_frame s r).mono (ys := [.checkers, .calcs, .live, .bank, .ring, .prove, .claims, .links, .toBank,
    .toEngine]) (by decide)
  have h2 := h1.andThen (closePeriod_frame (takeAtEngine r s) r ((takeAtEngine r s).calcOf r).elapsed false) (by decide)
  have h3 := h2.andThen (takeArrivals_frame _ r) (by decide)
  have h4 := h3.andThen (closeIfOwing_frame r _) (by decide)
  exact ((h4.andThen (abortIf_frame _ _ _) (by decide)).andThen (applyPendingK_frame r _) (by decide)).andThen
    (takeOffline_frame r _) (by decide)

theorem goOnline_frame (r : Run) (s : State) : Frame [.checkers, .calcs] s (goOnline r s) :=
  ((setCalc_frame ..).mono (by decide)).andThen (setChecker_frame ..) (by decide)

theorem onlineEdge_frame (r : Run) (c : Channel) (high : Bool) (s : State) :
    Frame [.checkers, .prove, .claims, .links, .live] s (onlineEdge r c high s) := by
  have hpulse (t : State) : Frame [.checkers, .prove, .claims, .links, .live] t (countPulse r t) := by
    obtain ⟨u, hu, h⟩ := countPulse_touches r t
    rw [h]; exact checkers_frame hu.frame _
  have hmissing (ch : Channel) (t : State) : Frame [.checkers, .prove, .claims, .links, .live] t (countMissing r ch t) := by
    obtain ⟨u, k, hu, h⟩ := countMissing_touches r ch t
    rw [h]; exact checkers_frame hu.frame _
  have hreverse (t : State) : Frame [.checkers, .prove, .claims, .links, .live] t (countReverse r t) := by
    obtain ⟨u, k, hu, h⟩ := countReverse_touches r t
    rw [h]; exact checkers_frame hu.frame _
  have hitem (i : EdgeItem) (t : State) : Frame [.checkers, .prove, .claims, .links, .live] t (countItem r i t) := by
    cases i with
    | nothing => exact .refl ..
    | forward => exact hpulse t
    | forwardMissingA => exact (hmissing .a t).trans (hpulse _)
    | forwardMissingB => exact (hmissing .b t).trans (hpulse _)
    | reversePulse => exact hreverse t
  exact ((setChecker_frame ..).mono (by decide)).trans (hitem _ _)

theorem offlineEdge_frame (r : Run) (c : Channel) (s : State) : Frame [.checkers, .bank] s (offlineEdge r c s) := by
  cases c with
  | a => exact ⟨fun x hx => by cases x <;> first | rfl | simp at hx⟩
  | b => exact .refl ..

theorem freeHold_touches (s : State) : ∃ g c l, freeHold s = { s with ring := g, calcs := c, links := l } := by
  unfold freeHold
  split
  · exact takeNext_touches s
  · obtain ⟨g, c, l, h⟩ := takeNext_touches (s.setSlot _ .empty)
    exact ⟨g, c, l, h⟩

theorem takeIfHead_frame (i : SlotId) (s : State) : Frame [.ring, .calcs, .links] s (takeIfHead i s) :=
  .ite (fun _ => ring_calcs_frame s (takeNext_touches s)) (fun _ => .refl ..)

theorem setSlot_frame (i : SlotId) (x : RingSlot) (s : State) : Frame [.ring] s (s.setSlot i x) := ring_frame ..

theorem setLink_frame (p : Port) (l : Link) (s : State) : Frame [.links] s (s.setLink p l) := links_frame ..

theorem setClaim_frame (u : UnitId) (c : Claim) (s : State) : Frame [.claims] s (s.setClaim u c) := claims_frame ..

theorem setLiveItem_frame (l : LivePoint) (x : LiveItem) (s : State) : Frame [.live] s (s.setLiveItem l x) := by
  obtain ⟨v, h⟩ := setLiveItem_touches l x s
  rw [h]; exact live_frame s v

theorem clearStation_frame (p : Port) (s : State) :
    Frame [.ring, .calcs, .claims, .links, .prove] s (clearStation p s) := by
  obtain ⟨g, c, k, l, q, h⟩ := clearStation_touches p s
  rw [h]; exact ⟨fun x hx => by cases x <;> first | rfl | simp at hx⟩

theorem lapseMemory_frame (s : State) : Frame [.retention, .freeCount] s (lapseMemory s) := retention_frame ..

theorem startProve_frame (r : Run) (p : Port) (n m tol csp : Nat) (s : State) :
    Frame [.prove, .claims] s (startProve r p n m tol csp s) :=
  (((prove_frame ..).mono (by decide)).andThen (setClaim_frame ..) (by decide)).andThen (setClaim_frame ..) (by decide)

theorem staleSlot_frame (l : LivePoint) (p : Port) (s : State) : Frame [.live] s (staleSlot l p s) := by
  obtain ⟨r, -, -, h⟩ | ⟨-, h⟩ := staleSlot_cases l p s
  · rw [h]; exact setLiveItem_frame ..
  · rw [h]; exact .refl ..

theorem lapseRecord_frame (l : LivePoint) (s : State) : Frame [.live, .links] s (lapseRecord l s) := by
  unfold lapseRecord
  refine .ite (fun _ => ?_) (fun _ => .refl ..)
  exact ((setLiveItem_frame ..).mono (by decide)).trans (.ite (fun _ => .refl ..) (fun _ => (links_frame ..).mono (by decide)))

theorem loseClaim_frame (u : UnitId) (s : State) : Frame [.claims, .links] s (loseClaim u s) := by
  obtain ⟨h, -, -, e⟩ | ⟨-, e⟩ := loseClaim_cases u s
  · rw [e]; exact ((links_frame ..).mono (by decide)).trans (handover_frame ..)
  · rw [e]; exact .refl ..

theorem expirePeriod_frame (r : Run) (s : State) :
    Frame [.ring, .calcs, .links, .live, .checkers, .toBank, .toEngine] s (expirePeriod r s) :=
  (((takeAtEngine_frame ..).mono (by decide)).andThen (closePeriod_frame ..) (by decide)).andThen (setCalc_frame ..) (by decide)

/-- A frame of all items but the queue says that the queue stands. -/
theorem frame_partItems {s t : State} (h : t.pending = s.pending) : Frame partItems s t := by
  exact ⟨fun x hx => by cases x <;> first | exact h | simp [partItems] at hx⟩

theorem restart_pending (s : State) : (restart s).pending = s.pending := by
  have hperiod (t : State) (r : Run) : (restartPeriod t r).pending = t.pending := by
    unfold restartPeriod
    split
    · exact closePeriod_frame t r _ true |>.same .pending (by decide)
    · rfl
  have habort (t : State) : (abortAtRestart t).pending = t.pending := by
    unfold abortAtRestart
    split <;> rfl
  have hblocks (t : State) : (restartBlocks t).pending = t.pending := by
    unfold restartBlocks resumeAtRestart
    split <;> rfl
  simp only [restart, runs, List.foldl, hperiod, habort, hblocks]

theorem startPart_frame (intact : Bool) (s : State) : Frame partItems s (startPart intact s) := by
  refine frame_partItems ?_
  unfold startPart
  split
  · exact (restart_pending _).trans (settleArrivals_frame s |>.same .pending (by decide))
  · rfl

/-! ## Requests -/

/-- The state change keeps the statement. -/
def Keeps (P : State → Prop) (f : State → State) : Prop := ∀ s, P s → P (f s)

/-- What a request does besides its block's own act keeps the statement. -/
structure RequestKept (P : State → Prop) : Prop where
  renew : ∀ p u, Keeps P (fun s => renew p s u)
  queuePort : ∀ p u, Keeps P (fun s => queuePort p s u)
  respond : ∀ p x, Keeps P (fun s => s.respond p x)

section Requests

variable {P : State → Prop} {s t : State}

theorem RequestKept.renewed (h : RequestKept P) (p : Port) (us : List UnitId) : Keeps P (renewed p us) := by
  induction us with
  | nil => exact fun s hs => hs
  | cons u us ih => exact fun s hs => ih _ (h.renew p u s hs)

theorem RequestKept.notHolder (h : RequestKept P) (p : Port) (us : List UnitId) (hs : P s) : P (notHolder p us s).state := by
  change P (us.foldl (Machine.queuePort p) s)
  induction us generalizing s with
  | nil => exact hs
  | cons u us ih => exact ih (h.queuePort p u s hs)

theorem RequestKept.serve (h : RequestKept P) {p : Port} {kind : Nat} {us : List UnitId} {act : State → Reply}
    (hact : Keeps P (fun s => (act s).state)) (hs : P s) (ht : serve p kind us act s = .next t) : P t := by
  cases hsup : s.retention.supplied with
  | true =>
    rw [serve_supplied hsup] at ht
    obtain rfl := Host.Outcome.next.inj ht
    exact h.respond p _ _ (hact _ (h.renewed p us s hs))
  | false =>
    rw [serve_unsupplied hsup] at ht
    obtain rfl := Host.Outcome.next.inj ht
    exact hs

theorem event_keeps {act : State → State} (hact : P s → P (act s)) (hs : P s) (ht : event act s = .next t) : P t := by
  cases hsup : s.retention.supplied with
  | true =>
    rw [event_supplied hsup] at ht
    obtain rfl := Host.Outcome.next.inj ht
    exact hact hs
  | false =>
    rw [event_unsupplied hsup] at ht
    obtain rfl := Host.Outcome.next.inj ht
    exact hs

theorem reply_ite_keeps {c : Prop} [Decidable c] {a b : Reply} (h : c → P a.state) (k : ¬ c → P b.state) :
    P (if c then a else b).state := by
  split
  · exact h ‹_›
  · exact k ‹_›

theorem withRun_keeps {unit : Nat} {k : Run → Reply} (hs : P s) (h : ∀ r, P (k r).state) : P (withRun unit s k).state := by
  unfold withRun
  split
  · exact hs
  · exact h _

theorem withUnit_keeps {unit : Nat} {k : UnitId → Reply} (hs : P s) (h : ∀ u, P (k u).state) : P (withUnit unit s k).state := by
  unfold withUnit
  split
  · exact hs
  · exact h _

theorem RequestKept.asHolder (hP : RequestKept P) {p : Port} {u : UnitId} {k : Reply} (hs : P s)
    (h : s.holds p u = true → P k.state) : P (asHolder p u s k).state :=
  reply_ite_keeps h (fun _ => hP.notHolder p [u] hs)

theorem unitZero_keeps {unit : Nat} {k : Reply} (hs : P s) (h : P k.state) : P (unitZero unit s k).state :=
  reply_ite_keeps (fun _ => h) (fun _ => hs)

theorem unitProver_keeps {unit : Nat} {k : Reply} (hs : P s) (h : P k.state) : P (unitProver unit s k).state :=
  reply_ite_keeps (fun _ => h) (fun _ => hs)

theorem withSlot_keeps {unit slot : Nat} {k : SlotId → Reply} (hs : P s) (h : ∀ i, P (k i).state) :
    P (withSlot unit slot s k).state := by
  refine unitZero_keeps hs ?_
  split
  · exact hs
  · exact h _

theorem ifReservedBy_keeps {p : Port} {i : SlotId} {k : Reply} (hs : P s)
    (h : (s.slot i).state = .reserved → (s.slot i).reserver = some p → P k.state) : P (ifReservedBy p i s k).state :=
  reply_ite_keeps (fun _ => hs) fun hstate => reply_ite_keeps (fun _ => hs) fun howner => h (not_not.mp hstate) (not_not.mp howner)

/-- A request on a run that only its holder may have carried out. -/
theorem RequestKept.serve_run (hP : RequestKept P) {p : Port} {kind unit : Nat} {us : List UnitId} {act : State → Run → Reply}
    (hact : ∀ s r, P s → s.holds p (.run r) = true → P (act s r).state) (hs : P s)
    (ht : Machine.serve p kind us (fun s => withRun unit s fun r => Machine.asHolder p (.run r) s (act s r)) s = .next t) : P t :=
  hP.serve (fun s hs => withRun_keeps hs fun r => hP.asHolder hs (hact s r hs)) hs ht

/-- A request that names a slot. -/
theorem RequestKept.serve_slot (hP : RequestKept P) {p : Port} {kind unit slot : Nat} {us : List UnitId}
    {act : State → SlotId → Reply} (hact : ∀ s i, P s → P (act s i).state) (hs : P s)
    (ht : Machine.serve p kind us (fun s => withSlot unit slot s fun i => act s i) s = .next t) : P t :=
  hP.serve (fun s hs => withSlot_keeps hs fun i => hact s i hs) hs ht

end Requests

/-! ## Walks -/

/-- A change of the listed items, and besides them what every request does: renewals, places on lists, responses. -/
inductive Walk (xs : List Item) : State → State → Prop
  | within {s t : State} (h : Frame xs s t) : Walk xs s t
  | renew (p : Port) (u : UnitId) (s : State) : Walk xs s (renew p s u)
  | queue (p : Port) (u : UnitId) (s : State) : Walk xs s (queuePort p s u)
  | respond (p : Port) (x : Response) (s : State) : Walk xs s (s.respond p x)
  | trans {s t u : State} (h : Walk xs s t) (k : Walk xs t u) : Walk xs s u

theorem Walk.refl (xs : List Item) (s : State) : Walk xs s s := .within (.refl xs s)

theorem Walk.requests (xs : List Item) (s : State) : RequestKept (Walk xs s) where
  renew p u t h := h.trans (.renew p u t)
  queuePort p u t h := h.trans (.queue p u t)
  respond p x t h := h.trans (.respond p x t)

/-- A walk changes the listed items, claim records and links alone. -/
theorem Walk.frame {xs : List Item} {s t : State} (h : Walk xs s t) : Frame (.claims :: .links :: xs) s t := by
  induction h with
  | within h => exact h.mono (by simp)
  | renew p u s =>
    obtain ⟨c, h⟩ := renew_eq p u s
    rw [h]
    exact (setClaim_frame ..).mono (by simp)
  | queue p u s => exact (queuePort_frame s p u).mono (by simp)
  | respond p x s => exact (setLink_frame ..).mono (by simp)
  | trans _ _ hs ht => exact hs.trans ht

/-! ## Commands -/

/-- The outcome is a next state, reached by a walk within the listed items. -/
def Answers (xs : List Item) (s : State) (o : Host.Outcome State Fault Refusal) : Prop := ∃ t, o = .next t ∧ Walk xs s t

section Answers

variable {xs : List Item}

theorem serve_answers {p : Port} {kind : Nat} {us : List UnitId} {act : State → Reply} (s : State)
    (hact : ∀ s, Walk xs s (act s).state) : Answers xs s (serve p kind us act s) := by
  obtain ⟨t, ht⟩ := serve_next p kind us act s
  exact ⟨t, ht, (Walk.requests xs s).serve (fun u hu => hu.trans (hact u)) (.refl xs s) ht⟩

theorem event_answers {act : State → State} {s : State} (h : Frame xs s (act s)) : Answers xs s (event act s) :=
  ⟨_, rfl, .within (.ite (fun _ => h) (fun _ => .refl ..))⟩

/-- A request on a run from its holder alone. -/
theorem serve_run_answers {p : Port} {kind unit : Nat} {us : List UnitId} {act : State → Run → Reply} (s : State)
    (hact : ∀ s r, Walk xs s (act s r).state) :
    Answers xs s (serve p kind us (fun s => withRun unit s fun r => asHolder p (.run r) s (act s r)) s) :=
  serve_answers s fun s => withRun_keeps (.refl ..) fun r => (Walk.requests xs s).asHolder (.refl ..) fun _ => hact s r

/-- A request on the ring that names a slot. -/
theorem serve_slot_answers {p : Port} {kind unit slot : Nat} {us : List UnitId} {act : State → SlotId → Reply} (s : State)
    (hact : ∀ s i, Walk xs s (act s i).state) :
    Answers xs s (serve p kind us (fun s => withSlot unit slot s fun i => act s i) s) :=
  serve_answers s fun s => withSlot_keeps (.refl ..) fun i => hact s i

end Answers

/-- A frame that passes the checks of R164 is its request; an event, which no frame carries, does nothing. -/
theorem handOn_eq (i : Instr) (s : State) :
    handOn i s = if (requestPort i).isSome = true then exec i s else .next s := by cases i <;> rfl

/-- A frame as its bytes is answered by the interface, does nothing, or is a request. -/
theorem exec_refusedRequestFrame_cases (p : Port) (frame : List Byte) (s : State) :
    (∃ st kind, exec (.refusedRequestFrame p frame) s = event (answer p st kind) s)
      ∨ exec (.refusedRequestFrame p frame) s = .next s
      ∨ ∃ i, (requestPort i).isSome = true ∧ exec (.refusedRequestFrame p frame) s = exec i s := by
  have hexec : exec (.refusedRequestFrame p frame) s = execRefusedRequestFrame p frame s := rfl
  rw [hexec]
  unfold execRefusedRequestFrame
  split
  · exact .inl ⟨_, _, rfl⟩
  · exact .inl ⟨_, _, rfl⟩
  · exact .inl ⟨_, _, rfl⟩
  · rename_i i _
    rw [handOn_eq]
    split
    · exact .inr (.inr ⟨i, ‹_›, rfl⟩)
    · exact .inr (.inl rfl)

section Commands

variable (s : State) (p : Port) (unit : Nat)

theorem exec_setService_answers (v : Nat) : Answers [.claims, .links, .checkers, .calcs, .live, .bank, .ring, .prove, .toBank, .toEngine] s (execSetService p unit v s) := by
  unfold execSetService
  refine serve_run_answers s fun s r => ?_
  split
  · exact .refl ..
  · refine reply_ite_keeps (fun _ => .refl ..) fun _ => ?_
    split
    · exact reply_ite_keeps (fun _ => .within ((goOnline_frame ..).mono (by decide))) (fun _ => .refl ..)
    · exact .within ((goOffline_frame ..).mono (by decide))

theorem exec_setPeriod_answers (l : Nat) : Answers [.calcs] s (execSetPeriod p unit l s) := by
  unfold execSetPeriod
  exact serve_run_answers s fun _ _ => reply_ite_keeps (fun _ => .within ((setCalc_frame ..).mono (by decide))) (fun _ => .refl ..)

theorem exec_setKFactor_answers (k : Nat) : Answers [.links, .calcs, .ring, .toEngine] s (execSetKFactor p unit k s) := by
  unfold execSetKFactor
  refine serve_run_answers s fun s r => reply_ite_keeps (fun _ => .refl ..) fun _ =>
    reply_ite_keeps (fun _ => ?_) (fun _ => .refl ..)
  have htake : Walk [.links, .calcs, .ring, .toEngine] s (takeAtEngine r s) := .within ((takeAtEngine_frame s r).mono (by decide))
  exact htake.trans (reply_ite_keeps (fun _ => .within ((setCalc_frame ..).mono (by decide)))
    (fun _ => .within ((setCalc_frame ..).mono (by decide))))

theorem exec_setSecurity_answers (w e : Nat) :
    Answers [.checkers] s (execSetSecurity p unit w e s) := by
  unfold execSetSecurity
  exact serve_run_answers s fun _ _ => reply_ite_keeps (fun _ => .within ((setChecker_frame ..).mono (by decide))) (fun _ => .refl ..)

theorem exec_clearRunFault_answers : Answers [.checkers, .live] s (execClearRunFault p unit s) := by
  unfold execClearRunFault
  exact serve_run_answers s fun s r => .within (((setChecker_frame s r _).mono (by decide)).andThen (live_frame ..) (by decide))

theorem exec_readRun_answers : Answers [] s (execReadRun p unit s) := by
  unfold execReadRun
  exact serve_answers s fun _ => withRun_keeps (.refl ..) fun _ => .refl ..

theorem exec_addPoint_answers (f m e : Nat) : Answers [.curves] s (execAddPoint p unit f m e s) := by
  unfold execAddPoint
  refine serve_run_answers s fun s r => reply_ite_keeps (fun _ => .refl ..) fun _ => ?_
  split
  · exact .refl ..
  · exact reply_ite_keeps (fun _ => .refl ..) fun _ => reply_ite_keeps (fun _ => .refl ..) fun _ =>
      reply_ite_keeps (fun _ => .refl ..) fun _ => .within ((setCurve_frame ..).mono (by decide))

theorem exec_changePoint_answers (f m e : Nat) :
    Answers [.curves] s (execChangePoint p unit f m e s) := by
  unfold execChangePoint
  refine serve_run_answers s fun s r => reply_ite_keeps (fun _ => .refl ..) fun _ => ?_
  split
  · exact .refl ..
  · exact reply_ite_keeps (fun _ => .refl ..) fun _ => reply_ite_keeps (fun _ => .refl ..) fun _ =>
      reply_ite_keeps (fun _ => .refl ..) fun _ => .within ((setCurve_frame ..).mono (by decide))

theorem exec_removePoint_answers (f : Nat) : Answers [.curves] s (execRemovePoint p unit f s) := by
  unfold execRemovePoint
  exact serve_run_answers s fun _ _ => reply_ite_keeps (fun _ => .refl ..) fun _ =>
    reply_ite_keeps (fun _ => .refl ..) fun _ => reply_ite_keeps (fun _ => .refl ..) fun _ =>
      .within ((setCurve_frame ..).mono (by decide))

theorem exec_readCurve_answers : Answers [] s (execReadCurve p unit s) := by
  unfold execReadCurve
  exact serve_answers s fun _ => withRun_keeps (.refl ..) fun _ => .refl ..

theorem exec_loadGrade_answers (g f b : Nat) (pts : List RawPoint) :
    Answers [.grades] s (execLoadGrade p unit g f b pts s) := by
  unfold execLoadGrade
  refine serve_answers s fun s => unitZero_keeps (.refl ..) ?_
  split
  · exact .refl ..
  · exact reply_ite_keeps (fun _ => .refl ..) fun _ => reply_ite_keeps (fun _ => .refl ..) fun _ =>
      reply_ite_keeps (fun _ => .refl ..) fun _ => .within ((setGrade_frame ..).mono (by decide))

theorem exec_readGrade_answers (g : Nat) : Answers [] s (execReadGrade p unit g s) := by
  unfold execReadGrade
  refine serve_answers s fun s => unitZero_keeps (.refl ..) ?_
  split
  · exact .refl ..
  · exact .refl ..

theorem exec_reportLive_answers (q : Nat) (v : Int) (h : Nat) :
    Answers [.live] s (execReportLive p unit q v h s) := by
  unfold execReportLive
  refine serve_answers s fun s => withUnit_keeps (.refl ..) fun u => ?_
  split
  · exact reply_ite_keeps (fun _ => .within ((setLiveItem_frame ..).mono (by decide))) (fun _ =>
      .within ((setLiveItem_frame ..).mono (by decide)))
  · exact .refl ..

theorem setLimits_frame (u : UnitId) (l : LiveLimits) (b : Nat) (s : State) : Frame [.live] s (setLimits u l b s) := by
  cases u <;> exact live_frame ..

theorem exec_setLiveLimits_answers (st h t pr b pf : Nat) :
    Answers [.live] s (execSetLiveLimits p unit st h t pr b pf s) := by
  unfold execSetLiveLimits
  refine serve_answers s fun s => withUnit_keeps (.refl ..) fun u => (Walk.requests _ _).asHolder (.refl ..) fun _ =>
    reply_ite_keeps (fun _ => .refl ..) fun _ => ?_
  split
  · exact .refl ..
  · exact reply_ite_keeps (fun _ => .within ((setLimits_frame ..).mono (by decide))) (fun _ => .refl ..)

theorem exec_readLive_answers : Answers [] s (execReadLive p unit s) := by
  unfold execReadLive
  refine serve_answers s fun s => withUnit_keeps (.refl ..) fun u => ?_
  cases u <;> exact .refl ..

theorem exec_readTotals_answers (w : Bool) (g : Nat) :
    Answers [] s (execReadTotals p unit w g s) := by
  unfold execReadTotals
  refine serve_answers s fun s => ?_
  dsimp only
  split
  · exact .refl ..
  · exact withRun_keeps (.refl ..) fun _ => .refl ..
  · exact withRun_keeps (.refl ..) fun _ => .refl ..
  · exact unitZero_keeps (.refl ..) (.refl ..)
  · exact unitZero_keeps (.refl ..) (.refl ..)

theorem exec_reserveSlot_answers : Answers [.ring] s (execReserveSlot p unit s) := by
  unfold execReserveSlot
  exact serve_answers s fun _ => unitZero_keeps (.refl ..) <| reply_ite_keeps (fun _ =>
    .within ((ring_frame ..).mono (by decide))) (fun _ => .refl ..)

theorem exec_writeSlot_answers (i : Nat) (f : RawForm) :
    Answers [.ring] s (execWriteSlot p unit i f s) := by
  unfold execWriteSlot
  refine serve_slot_answers s fun s i => ifReservedBy_keeps (.refl ..) fun _ _ => ?_
  split
  · exact .refl ..
  · exact .within ((setSlot_frame ..).mono (by decide))

theorem exec_armSlot_answers (i : Nat) : Answers [.links, .ring, .calcs] s (execArmSlot p unit i s) := by
  unfold execArmSlot
  refine serve_slot_answers s fun s i => ifReservedBy_keeps (.refl ..) fun _ _ => ?_
  split
  · exact .refl ..
  · exact reply_ite_keeps (fun _ => .within
      (((setSlot_frame ..).mono (by decide)).andThen (takeIfHead_frame ..) (by decide))) (fun _ => .refl ..)

theorem exec_cancelSlot_answers (i : Nat) : Answers [.links, .ring, .calcs] s (execCancelSlot p unit i s) := by
  unfold execCancelSlot
  exact serve_slot_answers s fun _ _ => reply_ite_keeps (fun _ => .refl ..) fun _ =>
    reply_ite_keeps (fun _ => .refl ..) fun _ => .within
      (((setSlot_frame ..).mono (by decide)).andThen (takeIfHead_frame ..) (by decide))

theorem exec_readSlot_answers (i : Nat) : Answers [] s (execReadSlot p unit i s) := by
  unfold execReadSlot
  exact serve_slot_answers s fun _ _ => .refl ..

theorem exec_releaseHold_answers : Answers [.links, .ring, .calcs] s (execReleaseHold p unit s) := by
  unfold execReleaseHold
  exact serve_answers s fun s => unitZero_keeps (.refl ..) <|
    reply_ite_keeps (fun _ => .within ((ring_calcs_frame s (freeHold_touches s)).mono (by decide))) (fun _ => .refl ..)

theorem exec_resumeLoading_answers : Answers [.ring] s (execResumeLoading p unit s) := by
  unfold execResumeLoading
  exact serve_answers s fun _ => unitZero_keeps (.refl ..) <| reply_ite_keeps (fun _ =>
    .within ((ring_frame ..).mono (by decide))) (fun _ => .refl ..)

theorem exec_cutParcel_answers (i : Nat) : Answers [.links, .ring, .calcs] s (execCutParcel p unit i s) := by
  unfold execCutParcel
  exact serve_slot_answers s fun s _ => reply_ite_keeps (fun _ => .refl ..) fun _ =>
    reply_ite_keeps (fun _ => .refl ..) fun _ => reply_ite_keeps (fun _ => .refl ..) fun _ =>
      .within ((ring_calcs_frame s (startClosing_touches _ _ none s)).mono (by decide))

theorem exec_readTicket_answers (i : Nat) : Answers [.ring] s (execReadTicket p unit i s) := by
  unfold execReadTicket
  refine serve_slot_answers s fun s i => ?_
  dsimp only
  split
  · exact .within (.ite (fun _ => setSlot_frame ..) (fun _ => setSlot_frame ..))
  · exact .refl ..

theorem exec_setProver_answers (b t d a m : Nat) :
    Answers [.prove] s (execSetProver p unit b t d a m s) := by
  unfold execSetProver
  exact serve_answers s fun _ => unitProver_keeps (.refl ..) <| (Walk.requests _ _).asHolder (.refl ..) fun _ =>
    reply_ite_keeps (fun _ => .refl ..) fun _ =>
    reply_ite_keeps (fun _ => .within ((prove_frame ..).mono (by decide))) (fun _ => .refl ..)

theorem exec_startProve_answers (n m t c : Nat) :
    Answers [.claims, .prove] s (execStartProve p unit n m t c s) := by
  unfold execStartProve
  refine serve_answers s fun s => withRun_keeps (.refl ..) fun r => ?_
  split
  · exact (Walk.requests _ _).notHolder _ _ (.refl ..)
  · exact reply_ite_keeps (fun _ => .refl ..) fun _ => reply_ite_keeps (fun _ => .refl ..) fun _ =>
      reply_ite_keeps (fun _ => .refl ..) fun _ => reply_ite_keeps (fun _ => .refl ..) fun _ =>
        reply_ite_keeps (fun _ => .refl ..) fun _ => .within ((startProve_frame ..).mono (by decide))

theorem exec_abortProve_answers : Answers [.claims, .links, .prove] s (execAbortProve p unit s) := by
  unfold execAbortProve
  exact serve_answers s fun _ => unitProver_keeps (.refl ..) <| (Walk.requests _ _).asHolder (.refl ..) fun _ =>
    reply_ite_keeps (fun _ => .within ((ProveChange.frame (endProve_touches ..)).mono (by decide))) (fun _ => .refl ..)

theorem exec_readProve_answers (f : Nat) : Answers [] s (execReadProve p unit f s) := by
  unfold execReadProve
  exact serve_answers s fun _ => unitProver_keeps (.refl ..) <| reply_ite_keeps (fun _ => .refl ..) (fun _ => .refl ..)

theorem exec_acceptProve_answers (force : Bool) :
    Answers [.prove, .curves] s (execAcceptProve p unit force s) := by
  unfold execAcceptProve
  refine serve_run_answers s fun s r => ?_
  split
  · exact .refl ..
  · exact reply_ite_keeps (fun _ => .refl ..) fun _ => reply_ite_keeps (fun _ => .refl ..) fun _ =>
      reply_ite_keeps (fun _ => .refl ..) fun _ =>
        .within (((setCurve_frame ..).mono (by decide)).andThen (prove_frame ..) (by decide))

theorem exec_discardProve_answers : Answers [.prove] s (execDiscardProve p unit s) := by
  unfold execDiscardProve
  exact serve_run_answers s fun _ _ => reply_ite_keeps (fun _ => .within ((prove_frame ..).mono (by decide))) (fun _ => .refl ..)

theorem exec_claim_answers (h : Nat) : Answers [.claims] s (execClaim p unit h s) := by
  unfold execClaim
  exact serve_answers s fun _ => withUnit_keeps (.refl ..) fun _ => reply_ite_keeps (fun _ => .refl ..) fun _ =>
    reply_ite_keeps (fun _ => .within ((setClaim_frame ..).mono (by decide))) (fun _ => .within ((queuePort_frame ..).mono (by decide)))

theorem exec_release_answers : Answers [.claims, .links, .prove] s (execRelease p unit s) := by
  unfold execRelease
  exact serve_answers s fun _ => withUnit_keeps (.refl ..) fun _ => reply_ite_keeps
    (fun _ => .within (((handover_frame ..).mono (by decide)).andThen (abortIf_frame ..) (by decide))) (fun _ => .refl ..)

theorem exec_setPortMode_answers (w m : Nat) :
    Answers [.links] s (execSetPortMode p unit w m s) := by
  unfold execSetPortMode
  refine serve_answers s fun s => unitZero_keeps (.refl ..) ?_
  split
  · exact .within ((setLink_frame ..).mono (by decide))
  · exact .refl ..

theorem exec_readNotices_answers : Answers [] s (execReadNotices p unit s) := by
  unfold execReadNotices
  exact serve_answers s fun _ => unitZero_keeps (.refl ..) (.refl ..)

theorem exec_ackNotices_answers (m : Nat) : Answers [.links] s (execAckNotices p unit m s) := by
  unfold execAckNotices
  refine serve_answers s fun s => unitZero_keeps (.refl ..) ?_
  split
  · exact .refl ..
  · exact .within ((setLink_frame ..).mono (by decide))

theorem exec_stationClear_answers : Answers [.claims, .links, .ring, .calcs, .prove] s (execStationClear p unit s) := by
  unfold execStationClear
  exact serve_answers s fun _ => unitZero_keeps (.refl ..) (.within ((clearStation_frame ..).mono (by decide)))

theorem exec_setTime_answers (t : Nat) : Answers [.terminalTime, .clockWait] s (execSetTime p unit t s) := by
  unfold execSetTime
  exact serve_answers s fun _ => unitZero_keeps (.refl ..) (.within (clock_frame ..))

theorem exec_responseReadout_answers : Answers [.links] s (execResponseReadout p s) := by
  unfold execResponseReadout
  refine event_answers ?_
  unfold readOut
  split
  · exact .refl ..
  · exact setLink_frame ..

theorem exec_risingEdge_answers (r : Run) (c : Channel) (high : Bool) (stamp : Nat) :
    Answers [.claims, .links, .checkers, .bank, .prove, .live, .clockWait] s (execRisingEdge r c high stamp s) := by
  unfold execRisingEdge
  exact event_answers (((elapse_frame ..).mono (by decide)).trans
    (.ite (fun _ => (onlineEdge_frame ..).mono (by decide)) (fun _ => (offlineEdge_frame ..).mono (by decide))))

theorem exec_detectorActuation_answers (d : Detector) (stamp : Nat) :
    Answers [.claims, .links, .prove, .live, .clockWait] s (execDetectorActuation d stamp s) := by
  unfold execDetectorActuation
  exact event_answers (((elapse_frame ..).mono (by decide)).andThen (ProveChange.frame (detectorEvent_touches ..)) (by decide))

theorem exec_passTimerExpiry_answers : Answers [.claims, .links, .prove] s (execPassTimerExpiry s) := by
  unfold execPassTimerExpiry
  exact event_answers (.ite (fun _ => (abandonPass_touches ..).frame.mono (by decide)) (fun _ => .refl ..))

theorem exec_periodExpiry_answers (r : Run) : Answers [.ring, .calcs, .links, .live, .checkers, .toBank, .toEngine] s (execPeriodExpiry r s) := by
  unfold execPeriodExpiry
  exact event_answers (.ite (fun _ => (expirePeriod_frame ..).mono (by decide)) (fun _ => .refl ..))

theorem exec_incrementArrivalAtBank_answers (r : Run) :
    Answers [.bank, .toBank] s (execIncrementArrivalAtBank r s) := by
  unfold execIncrementArrivalAtBank
  refine event_answers ?_
  unfold takeAtBank
  split
  · exact .refl ..
  · exact bank_frame ..

theorem exec_retentionSupplyChange_answers (l : BatteryLevel) :
    Answers [.retention, .freeCount] s (execRetentionSupplyChange l s) := by
  unfold execRetentionSupplyChange
  have h : Frame [.retention, .freeCount] s { s with retention := { s.retention with battery := l } } := retention_frame s _ _
  exact ⟨_, rfl, .within (.ite (fun _ => h.trans (lapseMemory_frame _)) (fun _ => h))⟩

theorem exec_lossOfSupply_answers : Answers [.ring, .calcs, .links, .toEngine, .bank, .toBank, .retention, .freeCount] s (execLossOfSupply s) := by
  unfold execLossOfSupply
  have h : Frame [.ring, .calcs, .links, .toEngine, .bank, .toBank, .retention, .freeCount] s
      { settleArrivals s with retention := { (settleArrivals s).retention with supplied := false } } :=
    ((settleArrivals_frame s).mono (by decide)).andThen (retention_frame _ _ _) (by decide)
  exact event_answers (.ite (fun _ => h.andThen (lapseMemory_frame _) (by decide)) (fun _ => h))

theorem exec_periodTimerAdvance_answers (r : Run) :
    Answers [.calcs] s (execPeriodTimerAdvance r s) := by
  unfold execPeriodTimerAdvance
  exact event_answers (.ite (fun _ => setCalc_frame ..) (fun _ => .refl ..))

theorem exec_terminalTimeAdvance_answers : Answers [.terminalTime] s (execTerminalTimeAdvance s) := by
  unfold execTerminalTimeAdvance
  refine event_answers ?_
  unfold advanceClock
  split
  · exact .refl ..
  · exact ⟨fun x hx => by cases x <;> first | rfl | simp at hx⟩

theorem exec_partStart_answers (cause : StartCause) (intact : Bool) :
    Answers partItems s (execPartStart cause intact s) := by
  unfold execPartStart
  cases cause with
  | powerUp => exact ⟨_, rfl, .within (startPart_frame intact s)⟩
  | resetInput => exact event_answers (startPart_frame intact s)

end Commands

/-- Every command but a frame's bytes has a next state, reached by a walk within the table. -/
theorem exec_answers (c : Instr) (s : State) (hplain : ∀ p frame, c ≠ .refusedRequestFrame p frame) :
    Answers (acts c) s (exec c s) := by
  cases c with
  | setService p u v => exact exec_setService_answers s p u v
  | setPeriod p u l => exact exec_setPeriod_answers s p u l
  | setKFactor p u k => exact exec_setKFactor_answers s p u k
  | setSecurity p u w e => exact exec_setSecurity_answers s p u w e
  | clearRunFault p u => exact exec_clearRunFault_answers s p u
  | readRun p u => exact exec_readRun_answers s p u
  | addPoint p u f m e => exact exec_addPoint_answers s p u f m e
  | changePoint p u f m e => exact exec_changePoint_answers s p u f m e
  | removePoint p u f => exact exec_removePoint_answers s p u f
  | readCurve p u => exact exec_readCurve_answers s p u
  | loadGrade p u g f b pts => exact exec_loadGrade_answers s p u g f b pts
  | readGrade p u g => exact exec_readGrade_answers s p u g
  | reportLive p u q v h => exact exec_reportLive_answers s p u q v h
  | setLiveLimits p u st h t pr b pf => exact exec_setLiveLimits_answers s p u st h t pr b pf
  | readLive p u => exact exec_readLive_answers s p u
  | readTotals p u w g => exact exec_readTotals_answers s p u w g
  | reserveSlot p u => exact exec_reserveSlot_answers s p u
  | writeSlot p u i f => exact exec_writeSlot_answers s p u i f
  | armSlot p u i => exact exec_armSlot_answers s p u i
  | cancelSlot p u i => exact exec_cancelSlot_answers s p u i
  | readSlot p u i => exact exec_readSlot_answers s p u i
  | releaseHold p u => exact exec_releaseHold_answers s p u
  | resumeLoading p u => exact exec_resumeLoading_answers s p u
  | cutParcel p u i => exact exec_cutParcel_answers s p u i
  | readTicket p u i => exact exec_readTicket_answers s p u i
  | setProver p u b t d a m => exact exec_setProver_answers s p u b t d a m
  | startProve p u n m t c => exact exec_startProve_answers s p u n m t c
  | abortProve p u => exact exec_abortProve_answers s p u
  | readProve p u f => exact exec_readProve_answers s p u f
  | acceptProve p u force => exact exec_acceptProve_answers s p u force
  | discardProve p u => exact exec_discardProve_answers s p u
  | claim p u h => exact exec_claim_answers s p u h
  | release p u => exact exec_release_answers s p u
  | setPortMode p u w m => exact exec_setPortMode_answers s p u w m
  | readNotices p u => exact exec_readNotices_answers s p u
  | ackNotices p u m => exact exec_ackNotices_answers s p u m
  | stationClear p u => exact exec_stationClear_answers s p u
  | setTime p u t => exact exec_setTime_answers s p u t
  | responseReadout p => exact exec_responseReadout_answers s p
  | risingEdge r c high stamp => exact exec_risingEdge_answers s r c high stamp
  | detectorActuation d stamp => exact exec_detectorActuation_answers s d stamp
  | passTimerExpiry => exact exec_passTimerExpiry_answers s
  | periodExpiry r => exact exec_periodExpiry_answers s r
  | incrementArrivalAtBank r => exact exec_incrementArrivalAtBank_answers s r
  | incrementArrivalAtEngine r => exact event_answers (takeAtEngine_frame s r)
  | freshnessTimerExpiry l p => exact event_answers (staleSlot_frame l p s)
  | liveHoldTimerExpiry l => exact event_answers (lapseRecord_frame l s)
  | holdTimerExpiry u => exact event_answers (loseClaim_frame u s)
  | terminalTimeAdvance => exact exec_terminalTimeAdvance_answers s
  | partStart cause intact => exact exec_partStart_answers s cause intact
  | lossOfSupply => exact exec_lossOfSupply_answers s
  | retentionSupplyChange l => exact exec_retentionSupplyChange_answers s l
  | periodTimerAdvance r => exact exec_periodTimerAdvance_answers s r
  | refusedRequestFrame p frame => exact absurd rfl (hplain p frame)

theorem request_ne_frame {i : Instr} (h : (requestPort i).isSome = true) (p : Port) (frame : List Byte) :
    i ≠ .refusedRequestFrame p frame := by
  rintro rfl; simp [requestPort] at h

theorem acts_no_queue (c : Instr) : .pending ∉ acts c := by cases c <;> simp [acts, partItems]

/-- Every command has a next state and leaves the queue. -/
theorem exec_next (c : Instr) (s : State) : ∃ t, exec c s = .next t ∧ t.pending = s.pending := by
  have hplain (i : Instr) (hi : ∀ p frame, i ≠ .refusedRequestFrame p frame) :
      ∃ t, exec i s = .next t ∧ t.pending = s.pending := by
    obtain ⟨t, ht, hwalk⟩ := exec_answers i s hi
    exact ⟨t, ht, hwalk.frame.same .pending (by simp [acts_no_queue i])⟩
  by_cases hc : ∀ p frame, c ≠ .refusedRequestFrame p frame
  · exact hplain c hc
  · simp only [not_forall, not_not] at hc
    obtain ⟨p, frame, rfl⟩ := hc
    obtain ⟨st, kind, h⟩ | h | ⟨i, hi, h⟩ := exec_refusedRequestFrame_cases p frame s
    · rw [h]
      refine ⟨_, rfl, ?_⟩
      split <;> rfl
    · exact ⟨s, h, rfl⟩
    · rw [h]
      exact hplain i (request_ne_frame hi)

/-- Settles O2: the table of what a command can change lists no queue. -/
theorem everyCommandGoesOn : Obligations.EveryCommandGoesOn := exec_next

/-! ## Without supply -/

theorem exec_unsupplied_of_plain {c : Instr} {s : State} (hplain : ∀ p frame, c ≠ .refusedRequestFrame p frame)
    (hsup : s.retention.supplied = false) (hacts : actsUnsupplied c = false) : exec c s = .next s := by
  cases c with
  | refusedRequestFrame p frame => exact absurd rfl (hplain p frame)
  | partStart cause intact =>
    cases cause with
    | powerUp => simp [actsUnsupplied] at hacts
    | resetInput => exact event_unsupplied hsup
  | retentionSupplyChange l => simp [actsUnsupplied] at hacts
  | _ => first | exact if_neg (ne_true_of_eq_false hsup) | exact congrArg _ (if_neg (ne_true_of_eq_false hsup))

theorem request_not_actsUnsupplied {i : Instr} (h : (requestPort i).isSome = true) : actsUnsupplied i = false := by
  cases i <;> first | rfl | simp [requestPort] at h

/-- Settles O3: a request is not taken and an event does not happen; a frame's bytes are answered by an event or are a request. -/
theorem unsuppliedPartIsInert : Obligations.UnsuppliedPartIsInert := by
  intro c s hsup hacts
  by_cases hplain : ∀ p frame, c ≠ .refusedRequestFrame p frame
  · exact exec_unsupplied_of_plain hplain hsup hacts
  · simp only [not_forall, not_not] at hplain
    obtain ⟨p, frame, rfl⟩ := hplain
    obtain ⟨st, kind, h⟩ | h | ⟨i, hi, h⟩ := exec_refusedRequestFrame_cases p frame s
    · rw [h, event_unsupplied hsup]
    · exact h
    · rw [h, exec_unsupplied_of_plain (request_ne_frame hi) hsup (request_not_actsUnsupplied hi)]

end Sys2Proof.Machine

/-! Invariants: what has to be shown of a statement about the part for every step to keep it. A statement that reads
some items of the
state has to be looked at only for the commands whose block reaches one of them. -/

namespace Sys2Proof.Machine

/-- The statement rests on the listed items alone. -/
def Reads (xs : List Item) (P : State → Prop) : Prop := ∀ s t, (∀ x ∈ xs, Same x s t) → P s → P t

/-- The event, or the block that takes the request, reaches one of the items. -/
def reaches (xs : List Item) (c : Instr) : Bool := xs.any (fun x => decide (x ∈ acts c))

section Invariant

variable {xs ys : List Item} {P : State → Prop} {s t : State}

/-- A change of other items keeps the statement. -/
theorem Reads.of_frame (hreads : Reads xs P) (hframe : Frame ys s t) (hdisjoint : ∀ x ∈ xs, x ∉ ys) (h : P s) : P t :=
  hreads s t (fun x hx => hframe.same x (hdisjoint x hx)) h

/-- A statement about neither claims nor links stands through what every request does. -/
theorem Reads.requestKept (hreads : Reads xs P) (hclaims : .claims ∉ xs) (hlinks : .links ∉ xs) : RequestKept P where
  renew p u s hs := by
    obtain ⟨c, h⟩ := renew_eq p u s
    change P (renew p s u)
    rw [h]
    exact hreads.of_frame (setClaim_frame ..) (fun x hx hm => by simp_all) hs
  queuePort p u s hs := hreads.of_frame (queuePort_frame s p u) (fun x hx hm => by simp_all) hs
  respond p x s hs := hreads.of_frame (setLink_frame ..) (fun x hx hm => by simp_all) hs

/-- A walk among other items keeps the statement. -/
theorem Reads.of_walk (hreads : Reads xs P) (hrequests : RequestKept P) (hwalk : Walk ys s t) (hdisjoint : ∀ x ∈ xs, x ∉ ys)
    (h : P s) : P t := by
  induction hwalk with
  | within hframe => exact hreads.of_frame hframe hdisjoint h
  | renew p u s => exact hrequests.renew p u s h
  | queue p u s => exact hrequests.queuePort p u s h
  | respond p x s => exact hrequests.respond p x s h
  | trans _ _ hs ht => exact ht (hs h)

theorem not_mem_of_not_reaches {c : Instr} (h : reaches xs c = false) : ∀ x ∈ xs, x ∉ acts c := by
  intro x hx hm
  have := List.any_eq_false.mp h x hx
  simp [hm] at this

/-- What every step has to keep for the statement: the passage of time, what every request does, and each
command whose block reaches
an item that the statement reads. -/
structure StepKept (xs : List Item) (P : State → Prop) : Prop where
  reads : Reads xs P
  queue : .pending ∉ xs
  elapse : ∀ n, Keeps P (fun s => s.elapse n)
  requests : RequestKept P
  exec : ∀ c s t, reaches xs c = true → (∀ p frame, c ≠ .refusedRequestFrame p frame) → P s → exec c s = .next t → P t

theorem StepKept.keeps_plain (h : StepKept xs P) {c : Instr} (hplain : ∀ p frame, c ≠ .refusedRequestFrame p frame)
    (hs : P s) (ht : Machine.exec c s = .next t) : P t := by
  cases hreach : reaches xs c with
  | true => exact h.exec c s t hreach hplain hs ht
  | false =>
    obtain ⟨u, hu, hwalk⟩ := exec_answers c s hplain
    obtain rfl : u = t := Host.Outcome.next.inj (hu.symm.trans ht)
    exact h.reads.of_walk h.requests hwalk (not_mem_of_not_reaches hreach) hs

theorem StepKept.keeps_exec (h : StepKept xs P) {c : Instr} (hs : P s) (ht : Machine.exec c s = .next t) : P t := by
  by_cases hplain : ∀ p frame, c ≠ .refusedRequestFrame p frame
  · exact h.keeps_plain hplain hs ht
  · simp only [not_forall, not_not] at hplain
    obtain ⟨p, frame, rfl⟩ := hplain
    obtain ⟨st, kind, he⟩ | he | ⟨i, hi, he⟩ := exec_refusedRequestFrame_cases p frame s
    · rw [he] at ht
      obtain rfl := Host.Outcome.next.inj ht
      split
      · exact h.requests.respond p _ s hs
      · exact hs
    · rw [he] at ht
      obtain rfl := Host.Outcome.next.inj ht
      exact hs
    · rw [he] at ht
      exact h.keeps_plain (request_ne_frame hi) hs ht

/-- Every step keeps the statement. -/
theorem StepKept.keeps_step (h : StepKept xs P) (hs : P s) (ht : step s = .next t) : P t := by
  unfold step at ht
  split at ht
  · obtain rfl := Host.Outcome.next.inj ht
    unfold idle
    split
    · exact h.elapse 1 s hs
    · exact hs
  · rename_i c rest _
    refine h.keeps_exec (s := { s with pending := rest }) (h.reads s _ (fun x hx => ?_) hs) ht
    cases x <;> first | rfl | exact absurd hx h.queue

end Invariant

end Sys2Proof.Machine

/-! The coherence of the ring (chapters 6 and 7): what each operation of the Parcel Engine and of the run
calculators leaves of it, and
that every step keeps it. Inside an event the level and the owing runs stand apart from the rest (`RingCore`), and a take is made
only while no slot is CURRENT (`TakeReady`). -/

namespace Sys2Proof.Machine

/-! ## The parts of the coherence -/

/-- The slots against the current state and the closing record (R96, R98, R105, R115, R119). -/
structure RingSlots (g : Ring) : Prop where
  oneCurrent : ∀ i j, (g.slots.get i).state = .current → (g.slots.get j).state = .current → i = j
  idle : g.current = .idle ↔ ∀ i, (g.slots.get i).state ≠ .current
  held : ∀ i f, (g.slots.get i).state = .current → (g.slots.get i).form = some f → (g.current = .held ↔ formKind f = .hold)
  topped : ∀ i f, (g.slots.get i).state = .current → (g.slots.get i).form = some f → g.current = .topped →
    formKind f = .normal
  closing : ∀ i, (g.slots.get i).state = .closing ↔ ∃ c, g.closing = some c ∧ c.slot = i
  portions : ∀ i r x, (g.slots.get i).portions.get r = some x → x.run = r

/-- The coherence but for the permissive level and the run that must owe. -/
structure RingCore (s : State) : Prop where
  slots : RingSlots s.ring
  owing : ∀ c r, s.ring.closing = some c →
    (c.owing.get r = true ↔ (s.calcOf r).runState = .online ∧ (s.calcOf r).target = some c.slot)
  targets : ∀ r i, (s.calcOf r).target = some i →
    (s.calcOf r).runState = .online
      ∧ ((s.slot i).state = .closing ∨ ((s.slot i).state = .current ∧ s.ring.current ≠ .held))
  taken : ∀ r, (s.calcOf r).runState = .online → s.parcelOpen = true → (s.calcOf r).target ≠ none

/-- FULL or TRIM is driven exactly in OPEN (R101, R105). -/
def State.LevelFollows (s : State) : Prop := s.ring.current = .opened ↔ s.ring.level ≠ .stop

/-- A closing in progress waits for some run (R115, R119). -/
def State.SomeOwe (s : State) : Prop := ∀ c, s.ring.closing = some c → ∃ r, c.owing.get r = true

theorem ringSound_iff {s : State} : s.RingSound ↔ RingCore s ∧ s.LevelFollows ∧ s.SomeOwe :=
  ⟨fun h => ⟨{ h with slots := { h with } }, h.level, h.someOwe⟩, fun ⟨h, hl, ho⟩ => { h, h.slots with level := hl, someOwe := ho }⟩

theorem State.RingSound.core {s : State} (h : s.RingSound) : RingCore s := (ringSound_iff.mp h).1

/-- What a take finds: no slot is CURRENT, and a run's target is the slot that closes. -/
structure TakeReady (s : State) : Prop where
  vacant : ∀ i, (s.slot i).state ≠ .current
  closing : ∀ i, (s.slot i).state = .closing ↔ ∃ c, s.ring.closing = some c ∧ c.slot = i
  owing : ∀ c r, s.ring.closing = some c →
    (c.owing.get r = true ↔ (s.calcOf r).runState = .online ∧ (s.calcOf r).target = some c.slot)
  someOwe : s.SomeOwe
  targets : ∀ r i, (s.calcOf r).target = some i → (s.calcOf r).runState = .online ∧ (s.slot i).state = .closing
  portions : ∀ i r x, (s.slot i).portions.get r = some x → x.run = r

theorem RingCore.takeReady {s : State} (h : RingCore s) (hidle : s.ring.current = .idle) (howe : s.SomeOwe) : TakeReady s where
  vacant := h.slots.idle.mp hidle
  closing := h.slots.closing
  owing := h.owing
  someOwe := howe
  targets r i ht := by
    obtain ⟨hon, hc | ⟨hc, -⟩⟩ := h.targets r i ht
    · exact ⟨hon, hc⟩
    · exact absurd hc (h.slots.idle.mp hidle i)
  portions := h.slots.portions

/-! ## States that agree in what the coherence is about -/

/-- The two states agree in the CURRENT and CLOSING slots, the current state, the level, the closing record and the
runs' targets. -/
structure RingAlike (s t : State) : Prop where
  current : ∀ i, (t.slot i).state = .current ↔ (s.slot i).state = .current
  closing : ∀ i, (t.slot i).state = .closing ↔ (s.slot i).state = .closing
  form : ∀ i, (t.slot i).state = .current → (t.slot i).form = (s.slot i).form
  portions : ∀ i r x, (t.slot i).portions.get r = some x → (s.slot i).portions.get r = some x ∨ x.run = r
  ring : t.ring.current = s.ring.current ∧ t.ring.level = s.ring.level ∧ t.ring.closing = s.ring.closing
  runs : ∀ r, (t.calcOf r).runState = (s.calcOf r).runState ∧ (t.calcOf r).target = (s.calcOf r).target

namespace RingAlike

variable {s t u : State}

theorem refl (s : State) : RingAlike s s where
  current _ := .rfl
  closing _ := .rfl
  form _ _ := rfl
  portions _ _ _ h := .inl h
  ring := ⟨rfl, rfl, rfl⟩
  runs _ := ⟨rfl, rfl⟩

/-- Changes outside the ring and the calculators. -/
theorem of_same (hring : t.ring = s.ring) (hcalcs : t.calcs = s.calcs) : RingAlike s t := by
  have hslot (i : SlotId) : t.slot i = s.slot i := by simp [State.slot, hring]
  have hcalc (r : Run) : t.calcOf r = s.calcOf r := by simp [State.calcOf, hcalcs]
  constructor <;> simp_all

theorem trans (h : RingAlike s t) (k : RingAlike t u) : RingAlike s u where
  current i := (k.current i).trans (h.current i)
  closing i := (k.closing i).trans (h.closing i)
  form i hi := (k.form i hi).trans (h.form i ((k.current i).mp hi))
  portions i r x hx := (k.portions i r x hx).elim (h.portions i r x) .inr
  ring := ⟨k.ring.1.trans h.ring.1, k.ring.2.1.trans h.ring.2.1, k.ring.2.2.trans h.ring.2.2⟩
  runs r := ⟨(k.runs r).1.trans (h.runs r).1, (k.runs r).2.trans (h.runs r).2⟩

theorem parcelOpen (h : RingAlike s t) : t.parcelOpen = s.parcelOpen := by
  simp [State.parcelOpen, h.ring.1]

/-- A run's calculator changes, but neither in service nor in target. -/
theorem setCalc (r : Run) (k : Calculator) (hstate : k.runState = (s.calcOf r).runState)
    (htarget : k.target = (s.calcOf r).target) :
    RingAlike s (s.setCalc r k) := by
  refine { refl s with runs := fun q => ?_ }
  by_cases hq : q = r
  · subst hq
    simp [hstate, htarget]
  · simp [setCalc_ne s hq]

/-- A slot changes that is neither CURRENT nor CLOSING before or after, its portions none or as they were. -/
theorem setSlot (i : SlotId) (x : RingSlot) (hs : (s.slot i).state ≠ .current ∧ (s.slot i).state ≠ .closing)
    (hx : x.state ≠ .current ∧ x.state ≠ .closing)
    (hportions : ∀ r y, x.portions.get r = some y → (s.slot i).portions.get r = some y) : RingAlike s (s.setSlot i x) := by
  have hcase (j : SlotId) : (j = i ∧ (s.setSlot i x).slot j = x) ∨ (j ≠ i ∧ (s.setSlot i x).slot j = s.slot j) := by
    by_cases hj : j = i
    · exact .inl ⟨hj, hj ▸ setSlot_self ..⟩
    · exact .inr ⟨hj, setSlot_ne s hj ..⟩
  refine { refl s with current := fun j => ?_, closing := fun j => ?_, form := fun j hj => ?_, portions := fun j r y hy => ?_ }
  · obtain ⟨rfl, h⟩ | ⟨-, h⟩ := hcase j <;> simp [h, hs, hx]
  · obtain ⟨rfl, h⟩ | ⟨-, h⟩ := hcase j <;> simp [h, hs, hx]
  · obtain ⟨rfl, h⟩ | ⟨-, h⟩ := hcase j
    · exact absurd (h ▸ hj) hx.1
    · rw [h]
  · obtain ⟨rfl, h⟩ | ⟨-, h⟩ := hcase j
    · exact .inl (hportions r y (h ▸ hy))
    · exact .inl (h ▸ hy)

end RingAlike

section Alike

variable {s t : State}

theorem RingSlots.alike (h : RingSlots s.ring) (k : RingAlike s t) : RingSlots t.ring where
  oneCurrent i j hi hj := h.oneCurrent i j ((k.current i).mp hi) ((k.current j).mp hj)
  idle := by
    rw [k.ring.1, h.idle]
    exact forall_congr' fun i => not_congr (k.current i).symm
  held i f hi hf := by rw [k.ring.1]; exact h.held i f ((k.current i).mp hi) ((k.form i hi).symm.trans hf)
  topped i f hi hf ht := h.topped i f ((k.current i).mp hi) ((k.form i hi).symm.trans hf) (k.ring.1 ▸ ht)
  closing i := by rw [k.ring.2.2]; exact (k.closing i).trans (h.closing i)
  portions i r x hx := (k.portions i r x hx).elim (h.portions i r x) id

theorem RingCore.alike (h : RingCore s) (k : RingAlike s t) : RingCore t where
  slots := h.slots.alike k
  owing c r hc := by rw [(k.runs r).1, (k.runs r).2]; exact h.owing c r (k.ring.2.2 ▸ hc)
  targets r i ht := by
    rw [(k.runs r).1, k.closing, k.current, k.ring.1]
    exact h.targets r i ((k.runs r).2 ▸ ht)
  taken r hr ho := by
    rw [(k.runs r).2]
    exact h.taken r ((k.runs r).1 ▸ hr) (k.parcelOpen ▸ ho)

theorem State.RingSound.alike (h : s.RingSound) (k : RingAlike s t) : t.RingSound :=
  ringSound_iff.mpr ⟨h.core.alike k, by unfold State.LevelFollows; rw [k.ring.1, k.ring.2.1]; exact h.level,
    fun c hc => h.someOwe c (k.ring.2.2 ▸ hc)⟩

end Alike

/-- The coherence rests on the ring and the calculators. -/
theorem ringSound_reads : Reads [.ring, .calcs] State.RingSound := fun s t h hs =>
  hs.alike (.of_same (h .ring (by simp)) (h .calcs (by simp)))

/-! ## Takes (R98, R99) -/

section Takes

variable {s : State}

theorem parcelOpen_iff : s.parcelOpen = true ↔ s.ring.current = .opened ∨ s.ring.current = .topped := by
  simp [State.parcelOpen]

theorem goIdle_sound (h : TakeReady s) : (goIdle s).RingSound where
  oneCurrent i j hi := absurd hi (h.vacant i)
  idle := ⟨fun _ => h.vacant, fun _ => rfl⟩
  held i f hi := absurd hi (h.vacant i)
  topped i f hi := absurd hi (h.vacant i)
  level := by simp [goIdle]
  closing := h.closing
  owing := h.owing
  someOwe := h.someOwe
  targets r i ht := ⟨(h.targets r i ht).1, .inl (h.targets r i ht).2⟩
  taken r _ ho := by simp [goIdle, State.parcelOpen] at ho
  portions := h.portions

theorem slot_setSlot (i j : SlotId) (x : RingSlot) : (s.setSlot i x).slot j = if j = i then x else s.slot j := by
  split
  · rename_i hj
    subst hj
    exact setSlot_self ..
  · rename_i hj
    exact setSlot_ne s hj ..

/-- The ring after a look that passes over a VOID head slot: it is FREE and the head advances. -/
def passVoid (s : State) : State :=
  { s.setSlot s.ring.head .empty with
    ring := { (s.setSlot s.ring.head .empty).ring with head := s.ring.head + 1 } }

theorem passVoid_slot (j : SlotId) : (passVoid s).slot j = if j = s.ring.head then .empty else s.slot j := slot_setSlot ..

theorem passVoid_takeReady (h : TakeReady s) (hvoid : (s.slot s.ring.head).state = .void) : TakeReady (passVoid s) where
  vacant j := by
    rw [passVoid_slot]
    split
    · simp [RingSlot.empty]
    · exact h.vacant j
  closing j := by
    rw [passVoid_slot]
    split
    · rename_i hj
      have := h.closing j
      subst hj
      simp_all [RingSlot.empty, passVoid]
    · exact h.closing j
  owing := h.owing
  someOwe := h.someOwe
  targets r j ht := by
    obtain ⟨hon, hc⟩ := h.targets r j ht
    refine ⟨hon, ?_⟩
    rw [passVoid_slot, if_neg (fun hj => by simp_all)]
    exact hc
  portions j r x hx := by
    rw [passVoid_slot] at hx
    split at hx
    · simp [RingSlot.empty] at hx
    · exact h.portions j r x hx

/-- The slots after the head slot has become CURRENT. -/
theorem openHead_slot (current : CurrentState) (level : Permissive) (j : SlotId) :
    (openHead current level s).slot j = if j = s.ring.head then
      { s.slot s.ring.head with state := .current, openTime := some s.terminalTime, portions := .all none } else s.slot j :=
  slot_setSlot ..

theorem openHead_state_current (h : TakeReady s) (current : CurrentState) (level : Permissive) (i : SlotId) :
    ((openHead current level s).slot i).state = .current ↔ i = s.ring.head := by
  rw [openHead_slot]
  split <;> simp_all [h.vacant i]

theorem openHead_state_closing (harmed : (s.slot s.ring.head).state = .armed) (current : CurrentState) (level : Permissive)
    (i : SlotId) : ((openHead current level s).slot i).state = .closing ↔ (s.slot i).state = .closing := by
  rw [openHead_slot]
  split <;> simp_all

/-- The armed head slot becomes CURRENT, alone. -/
theorem openHead_slots (h : TakeReady s) {current : CurrentState} {level : Permissive} {f : ControlForm}
    (harmed : (s.slot s.ring.head).state = .armed) (hform : (s.slot s.ring.head).form = some f)
    (hidle : current ≠ .idle) (htopped : current ≠ .topped) (hheld : current = .held ↔ formKind f = .hold) :
    RingSlots (openHead current level s).ring where
  oneCurrent i j hi hj := ((openHead_state_current h ..).mp hi).trans ((openHead_state_current h ..).mp hj).symm
  idle := ⟨fun hc => absurd hc hidle, fun hn => absurd ((openHead_state_current h ..).mpr rfl) (hn s.ring.head)⟩
  held i g hi hg := by
    change ((openHead current level s).slot i).form = some g at hg
    rw [openHead_slot, if_pos ((openHead_state_current h ..).mp hi)] at hg
    obtain rfl : f = g := Option.some.inj (hform.symm.trans hg)
    exact hheld
  topped i g hi hg ht := absurd ht htopped
  closing i := (openHead_state_closing harmed ..).trans (h.closing i)
  portions i r x hx := by
    change ((openHead current level s).slot i).portions.get r = some x at hx
    rw [openHead_slot] at hx
    split at hx
    · simp at hx
    · exact h.portions i r x hx

/-- Every ONLINE run without a target takes the slot (R99); nothing else of a calculator changes. -/
theorem giveTarget_calcOf (i : SlotId) (r : Run) : (giveTarget i s).calcOf r =
    { s.calcOf r with
      target := if (s.calcOf r).runState = .online ∧ (s.calcOf r).target = none then some i else (s.calcOf r).target } := by
  have h : (giveTarget i s).calcOf r = if (s.calcOf r).runState = .online ∧ (s.calcOf r).target = none then
      { s.calcOf r with target := some i } else s.calcOf r := PerRun.get_map ..
  rw [h]
  split <;> rfl

/-- A parcel opens from the armed head slot and becomes the target of the runs that have none. -/
theorem openParcel_sound (h : TakeReady s) {f : ControlForm} (harmed : (s.slot s.ring.head).state = .armed)
    (hform : (s.slot s.ring.head).form = some f) (hkind : formKind f ≠ .hold) :
    (giveTarget s.ring.head (openHead .opened .full s)).RingSound := by
  have hcalc (r : Run) : (giveTarget s.ring.head (openHead .opened .full s)).calcOf r =
      { s.calcOf r with
        target := if (s.calcOf r).runState = .online ∧ (s.calcOf r).target = none then some s.ring.head
          else (s.calcOf r).target } := giveTarget_calcOf ..
  have hslots : RingSlots (openHead .opened .full s).ring :=
    openHead_slots h harmed hform nofun nofun ⟨nofun, fun hc => absurd hc hkind⟩
  refine ringSound_iff.mpr ⟨⟨hslots, fun c r hc => ?_, fun r i ht => ?_, fun r hr _ => ?_⟩, ⟨nofun, fun _ => rfl⟩, h.someOwe⟩
  · have hne : s.ring.head ≠ c.slot := fun hi => by
      have := (h.closing s.ring.head).mpr ⟨c, hc, hi.symm⟩
      simp_all
    rw [hcalc, h.owing c r hc]
    dsimp only
    split <;> simp_all
  · rw [hcalc] at ht ⊢
    dsimp only at ht ⊢
    split at ht
    · rename_i hr
      obtain rfl := Option.some.inj ht
      exact ⟨hr.1, .inr ⟨(openHead_state_current h ..).mpr rfl, nofun⟩⟩
    · obtain ⟨hon, hc⟩ := h.targets r i ht
      exact ⟨hon, .inl ((openHead_state_closing harmed ..).mpr hc)⟩
  · rw [hcalc] at hr ⊢
    dsimp only at hr ⊢
    split
    · simp
    · rename_i hnone
      exact fun hn => hnone ⟨hr, hn⟩

/-- A hold opens from the armed head slot and is no run's target. -/
theorem openHold_sound (h : TakeReady s) {f : ControlForm} (harmed : (s.slot s.ring.head).state = .armed)
    (hform : (s.slot s.ring.head).form = some f) (hkind : formKind f = .hold) :
    (openHead .held .stop s).RingSound := by
  have hslots : RingSlots (openHead .held .stop s).ring :=
    openHead_slots h harmed hform nofun nofun ⟨fun _ => hkind, fun _ => rfl⟩
  refine ringSound_iff.mpr ⟨⟨hslots, h.owing, fun r i ht => ?_, fun r _ ho => ?_⟩, ⟨nofun, fun hl => absurd rfl hl⟩, h.someOwe⟩
  · obtain ⟨hon, hc⟩ := h.targets r i ht
    exact ⟨hon, .inl ((openHead_state_closing harmed ..).mpr hc)⟩
  · simp [openHead, State.parcelOpen] at ho

/-- A take, from the first look to the last (R98). -/
theorem takeLooks_sound (n : Nat) (h : TakeReady s) : (takeLooks n s).RingSound := by
  induction n generalizing s with
  | zero => exact goIdle_sound h
  | succ n ih =>
    unfold takeLooks
    dsimp only
    split
    case h_1 hvoid => exact ih (passVoid_takeReady h hvoid)
    case h_2 harmed =>
      split
      case h_1 hkind =>
        obtain ⟨f, hform, hkind⟩ := Option.map_eq_some_iff.mp hkind
        exact openParcel_sound h harmed hform (by simp [hkind])
      case h_2 hkind =>
        obtain ⟨f, hform, hkind⟩ := Option.map_eq_some_iff.mp hkind
        exact openParcel_sound h harmed hform (by simp [hkind])
      case h_3 hkind =>
        obtain ⟨f, hform, hkind⟩ := Option.map_eq_some_iff.mp hkind
        exact (openHold_sound h harmed hform hkind).alike (.of_same rfl rfl)
      case h_4 => exact goIdle_sound h
    all_goals exact goIdle_sound h

theorem takeNext_sound (h : TakeReady s) : (takeNext s).RingSound := takeLooks_sound 9 h

end Takes

/-! ## Closing a parcel (R115 to R119) -/

section Closings

variable {s : State}

theorem none?_iff {o : RunSet} : RunSet.none? o = true ↔ ∀ r, o.get r = false := by
  constructor
  · intro h r
    cases r <;> simp_all [RunSet.none?, PerRun.get]
  · intro h
    have := h .r1
    have := h .r2
    have := h .r3
    have := h .r4
    simp_all [RunSet.none?, PerRun.get]

theorem exists_owing_of_not_none? {o : RunSet} (h : ¬ RunSet.none? o = true) : ∃ r, o.get r = true := by
  rw [none?_iff] at h
  push Not at h
  simpa using h

/-- The slot of the closing in progress with its ticket. -/
def ticketedSlot (c : Closing) (s : State) : RingSlot :=
  { s.slot c.slot with
    state := .complete, ticket := some (ticketOf (s.slot c.slot) c), collected := .all false }

/-- The ring once the ticket of the closing in progress is written. -/
def ticketedRing (c : Closing) (s : State) : Ring :=
  { (s.setSlot c.slot (ticketedSlot c s)).ring with
    standingGrade := (((s.slot c.slot).form.bind formGrade).getD s.ring.standingGrade), closing := none }

theorem writeTicket_some {c : Closing} (hc : s.ring.closing = some c) :
    ∃ x, writeTicket s = { s with ring := ticketedRing c s, links := x } := by
  simp only [writeTicket, hc]
  obtain ⟨x, h⟩ := postTo_touches (((s.slot c.slot).form.bind formWitness).getD (.all false)) .ticketReady (slotBit c.slot)
    { s with ring := ticketedRing c s }
  exact ⟨x, h⟩

/-- Writing the ticket of a closing that no run owes. -/
theorem writeTicket_core {c : Closing} (h : RingCore s) (hc : s.ring.closing = some c) (hnone : ∀ r, c.owing.get r = false) :
    RingCore (writeTicket s) := by
  obtain ⟨x, hx⟩ := writeTicket_some hc
  rw [hx]
  have hslot (i : SlotId) : (ticketedRing c s).slots.get i = if i = c.slot then ticketedSlot c s else s.slot i :=
    slot_setSlot ..
  have hclosing : (s.slot c.slot).state = .closing := (h.slots.closing c.slot).mpr ⟨c, hc, rfl⟩
  have hcur (i : SlotId) : ((ticketedRing c s).slots.get i).state = .current ↔ (s.slot i).state = .current := by
    rw [hslot]
    split
    · simp_all [ticketedSlot]
    · rfl
  have hform (i : SlotId) : ((ticketedRing c s).slots.get i).form = (s.slot i).form := by
    rw [hslot]
    split
    · simp_all [ticketedSlot]
    · rfl
  refine ⟨⟨fun i j hi hj => ?_, ?_, fun i f hi hf => ?_, fun i f hi hf ht => ?_, fun i => ?_, fun i r y hy => ?_⟩, nofun,
    fun r i ht => ?_, h.taken⟩
  · exact h.slots.oneCurrent i j ((hcur i).mp hi) ((hcur j).mp hj)
  · exact h.slots.idle.trans (forall_congr' fun i => not_congr (hcur i).symm)
  · exact h.slots.held i f ((hcur i).mp hi) ((hform i).symm.trans hf)
  · exact h.slots.topped i f ((hcur i).mp hi) ((hform i).symm.trans hf) ht
  · rw [hslot]
    split
    · simp [ticketedSlot, ticketedRing]
    · rename_i hi
      refine iff_of_false (fun hi' => ?_) (by simp [ticketedRing])
      obtain ⟨c', hc', rfl⟩ := (h.slots.closing i).mp hi'
      exact hi (by rw [Option.some.inj (hc.symm.trans hc')])
  · refine h.slots.portions i r y ?_
    rw [hslot] at hy
    split at hy
    · rename_i hi
      subst hi
      exact hy
    · exact hy
  · obtain ⟨hon, hi⟩ := h.targets r i ht
    have hne : i ≠ c.slot := fun hi => by
      have := (h.owing c r hc).mpr ⟨hon, hi ▸ ht⟩
      simp [hnone r] at this
    refine ⟨hon, ?_⟩
    change ((ticketedRing c s).slots.get i).state = _ ∨ ((ticketedRing c s).slots.get i).state = _ ∧ _
    rw [hslot, if_neg hne]
    exact hi

theorem writeTicket_closing (s : State) : (writeTicket s).ring.closing = none := by
  cases hc : s.ring.closing with
  | none => simp [writeTicket, hc]
  | some c =>
    obtain ⟨x, hx⟩ := writeTicket_some hc
    rw [hx]
    rfl

theorem someOwe_of_closing_none (h : s.ring.closing = none) : s.SomeOwe := fun c hc => by simp [h] at hc

/-- Step 5 of R115. -/
theorem writeIfNoneOwe_core (h : RingCore s) : RingCore (writeIfNoneOwe s) ∧ (writeIfNoneOwe s).SomeOwe := by
  unfold writeIfNoneOwe
  split
  · exact ⟨h, someOwe_of_closing_none ‹_›⟩
  · rename_i c hc
    split
    · exact ⟨writeTicket_core h hc (none?_iff.mp ‹_›), someOwe_of_closing_none (writeTicket_closing s)⟩
    · refine ⟨h, fun c' hc' => ?_⟩
      obtain rfl := Option.some.inj (hc.symm.trans hc')
      exact exists_owing_of_not_none? ‹_›

theorem applyPendingK_alike (r : Run) (s : State) : RingAlike s (applyPendingK r s) := by
  unfold applyPendingK
  split
  · exact .refl s
  · exact .setCalc r _ rfl rfl

/-- The run moves on to the target the engine offers (R117). -/
def moveOn (r : Run) (s : State) : State := s.setCalc r { s.calcOf r with target := s.offeredTarget }

/-- The run leaves the owing set of the closing in progress (R117). -/
def leaveOwing (r : Run) (s : State) : State :=
  match s.ring.closing with
  | none => s
  | some c => { s with ring := { s.ring with closing := some { c with owing := c.owing.set r false } } }

theorem leaveOwing_eq (r : Run) (s : State) : leaveOwing r s =
    { s with ring := { s.ring with closing := s.ring.closing.map fun c => { c with owing := c.owing.set r false } } } := by
  unfold leaveOwing
  split
  · rename_i hc
    rw [hc, Option.map_none, ← hc]
  · rename_i hc
    rw [hc]
    rfl

theorem closePortion_eq (r : Run) (s : State) :
    closePortion r s = writeIfNoneOwe (leaveOwing r (moveOn r (applyPendingK r s))) := by
  unfold closePortion
  dsimp only
  split
  · rename_i hc
    have hc : (moveOn r (applyPendingK r s)).ring.closing = none := hc
    simp only [leaveOwing, writeIfNoneOwe, hc]
    rfl
  · rename_i c hc
    have hc : (moveOn r (applyPendingK r s)).ring.closing = some c := hc
    simp only [leaveOwing, hc]
    rfl

theorem currentSlot_some {i : SlotId} (h : s.currentSlot = some i) : (s.slot i).state = .current := by
  simpa using List.find?_some h

theorem mem_slotIds : ∀ i, i ∈ slotIds := by decide

theorem currentSlot_ne_none (h : ¬ ∀ i, (s.slot i).state ≠ .current) : s.currentSlot ≠ none := fun hn =>
  h fun i hi => by simpa [hi] using List.find?_eq_none.mp hn i (mem_slotIds i)

theorem leave_core {r : Run} (h : RingCore s) (hr : (s.calcOf r).runState = .online ∨ s.parcelOpen = false) :
    RingCore (leaveOwing r (moveOn r s)) := by
  have hcalc (q : Run) : (leaveOwing r (moveOn r s)).calcOf q =
      if q = r then { s.calcOf r with target := s.offeredTarget } else s.calcOf q := by
    rw [leaveOwing_eq]
    split
    · rename_i hq
      subst hq
      exact setCalc_self ..
    · exact setCalc_ne s ‹_› ..
  have hoffer {i : SlotId} (hi : s.offeredTarget = some i) : s.parcelOpen = true ∧ (s.slot i).state = .current := by
    unfold State.offeredTarget at hi
    split at hi
    · exact ⟨‹_›, currentSlot_some hi⟩
    · simp at hi
  rw [leaveOwing_eq] at hcalc ⊢
  refine ⟨⟨h.slots.oneCurrent, h.slots.idle, h.slots.held, h.slots.topped, fun i => ?_, h.slots.portions⟩, fun c q hc => ?_,
    fun q i ht => ?_, fun q hq ho => ?_⟩
  · refine (h.slots.closing i).trans ?_
    simp [moveOn]
  · obtain ⟨c, hcl, rfl⟩ := Option.map_eq_some_iff.mp hc
    rw [hcalc]
    by_cases hq : q = r
    · subst hq
      simp only [PerRun.get_set_self, if_true, Bool.false_eq_true, false_iff, not_and]
      intro _ ht
      have hcur := (hoffer ht).2
      have := (h.slots.closing c.slot).mpr ⟨c, hcl, rfl⟩
      simp_all [State.slot]
    · rw [if_neg hq, PerRun.get_set_ne hq]
      exact h.owing c q hcl
  · rw [hcalc] at ht ⊢
    split at ht
    · rename_i hq
      obtain ⟨ho, hcur⟩ := hoffer ht
      rw [if_pos hq]
      refine ⟨hr.resolve_right (by simp [ho]), .inr ⟨hcur, fun hheld => ?_⟩⟩
      have : s.ring.current = .held := hheld
      simp [State.parcelOpen, this] at ho
    · rename_i hq
      rw [if_neg hq]
      exact h.targets q i ht
  · rw [hcalc] at hq ⊢
    split
    · have ho : s.parcelOpen = true := ho
      simp only [State.offeredTarget, ho, if_true]
      refine currentSlot_ne_none fun hn => ?_
      have := h.slots.idle.mpr hn
      simp [State.parcelOpen, this] at ho
    · rw [if_neg ‹_›] at hq
      exact h.taken q hq ho

/-- The portion of a run closes: of one that is ONLINE, or while no parcel is open. -/
theorem closePortion_core {r : Run} (h : RingCore s) (hr : (s.calcOf r).runState = .online ∨ s.parcelOpen = false) :
    RingCore (closePortion r s) ∧ (closePortion r s).SomeOwe := by
  rw [closePortion_eq]
  have hk := applyPendingK_alike r s
  refine writeIfNoneOwe_core (leave_core (h.alike hk) ?_)
  rwa [(hk.runs r).1, hk.parcelOpen]

end Closings

end Sys2Proof.Machine

/-! Every step keeps the coherence of the ring: the closings, the arrivals, the periods, service, and the start of the part. -/

namespace Sys2Proof.Machine

section Closings

variable {s : State}

/-! ## A closing starts (R115) -/

/-- Steps 1 to 3 of R115, for a CURRENT slot of an open parcel. -/
theorem beginClosing_core (h : s.RingSound) {i : SlotId} (reason : CloseReason) (hi : (s.slot i).state = .current)
    (hclosing : s.ring.closing = none) : RingCore (beginClosing i reason s) := by
  have hslot (j : SlotId) : (beginClosing i reason s).slot j =
      if j = i then { s.slot i with state := .closing } else s.slot j := slot_setSlot ..
  have hnone (j : SlotId) : (s.slot j).state ≠ .closing := fun hj => by
    obtain ⟨c, hc, -⟩ := (h.closing j).mp hj
    simp [hclosing] at hc
  have hcur (j : SlotId) : ((beginClosing i reason s).slot j).state ≠ .current := by
    rw [hslot]
    split
    · simp
    · exact fun hj => ‹¬ j = i› (h.oneCurrent j i hj hi)
  refine ⟨⟨fun j k hj => absurd hj (hcur j), ⟨fun _ => hcur, fun _ => rfl⟩, fun j f hj => absurd hj (hcur j),
    fun j f hj => absurd hj (hcur j), fun j => ?_, fun j r x hx => ?_⟩, fun c r hc => ?_, fun r j ht => ?_, fun r _ ho => ?_⟩
  · change ((beginClosing i reason s).slot j).state = _ ↔ _
    rw [hslot]
    split
    · exact iff_of_true rfl ⟨_, rfl, (‹j = i›).symm⟩
    · exact iff_of_false (hnone j) fun ⟨c, hc, hj⟩ => ‹¬ j = i› (hj ▸ (congrArg Closing.slot (Option.some.inj hc)).symm)
  · refine h.portions j r x ?_
    change ((beginClosing i reason s).slot j).portions.get r = some x at hx
    rw [hslot] at hx
    split at hx
    · simp_all
    · exact hx
  · obtain rfl := Option.some.inj hc
    change (s.calcs.map fun k => owes k i).get r = true ↔ _
    rw [PerRun.get_map]
    simp [owes, State.calcOf, beginClosing]
  · obtain ⟨hon, hj⟩ := h.targets r j ht
    refine ⟨hon, .inl ?_⟩
    obtain rfl : j = i := h.oneCurrent j i (hj.resolve_left (hnone j)).1 hi
    rw [hslot, if_pos rfl]
  · simp [beginClosing, State.parcelOpen] at ho

theorem writeTicket_current (s : State) :
    (writeTicket s).ring.current = s.ring.current ∧ (writeTicket s).ring.level = s.ring.level := by
  cases hc : s.ring.closing with
  | none => simp [writeTicket, hc]
  | some c =>
    obtain ⟨x, hx⟩ := writeTicket_some hc
    rw [hx]
    exact ⟨rfl, rfl⟩

theorem writeIfNoneOwe_current (s : State) : (writeIfNoneOwe s).ring.current = s.ring.current
    ∧ (writeIfNoneOwe s).ring.level = s.ring.level := by
  unfold writeIfNoneOwe
  split
  · exact ⟨rfl, rfl⟩
  · split
    · exact writeTicket_current s
    · exact ⟨rfl, rfl⟩

/-- The closing of a portion leaves the current state and the level. -/
theorem closePortion_current (r : Run) (s : State) : (closePortion r s).ring.current = s.ring.current
    ∧ (closePortion r s).ring.level = s.ring.level := by
  have hk := (applyPendingK_alike r s).ring
  rw [closePortion_eq, (writeIfNoneOwe_current _).1, (writeIfNoneOwe_current _).2, leaveOwing_eq]
  exact ⟨hk.1, hk.2.1⟩

theorem startClosing_sound (h : s.RingSound) {i : SlotId} (reason : CloseReason) (q : Option Run)
    (hi : (s.slot i).state = .current) (hclosing : s.ring.closing = none) :
    (startClosing i reason q s).RingSound := by
  have hbegin := beginClosing_core h reason hi hclosing
  refine takeNext_sound ?_
  cases q with
  | none =>
    obtain ⟨hcore, howe⟩ := writeIfNoneOwe_core hbegin
    exact hcore.takeReady (writeIfNoneOwe_current _).1 howe
  | some r =>
    obtain ⟨hcore, howe⟩ := writeIfNoneOwe_core (closePortion_core (r := r) hbegin (.inr rfl)).1
    exact hcore.takeReady ((writeIfNoneOwe_current _).1.trans (closePortion_current ..).1) howe

/-- The portion of an ONLINE run closes. -/
theorem closePortion_sound {r : Run} (h : s.RingSound) (hr : (s.calcOf r).runState = .online) : (closePortion r s).RingSound := by
  obtain ⟨hcore, howe⟩ := closePortion_core h.core (.inl hr)
  refine ringSound_iff.mpr ⟨hcore, ?_, howe⟩
  unfold State.LevelFollows
  rw [(closePortion_current r s).1, (closePortion_current r s).2]
  exact h.level

theorem freeHold_sound (h : s.RingSound) (hheld : s.ring.current = .held) : (freeHold s).RingSound := by
  unfold freeHold
  split
  · rename_i hnone
    exact absurd hnone (currentSlot_ne_none fun hn => by simp [h.idle.mpr hn] at hheld)
  · rename_i i hi
    have hi := currentSlot_some hi
    have htargets (r : Run) (j : SlotId) (ht : (s.calcOf r).target = some j) :
        (s.calcOf r).runState = .online ∧ (s.slot j).state = .closing := by
      obtain ⟨hon, hj⟩ := h.targets r j ht
      exact ⟨hon, hj.resolve_right fun hc => hc.2 hheld⟩
    refine takeNext_sound ⟨fun j => ?_, fun j => ?_, h.owing, h.someOwe, fun r j ht => ?_, fun j r x hx => ?_⟩
    · rw [slot_setSlot]
      split
      · simp [RingSlot.empty]
      · exact fun hj => ‹¬ j = i› (h.oneCurrent j i hj hi)
    · rw [slot_setSlot]
      have := h.closing j
      split <;> simp_all [RingSlot.empty]
    · refine ⟨(htargets r j ht).1, ?_⟩
      rw [slot_setSlot, if_neg (fun hj => ?_)]
      · exact (htargets r j ht).2
      · have := (htargets r j ht).2
        simp_all
    · rw [slot_setSlot] at hx
      split at hx
      · simp [RingSlot.empty] at hx
      · exact h.portions j r x hx

theorem takeNext_sound_of_idle (h : s.RingSound) (hidle : s.ring.current = .idle) : (takeNext s).RingSound :=
  takeNext_sound (h.core.takeReady hidle h.someOwe)

theorem takeIfHead_sound (h : s.RingSound) (i : SlotId) : (takeIfHead i s).RingSound := by
  unfold takeIfHead
  split
  · exact takeNext_sound_of_idle h (‹_ ∧ _›).2
  · exact h

end Closings

/-! ## Arrivals (R100) -/

section Arrivals

variable {s : State}

theorem addToPortion_sound (h : s.RingSound) (i : SlotId) (a : Arrival) : (addToPortion i a s).RingSound := by
  have hslot (j : SlotId) := slot_setSlot (s := s) i j
  refine h.alike { RingAlike.refl s with current := fun j => ?_, closing := fun j => ?_, form := fun j _ => ?_, portions :=
      fun j r x hx => ?_ }
  all_goals
    unfold addToPortion at *
    rw [hslot] at *
    by_cases hj : j = i
  case pos => subst hj; simp
  case neg => simp [hj]
  case pos => subst hj; simp
  case neg => simp [hj]
  case pos => subst hj; simp
  case neg => simp [hj]
  case pos =>
    subst hj
    rw [if_pos rfl] at hx
    by_cases hr : r = a.run
    · subst hr
      right
      simp only [PerRun.get_set_self, Option.some.injEq] at hx
      subst hx
      split
      · rfl
      · rename_i y hy
        exact h.portions j _ y hy
    · left
      rwa [PerRun.get_set_ne hr] at hx
  case neg =>
    rw [if_neg hj] at hx
    exact .inl hx

theorem evaluatePermissive_sound (h : s.RingSound) (i : SlotId) : (evaluatePermissive i s).RingSound := by
  unfold evaluatePermissive
  split
  · rename_i _ _ _ _ _ _ _ _ _ _ hi hf
    dsimp only
    split
    · rename_i hopen
      split
      · have htop : State.RingSound { s with ring := { s.ring with current := .topped, level := .stop } } := by
          have hcur (j : SlotId) (hj : (s.slot j).state = .current) : j = i := h.oneCurrent j i hj hi
          refine { h with idle := ?_, held := fun j f hj hjf => ?_, topped := fun j f hj hjf _ => ?_, level := ?_,
                          targets := fun r j ht => ?_, taken := fun r hr _ => ?_ }
          · exact ⟨nofun, fun hn => absurd hi (hn i)⟩
          · obtain rfl := hcur j hj
            obtain rfl := Option.some.inj (hf.symm.trans hjf)
            exact ⟨nofun, nofun⟩
          · obtain rfl := hcur j hj
            obtain rfl := Option.some.inj (hf.symm.trans hjf)
            rfl
          · exact ⟨nofun, fun hl => absurd rfl hl⟩
          · obtain ⟨hon, hj⟩ := h.targets r j ht
            exact ⟨hon, hj.imp_right fun hj => ⟨hj.1, nofun⟩⟩
          · exact h.taken r hr (by simp [State.parcelOpen, hopen])
        exact htop.alike (.of_same rfl rfl)
      · split
        · have htrim : State.RingSound { s with ring := { s.ring with level := .trim } } :=
            { h with level := ⟨fun _ => nofun, fun _ => hopen⟩ }
          exact htrim.alike (.of_same rfl rfl)
        · exact h
    · exact h
  · exact h

theorem assignArrival_sound (h : s.RingSound) (a : Arrival) : (assignArrival a s).RingSound := by
  unfold assignArrival
  split
  · exact h
  · exact evaluatePermissive_sound (addToPortion_sound h _ a) _

theorem applyWatch_sound (h : s.RingSound) (a : Arrival) : (applyWatch a s).RingSound := by
  have hwatch (b : Bool) : State.RingSound { s with ring := { s.ring with watch := b } } := { h with }
  unfold applyWatch
  split
  · exact hwatch true
  · split
    · exact h
    · dsimp only
      split
      · exact (hwatch false).alike (.of_same rfl rfl)
      · exact hwatch false

theorem quietTest_cases {i : SlotId} (h : quietTest i s = true) :
    (s.slot i).state = .current ∧ s.ring.current = .topped ∧ s.ring.closing = none := by
  unfold quietTest at h
  simp only [Bool.and_eq_true, decide_eq_true_eq, Option.isNone_iff_eq_none] at h
  exact ⟨h.1.1.1, h.1.1.2, h.1.2⟩

theorem owedArrival_cases {a : Arrival} (h : owedArrival a s = true) :
    ∃ c, s.ring.closing = some c ∧ c.owing.get a.run = true ∧ a.destination = some c.slot := by
  unfold owedArrival at h
  split at h
  · simp at h
  · rename_i c hc
    simp only [Bool.and_eq_true, decide_eq_true_eq] at h
    exact ⟨c, hc, h⟩

theorem advanceClosing_sound (h : s.RingSound) (a : Arrival) : (advanceClosing a s).RingSound := by
  unfold advanceClosing
  split
  · obtain ⟨c, hc, howe, -⟩ := owedArrival_cases ‹_›
    exact closePortion_sound h ((h.owing c _ hc).mp howe).1
  · split
    · exact h
    · split
      · obtain ⟨hcur, -, hclosing⟩ := quietTest_cases ‹_›
        exact startClosing_sound h _ _ hcur hclosing
      · exact h

theorem engineArrival_sound (h : s.RingSound) (a : Arrival) : (engineArrival a s).RingSound :=
  advanceClosing_sound (applyWatch_sound (assignArrival_sound h a) a) a

theorem takeAtEngine_sound (h : s.RingSound) (r : Run) : (takeAtEngine r s).RingSound := by
  unfold takeAtEngine
  split
  · exact h
  · exact engineArrival_sound (s := { s with toEngine := s.toEngine.set r none }) (h.alike (.of_same rfl rfl)) _

theorem takeArrivals_sound (h : s.RingSound) (r : Run) : (takeArrivals r s).RingSound :=
  (takeAtEngine_sound h r).alike (.of_same rfl rfl)

/-- What holds of the start and is kept for each run holds after all four. -/
theorem runs_foldl_keeps {P : State → Prop} {f : State → Run → State} (hf : ∀ s r, P s → P (f s r)) (l : List Run) (h : P s) :
    P (l.foldl f s) := by
  induction l generalizing s with
  | nil => exact h
  | cons r l ih => exact ih (hf s r h)

theorem settleArrivals_sound (h : s.RingSound) : (settleArrivals s).RingSound :=
  runs_foldl_keeps (P := State.RingSound) (fun _ r hs => takeArrivals_sound hs r) runs h

end Arrivals

/-! ## Periods and service -/

section Periods

variable {s : State}

theorem calculatorAfter_inService (i : PeriodInputs) (k : Calculator) :
    (i.calculatorAfter k).runState = k.runState ∧ (i.calculatorAfter k).target = k.target := by
  unfold PeriodInputs.calculatorAfter
  generalize i.newRI = a, i.newRR = b, i.newRG = c, i.newRN = d
  exact ⟨rfl, rfl⟩

theorem closePeriod_calcs (r : Run) (tMs : Nat) (restart : Bool) (s : State) : (closePeriod r tMs restart s).calcs =
    (s.setCalc r ((gatherPeriod r tMs restart s).1.calculatorAfter (s.calcOf r))).calcs := by
  obtain ⟨v, l, h⟩ := closePeriod_touches r tMs restart s
  rw [h]
  rfl

theorem closePeriod_ring (r : Run) (tMs : Nat) (restart : Bool) (s : State) : (closePeriod r tMs restart s).ring = s.ring := by
  obtain ⟨v, l, h⟩ := closePeriod_touches r tMs restart s
  rw [h]

theorem closePeriod_alike (r : Run) (tMs : Nat) (restart : Bool) (s : State) : RingAlike s (closePeriod r tMs restart s) := by
  obtain ⟨hstate, htarget⟩ := calculatorAfter_inService (gatherPeriod r tMs restart s).1 (s.calcOf r)
  exact (RingAlike.setCalc r _ hstate htarget).trans (.of_same (closePeriod_ring ..) (closePeriod_calcs ..))

theorem openPeriod_alike (r : Run) (s : State) : RingAlike s (openPeriod r s) := .setCalc r _ rfl rfl

theorem expirePeriod_sound (h : s.RingSound) (r : Run) : (expirePeriod r s).RingSound :=
  (takeAtEngine_sound h r).alike ((closePeriod_alike ..).trans (openPeriod_alike ..))

theorem offeredTarget_cases : s.offeredTarget = none ∨ ∃ i, s.offeredTarget = some i ∧ s.parcelOpen = true ∧ (s.slot i).state = .current := by
  unfold State.offeredTarget
  split
  · cases hc : s.currentSlot with
    | none => exact .inl rfl
    | some i => exact .inr ⟨i, rfl, ‹_›, currentSlot_some hc⟩
  · exact .inl rfl

theorem goOnline_sound (h : s.RingSound) {r : Run} (hoff : (s.calcOf r).runState ≠ .online) : (goOnline r s).RingSound := by
  have hcalc (q : Run) : ((goOnline r s).calcOf q).runState = (if q = r then .online else (s.calcOf q).runState)
      ∧ ((goOnline r s).calcOf q).target = if q = r then s.offeredTarget else (s.calcOf q).target := by
    by_cases hq : q = r
    · subst hq
      simp [goOnline]
    · simp [goOnline, hq, setCalc_ne s hq]
  refine { h with owing := fun c q hc => ?_, targets := fun q i ht => ?_, taken := fun q hq ho => ?_ }
  · rw [(hcalc q).1, (hcalc q).2, h.owing c q hc]
    by_cases hq : q = r
    · subst hq
      simp only [hoff, false_and, if_true, true_and, false_iff]
      intro ht
      obtain hn | ⟨i, hi, -, hcur⟩ := offeredTarget_cases (s := s)
      · simp [hn] at ht
      · obtain rfl := Option.some.inj (hi.symm.trans ht)
        have := (h.closing c.slot).mpr ⟨c, hc, rfl⟩
        simp_all
    · simp [hq]
  · rw [(hcalc q).1]
    rw [(hcalc q).2] at ht
    by_cases hq : q = r
    · rw [if_pos hq] at ht ⊢
      obtain hn | ⟨j, hj, hopen, hcur⟩ := offeredTarget_cases (s := s)
      · simp [hn] at ht
      · obtain rfl := Option.some.inj (hj.symm.trans ht)
        refine ⟨rfl, .inr ⟨hcur, fun hheld => ?_⟩⟩
        have : s.ring.current = .held := hheld
        simp [State.parcelOpen, this] at hopen
    · rw [if_neg hq] at ht ⊢
      exact h.targets q i ht
  · rw [(hcalc q).1] at hq
    rw [(hcalc q).2]
    have ho : s.parcelOpen = true := ho
    split
    · simp only [State.offeredTarget, ho, if_true]
      refine currentSlot_ne_none fun hn => ?_
      simp [State.parcelOpen, h.idle.mpr hn] at ho
    · rw [if_neg ‹_›] at hq
      exact h.taken q hq ho

/-- No closing waits for the run. -/
def State.NotOwing (s : State) (r : Run) : Prop := ∀ c, s.ring.closing = some c → c.owing.get r = false

theorem writeIfNoneOwe_closing {c : Closing} (h : (writeIfNoneOwe s).ring.closing = some c) : s.ring.closing = some c := by
  unfold writeIfNoneOwe at h
  split at h
  · exact h
  · split at h
    · simp [writeTicket_closing] at h
    · exact h

theorem closePortion_notOwing (r : Run) (s : State) : (closePortion r s).NotOwing r := by
  intro c hc
  rw [closePortion_eq] at hc
  have hc := writeIfNoneOwe_closing hc
  rw [leaveOwing_eq] at hc
  obtain ⟨c', -, rfl⟩ := Option.map_eq_some_iff.mp hc
  exact PerRun.get_set_self ..

theorem closeIfOwing_sound (h : s.RingSound) (r : Run) : (closeIfOwing r s).RingSound ∧ (closeIfOwing r s).NotOwing r := by
  unfold closeIfOwing
  split
  · rename_i hc
    exact ⟨h, fun c hc' => by simp [hc] at hc'⟩
  · rename_i c hc
    split
    · exact ⟨closePortion_sound h ((h.owing c r hc).mp ‹_›).1, closePortion_notOwing r s⟩
    · rename_i hnot
      refine ⟨h, fun c' hc' => ?_⟩
      obtain rfl := Option.some.inj (hc.symm.trans hc')
      simpa using hnot

theorem takeOffline_sound (h : s.RingSound) {r : Run} (hr : s.NotOwing r) : (takeOffline r s).RingSound := by
  have hcalc (q : Run) : ((takeOffline r s).calcOf q).runState = (if q = r then .offline else (s.calcOf q).runState)
      ∧ ((takeOffline r s).calcOf q).target = if q = r then none else (s.calcOf q).target := by
    by_cases hq : q = r
    · subst hq
      simp [takeOffline]
    · simp [takeOffline, hq, setCalc_ne s hq]
  refine { h with owing := fun c q hc => ?_, targets := fun q i ht => ?_, taken := fun q hq ho => ?_ }
  · rw [(hcalc q).1, (hcalc q).2]
    by_cases hq : q = r
    · subst hq
      simp [hr c hc]
    · simpa [hq] using h.owing c q hc
  · rw [(hcalc q).1]
    rw [(hcalc q).2] at ht
    by_cases hq : q = r
    · simp [hq] at ht
    · rw [if_neg hq] at ht ⊢
      exact h.targets q i ht
  · rw [(hcalc q).1] at hq
    rw [(hcalc q).2]
    by_cases hr : q = r
    · simp [hr] at hq
    · rw [if_neg hr] at hq ⊢
      exact h.taken q hq ho

theorem goOffline_sound (h : s.RingSound) (r : Run) : (goOffline r s).RingSound := by
  have h2 : (takeArrivals r (closePeriod r ((takeAtEngine r s).calcOf r).elapsed false (takeAtEngine r s))).RingSound :=
    takeArrivals_sound ((takeAtEngine_sound h r).alike (closePeriod_alike ..)) r
  unfold goOffline
  dsimp only
  generalize takeArrivals r (closePeriod r ((takeAtEngine r s).calcOf r).elapsed false (takeAtEngine r s)) = t at h2
  obtain ⟨h3, hnot⟩ := closeIfOwing_sound h2 r
  generalize closeIfOwing r t = t at h3 hnot
  have hframe := abortIf_frame (t.provingRun r) .offline t
  have h4 := ringSound_reads.of_frame hframe (by decide) h3
  have hk := applyPendingK_alike r (abortIf (t.provingRun r) .offline t)
  refine takeOffline_sound (h4.alike hk) fun c hc => hnot c ?_
  rw [hk.ring.2.2] at hc
  have hring : Same .ring _ _ := hframe.same .ring (by decide)
  exact (congrArg Ring.closing hring).symm.trans hc

end Periods

end Sys2Proof.Machine

/-! Every step keeps the coherence of the ring: each command that reaches the ring or the calculators, and the step. -/

namespace Sys2Proof.Machine

variable {s t : State}

theorem reset_takeReady : TakeReady State.reset := by
  have hslot (i : SlotId) : State.reset.slot i = .empty := Eight.get_all ..
  have hcalc (r : Run) : State.reset.calcOf r = .cold := PerRun.get_all ..
  have hclosing : State.reset.ring.closing = none := rfl
  exact ⟨fun i => by simp [hslot, RingSlot.empty], fun i => by simp [hslot, hclosing, RingSlot.empty], nofun, nofun,
    fun r i ht => by simp [hcalc, Calculator.cold] at ht, fun i r x hx => by simp [hslot, RingSlot.empty] at hx⟩

/-- The part after reset stands as a take that has found no slot leaves it. -/
theorem reset_ringSound : State.reset.RingSound := goIdle_sound reset_takeReady

theorem coldInitialize_ringSound (s : State) : (coldInitialize s).RingSound := reset_ringSound.alike (.of_same rfl rfl)

/-! ## The start of the part -/

theorem resumeAtRestart_alike (s : State) : RingAlike s (resumeAtRestart s) := by
  have hpending (b : Bool) : RingAlike s { s with ring := { s.ring with resumePending := b } } := { RingAlike.refl s with }
  unfold resumeAtRestart
  split
  · exact hpending true
  · exact hpending false
  · exact .refl s

theorem restartBlocks_alike (s : State) : RingAlike s (restartBlocks s) := by
  unfold restartBlocks
  refine RingAlike.trans ?_ (resumeAtRestart_alike _)
  refine { RingAlike.refl s with runs := fun r => ?_ }
  simp [State.calcOf]

theorem abortAtRestart_alike (s : State) : RingAlike s (abortAtRestart s) := by
  unfold abortAtRestart
  split
  · exact .of_same rfl rfl
  · exact .refl s

theorem restartPeriod_alike (s : State) (r : Run) : RingAlike s (restartPeriod s r) := by
  unfold restartPeriod
  split
  · exact (closePeriod_alike ..).trans (openPeriod_alike ..)
  · exact .refl s

theorem restart_sound (h : s.RingSound) : (restart s).RingSound :=
  runs_foldl_keeps (P := State.RingSound) (fun s r hs => hs.alike (restartPeriod_alike s r)) runs
    ((h.alike (restartBlocks_alike s)).alike (abortAtRestart_alike _))

theorem startPart_sound (h : s.RingSound) (intact : Bool) : (startPart intact s).RingSound := by
  unfold startPart
  split
  · exact restart_sound ((settleArrivals_sound h).alike (.of_same rfl rfl))
  · exact coldInitialize_ringSound s

/-! ## The requests on a run -/

theorem ringRequests : RequestKept State.RingSound := ringSound_reads.requestKept (by decide) (by decide)

theorem setService_ring {p : Port} {unit service : Nat} (hs : s.RingSound)
    (ht : exec (.setService p unit service) s = .next t) : t.RingSound := by
  have ht : execSetService p unit service s = .next t := ht
  unfold execSetService at ht
  refine ringRequests.serve_run (fun s r hs _ => ?_) hs ht
  split
  · exact hs
  · rename_i v _
    refine reply_ite_keeps (fun _ => hs) fun hne => ?_
    cases v with
    | online => exact reply_ite_keeps (fun _ => goOnline_sound hs hne) (fun _ => hs)
    | offline => exact goOffline_sound hs r

theorem setPeriod_ring {p : Port} {unit length : Nat} (hs : s.RingSound)
    (ht : exec (.setPeriod p unit length) s = .next t) : t.RingSound := by
  have ht : execSetPeriod p unit length s = .next t := ht
  unfold execSetPeriod at ht
  refine ringRequests.serve_run (fun s r hs _ => reply_ite_keeps (fun _ => ?_) (fun _ => hs)) hs ht
  exact hs.alike (.setCalc r _ rfl rfl)

theorem setKFactor_ring {p : Port} {unit k : Nat} (hs : s.RingSound) (ht : exec (.setKFactor p unit k) s = .next t) :
    t.RingSound := by
  have ht : execSetKFactor p unit k s = .next t := ht
  unfold execSetKFactor at ht
  refine ringRequests.serve_run (fun s r hs _ => ?_) hs ht
  refine reply_ite_keeps (fun _ => hs) fun _ => reply_ite_keeps (fun _ => ?_) (fun _ => hs)
  have htaken := takeAtEngine_sound hs r
  exact reply_ite_keeps (fun _ => htaken.alike (.setCalc r _ rfl rfl)) (fun _ => htaken.alike (.setCalc r _ rfl rfl))

/-! ## The requests on the ring -/

theorem reserveSlot_ring {p : Port} {unit : Nat} (hs : s.RingSound) (ht : exec (.reserveSlot p unit) s = .next t) :
    t.RingSound := by
  have ht : execReserveSlot p unit s = .next t := ht
  unfold execReserveSlot at ht
  refine ringRequests.serve (fun s hs => unitZero_keeps hs (reply_ite_keeps (fun hfree => ?_) (fun _ => hs))) hs ht
  have hreserved := RingAlike.setSlot (s := s) s.ring.tail { RingSlot.empty with state := .reserved, reserver := some p }
    (by simp [hfree]) (by simp) (by simp [RingSlot.empty])
  exact (hs.alike hreserved).alike { RingAlike.refl _ with }

theorem writeSlot_ring {p : Port} {unit slot : Nat} {form : RawForm} (hs : s.RingSound)
    (ht : exec (.writeSlot p unit slot form) s = .next t) : t.RingSound := by
  have ht : execWriteSlot p unit slot form s = .next t := ht
  unfold execWriteSlot at ht
  refine ringRequests.serve_slot (fun s i hs => ifReservedBy_keeps hs fun hstate _ => ?_) hs ht
  split
  · exact hs
  · exact hs.alike (.setSlot i _ (by simp [hstate]) (by simp [hstate]) (fun _ _ h => h))

theorem armSlot_ring {p : Port} {unit slot : Nat} (hs : s.RingSound) (ht : exec (.armSlot p unit slot) s = .next t) :
    t.RingSound := by
  have ht : execArmSlot p unit slot s = .next t := ht
  unfold execArmSlot at ht
  refine ringRequests.serve_slot (fun s i hs => ifReservedBy_keeps hs fun hstate _ => ?_) hs ht
  split
  · exact hs
  · refine reply_ite_keeps (fun _ => takeIfHead_sound (hs.alike ?_) i) (fun _ => hs)
    exact .setSlot i _ (by simp [hstate]) (by simp) (fun _ _ h => h)

theorem cancelSlot_ring {p : Port} {unit slot : Nat} (hs : s.RingSound) (ht : exec (.cancelSlot p unit slot) s = .next t) :
    t.RingSound := by
  have ht : execCancelSlot p unit slot s = .next t := ht
  unfold execCancelSlot at ht
  refine ringRequests.serve_slot (fun s i hs => reply_ite_keeps (fun _ => hs) fun hstate => ?_) hs ht
  refine reply_ite_keeps (fun _ => hs) fun _ => takeIfHead_sound (hs.alike ?_) i
  refine .setSlot i _ ?_ (by simp) (fun _ _ h => h)
  constructor <;> intro hi <;> simp [hi] at hstate

theorem releaseHold_ring {p : Port} {unit : Nat} (hs : s.RingSound) (ht : exec (.releaseHold p unit) s = .next t) :
    t.RingSound := by
  have ht : execReleaseHold p unit s = .next t := ht
  unfold execReleaseHold at ht
  exact ringRequests.serve (fun s hs => unitZero_keeps hs (reply_ite_keeps (freeHold_sound hs) (fun _ => hs))) hs ht

theorem resumeLoading_ring {p : Port} {unit : Nat} (hs : s.RingSound) (ht : exec (.resumeLoading p unit) s = .next t) :
    t.RingSound := by
  have ht : execResumeLoading p unit s = .next t := ht
  unfold execResumeLoading at ht
  exact ringRequests.serve (fun s hs => unitZero_keeps hs (reply_ite_keeps (fun _ => { hs with }) (fun _ => hs))) hs ht

theorem cutParcel_ring {p : Port} {unit slot : Nat} (hs : s.RingSound) (ht : exec (.cutParcel p unit slot) s = .next t) :
    t.RingSound := by
  have ht : execCutParcel p unit slot s = .next t := ht
  unfold execCutParcel at ht
  refine ringRequests.serve_slot (fun s i hs => reply_ite_keeps (fun _ => hs) fun _ => ?_) hs ht
  refine reply_ite_keeps (fun _ => hs) fun hcur => reply_ite_keeps (fun _ => hs) fun hclosing => ?_
  exact startClosing_sound hs _ none (not_not.mp hcur) (by simpa using hclosing)

theorem readTicket_ring {p : Port} {unit slot : Nat} (hs : s.RingSound) (ht : exec (.readTicket p unit slot) s = .next t) :
    t.RingSound := by
  have ht : execReadTicket p unit slot s = .next t := ht
  unfold execReadTicket at ht
  refine ringRequests.serve_slot (fun s i hs => ?_) hs ht
  dsimp only
  split
  · rename_i hstate _ _
    dsimp only
    split
    · exact hs.alike (.setSlot i _ (by simp [hstate]) (by simp [RingSlot.empty]) (by simp [RingSlot.empty]))
    · exact hs.alike (.setSlot i _ (by simp [hstate]) (by simp [hstate]) (fun _ _ h => h))
  · exact hs

theorem voidSlots_sound (p : Port) (hs : s.RingSound) : (voidSlots p s).RingSound := by
  have hvoid : RingAlike s { s with
      ring := { s.ring with slots := s.ring.slots.map (fun x => if awaits p x then { x with state := .void } else x) } } := by
    have hslot (i : SlotId) : State.slot { s with
        ring := { s.ring with slots := s.ring.slots.map (fun x => if awaits p x then { x with state := .void } else x) } } i
          = if awaits p (s.slot i) then { s.slot i with state := .void } else s.slot i := Eight.get_map ..
    refine { RingAlike.refl s with
      current := fun i => ?_, closing := fun i => ?_, form := fun i _ => ?_, portions := fun i r x hx => .inl ?_ }
    · rw [hslot]; split <;> simp_all [awaits]
      rintro hi; simp_all
    · rw [hslot]; split <;> simp_all [awaits]
      rintro hi; simp_all
    · rw [hslot]; split <;> rfl
    · rw [hslot] at hx; split at hx <;> exact hx
  unfold voidSlots
  dsimp only
  split
  · rename_i hcond
    simp only [Bool.and_eq_true, decide_eq_true_eq] at hcond
    exact takeNext_sound_of_idle (hs.alike hvoid) hcond.2
  · exact hs.alike hvoid

theorem clearClaims_frame (p : Port) (s : State) : Frame [.claims, .links] s (clearClaims p s) := by
  obtain ⟨c, l, h⟩ := clearClaims_touches p s
  rw [h]
  exact ⟨fun x hx => by cases x <;> first | rfl | simp at hx⟩

theorem stationClear_ring {p : Port} {unit : Nat} (hs : s.RingSound) (ht : exec (.stationClear p unit) s = .next t) :
    t.RingSound := by
  have ht : execStationClear p unit s = .next t := ht
  unfold execStationClear at ht
  refine ringRequests.serve (fun s hs => unitZero_keeps hs ?_) hs ht
  have hclear := ringSound_reads.of_frame (clearClaims_frame p s) (by decide) hs
  have habort := ringSound_reads.of_frame (abortIf_frame (s.provingPort p) .claim _) (by decide) hclear
  exact (voidSlots_sound p habort).alike (.of_same rfl rfl)

/-! ## Events -/

theorem periodExpiry_ring {r : Run} (hs : s.RingSound) (ht : exec (.periodExpiry r) s = .next t) : t.RingSound := by
  refine event_keeps (fun hs => ?_) hs (show execPeriodExpiry r s = .next t from ht)
  split
  · exact expirePeriod_sound hs r
  · exact hs

theorem periodTimerAdvance_ring {r : Run} (hs : s.RingSound) (ht : exec (.periodTimerAdvance r) s = .next t) : t.RingSound := by
  refine event_keeps (fun hs => ?_) hs (show execPeriodTimerAdvance r s = .next t from ht)
  dsimp only
  split
  · exact hs.alike (.setCalc r _ rfl rfl)
  · exact hs

theorem incrementArrivalAtEngine_ring {r : Run} (hs : s.RingSound) (ht : exec (.incrementArrivalAtEngine r) s = .next t) :
    t.RingSound := event_keeps (fun hs => takeAtEngine_sound hs r) hs (show execIncrementArrivalAtEngine r s = .next t from ht)

theorem lossOfSupply_ring (hs : s.RingSound) (ht : exec .lossOfSupply s = .next t) : t.RingSound := by
  refine event_keeps (fun hs => ?_) hs (show execLossOfSupply s = .next t from ht)
  have hsettled := settleArrivals_sound hs
  dsimp only
  split
  · exact hsettled.alike (.of_same rfl rfl)
  · exact hsettled.alike (.of_same rfl rfl)

theorem partStart_ring {cause : StartCause} {intact : Bool} (hs : s.RingSound)
    (ht : exec (.partStart cause intact) s = .next t) : t.RingSound := by
  cases cause with
  | powerUp =>
    obtain rfl := Host.Outcome.next.inj (show Host.Outcome.next (startPart intact s) = .next t from ht)
    exact startPart_sound hs intact
  | resetInput => exact event_keeps (fun hs => startPart_sound hs intact) hs (show event (startPart intact) s = .next t from ht)

theorem ring_stepKept : StepKept [.ring, .calcs] State.RingSound where
  reads := ringSound_reads
  queue := by decide
  elapse n s hs := hs.alike (.of_same rfl rfl)
  requests := ringRequests
  exec c s t hreach hplain hs ht := by
    cases c with
    | setService => exact setService_ring hs ht
    | setPeriod => exact setPeriod_ring hs ht
    | setKFactor => exact setKFactor_ring hs ht
    | reserveSlot => exact reserveSlot_ring hs ht
    | writeSlot => exact writeSlot_ring hs ht
    | armSlot => exact armSlot_ring hs ht
    | cancelSlot => exact cancelSlot_ring hs ht
    | releaseHold => exact releaseHold_ring hs ht
    | resumeLoading => exact resumeLoading_ring hs ht
    | cutParcel => exact cutParcel_ring hs ht
    | readTicket => exact readTicket_ring hs ht
    | stationClear => exact stationClear_ring hs ht
    | periodExpiry => exact periodExpiry_ring hs ht
    | incrementArrivalAtEngine => exact incrementArrivalAtEngine_ring hs ht
    | lossOfSupply => exact lossOfSupply_ring hs ht
    | partStart => exact partStart_ring hs ht
    | periodTimerAdvance => exact periodTimerAdvance_ring hs ht
    | refusedRequestFrame => exact absurd rfl (hplain _ _)
    | _ => exact absurd hreach Bool.false_ne_true

/-- Settles O58: each command that reaches the ring or the calculators keeps the coherence; the others leave both. -/
theorem ringStaysCoherent : Obligations.RingStaysCoherent := fun _ _ => ring_stepKept.keeps_step

end Sys2Proof.Machine

/-! What the Parcel Engine does to the runs' calculators: another target (R99, R117) and the pending K applied
(R38), nothing else. -/

namespace Sys2Proof.Machine

/-- Another target, with the pending K applied or not. -/
def Calculator.EngineChange (k k' : Calculator) : Prop :=
  ∃ target, k' = { k with target := target } ∨ ∃ x, k.pendingK = some x ∧ k' = { k.applyK x with target := target }

theorem Calculator.EngineChange.refl (k : Calculator) : k.EngineChange k := ⟨k.target, .inl rfl⟩

theorem Calculator.EngineChange.trans {k l m : Calculator} (h : k.EngineChange l) (h' : l.EngineChange m) : k.EngineChange m := by
  obtain ⟨i, rfl | ⟨x, hx, rfl⟩⟩ := h
  · obtain ⟨j, rfl | ⟨y, hy, rfl⟩⟩ := h'
    · exact ⟨j, .inl rfl⟩
    · exact ⟨j, .inr ⟨y, hy, rfl⟩⟩
  · obtain ⟨j, rfl | ⟨y, hy, -⟩⟩ := h'
    · exact ⟨j, .inr ⟨x, hx, rfl⟩⟩
    · exact nomatch hy

theorem Calculator.EngineChange.runState {k k' : Calculator} (h : k.EngineChange k') : k'.runState = k.runState := by
  obtain ⟨i, rfl | ⟨x, -, rfl⟩⟩ := h <;> rfl

/-- Every calculator changes by what the engine does to it. -/
structure EngineCalcs (s t : State) : Prop where
  change : ∀ r, (s.calcOf r).EngineChange (t.calcOf r)

namespace EngineCalcs

variable {s t u : State}

theorem of_calcs (h : t.calcs = s.calcs) : EngineCalcs s t :=
  ⟨fun r => by simpa [State.calcOf, h] using Calculator.EngineChange.refl (s.calcOf r)⟩

theorem refl (s : State) : EngineCalcs s s := of_calcs rfl

theorem trans (h : EngineCalcs s t) (k : EngineCalcs t u) : EngineCalcs s u := ⟨fun r => (h.change r).trans (k.change r)⟩

theorem setCalc {r : Run} {k : Calculator} (h : (s.calcOf r).EngineChange k) : EngineCalcs s (s.setCalc r k) := by
  refine ⟨fun q => ?_⟩
  by_cases hq : q = r
  · subst hq
    rwa [setCalc_self]
  · rw [setCalc_ne s hq]
    exact .refl _

end EngineCalcs

/-! ## The operations -/

theorem giveTarget_calcs (i : SlotId) (s : State) : EngineCalcs s (giveTarget i s) :=
  ⟨fun r => ⟨_, .inl (giveTarget_calcOf i r)⟩⟩

theorem takeLooks_calcs (n : Nat) (s : State) : EngineCalcs s (takeLooks n s) := by
  induction n generalizing s with
  | zero => exact .of_calcs rfl
  | succ n ih =>
    unfold takeLooks
    dsimp only
    split
    · exact .trans (t := passVoid s) (.of_calcs rfl) (ih _)
    · split
      · exact .trans (t := openHead .opened .full s) (.of_calcs rfl) (giveTarget_calcs ..)
      · exact .trans (t := openHead .opened .full s) (.of_calcs rfl) (giveTarget_calcs ..)
      · exact .of_calcs rfl
      · exact .of_calcs rfl
    all_goals exact .of_calcs rfl

theorem takeNext_calcs (s : State) : EngineCalcs s (takeNext s) := takeLooks_calcs 9 s

theorem applyPendingK_calcs (r : Run) (s : State) : EngineCalcs s (applyPendingK r s) := by
  unfold applyPendingK
  split
  · exact .refl s
  · rename_i x hx
    exact .setCalc ⟨(s.calcOf r).target, .inr ⟨x, hx, rfl⟩⟩

theorem writeIfNoneOwe_calcs (s : State) : (writeIfNoneOwe s).calcs = s.calcs := by
  obtain ⟨g, x, h⟩ := writeIfNoneOwe_touches s
  rw [h]

theorem closePortion_calcs (r : Run) (s : State) : EngineCalcs s (closePortion r s) := by
  rw [closePortion_eq]
  have hmove : EngineCalcs (applyPendingK r s) (moveOn r (applyPendingK r s)) := .setCalc ⟨_, .inl rfl⟩
  refine ((applyPendingK_calcs r s).trans hmove).trans (.of_calcs ?_)
  rw [writeIfNoneOwe_calcs, leaveOwing_eq]

theorem startClosing_calcs (i : SlotId) (reason : CloseReason) (q : Option Run) (s : State) :
    EngineCalcs s (startClosing i reason q s) := by
  have hbegin : EngineCalcs s (beginClosing i reason s) := .of_calcs rfl
  have hportion : EngineCalcs s (match q with
      | none => beginClosing i reason s
      | some r => closePortion r (beginClosing i reason s)) := by
    cases q with
    | none => exact hbegin
    | some r => exact hbegin.trans (closePortion_calcs ..)
  exact (hportion.trans (.of_calcs (writeIfNoneOwe_calcs _))).trans (takeNext_calcs _)

theorem advanceClosing_calcs (a : Arrival) (s : State) : EngineCalcs s (advanceClosing a s) := by
  unfold advanceClosing
  split
  · exact closePortion_calcs ..
  · split
    · exact .refl s
    · split
      · exact startClosing_calcs ..
      · exact .refl s

theorem engineArrival_calcs (a : Arrival) (s : State) : EngineCalcs s (engineArrival a s) := by
  obtain ⟨g, x, hassign⟩ := assignArrival_touches a s
  obtain ⟨g', x', hwatch⟩ := applyWatch_touches a (assignArrival a s)
  refine EngineCalcs.trans (.of_calcs ?_) (advanceClosing_calcs a (applyWatch a (assignArrival a s)))
  rw [hwatch, hassign]

theorem takeAtEngine_calcs (r : Run) (s : State) : EngineCalcs s (takeAtEngine r s) := by
  unfold takeAtEngine
  split
  · exact .refl s
  · exact .trans (t := { s with toEngine := s.toEngine.set r none }) (.of_calcs rfl) (engineArrival_calcs ..)

theorem takeArrivals_calcs (r : Run) (s : State) : EngineCalcs s (takeArrivals r s) :=
  (takeAtEngine_calcs r s).trans (.of_calcs rfl)

theorem settleArrivals_calcs (s : State) : EngineCalcs s (settleArrivals s) :=
  runs_foldl_keeps (P := EngineCalcs s) (fun _ r h => h.trans (takeArrivals_calcs r _)) runs (.refl s)

theorem takeIfHead_calcs (i : SlotId) (s : State) : EngineCalcs s (takeIfHead i s) := by
  unfold takeIfHead
  split
  · exact takeNext_calcs s
  · exact .refl s

theorem freeHold_calcs (s : State) : EngineCalcs s (freeHold s) := by
  unfold freeHold
  split
  · exact takeNext_calcs s
  · exact .trans (t := s.setSlot _ .empty) (.of_calcs rfl) (takeNext_calcs _)

theorem voidSlots_calcs (p : Port) (s : State) : EngineCalcs s (voidSlots p s) := by
  have hvoid : EngineCalcs s { s with
      ring := { s.ring with slots := s.ring.slots.map (fun x => if awaits p x then { x with state := .void } else x) } } :=
    .of_calcs rfl
  unfold voidSlots
  dsimp only
  split
  · exact hvoid.trans (takeNext_calcs _)
  · exact hvoid

theorem closeIfOwing_calcs (r : Run) (s : State) : EngineCalcs s (closeIfOwing r s) := by
  unfold closeIfOwing
  split
  · exact .refl s
  · split
    · exact closePortion_calcs ..
    · exact .refl s

/-! ## The commands that reach the calculators through the Parcel Engine alone -/

section EngineCommands

variable {s t : State}

theorem engineCalcs_reads (s : State) : Reads [.calcs] (EngineCalcs s) :=
    fun _ _ h hs => hs.trans (.of_calcs (h .calcs (by simp)))

theorem engineCalcs_requests (s : State) : RequestKept (EngineCalcs s) :=
  (engineCalcs_reads s).requestKept (by decide) (by decide)

theorem setSlot_takeIfHead_calcs (i : SlotId) (x : RingSlot) (s : State) : EngineCalcs s (takeIfHead i (s.setSlot i x)) :=
  .trans (t := s.setSlot i x) (.of_calcs rfl) (takeIfHead_calcs ..)

theorem armSlot_calcs {p : Port} {unit slot : Nat} (ht : execArmSlot p unit slot s = .next t) : EngineCalcs s t := by
  unfold execArmSlot at ht
  refine (engineCalcs_requests s).serve_slot (fun u i hu => ifReservedBy_keeps hu fun _ _ => ?_) (.refl s) ht
  split
  · exact hu
  · exact reply_ite_keeps (fun _ => hu.trans (setSlot_takeIfHead_calcs ..)) (fun _ => hu)

theorem cancelSlot_calcs {p : Port} {unit slot : Nat} (ht : execCancelSlot p unit slot s = .next t) : EngineCalcs s t := by
  unfold execCancelSlot at ht
  refine (engineCalcs_requests s).serve_slot (fun u i hu => reply_ite_keeps (fun _ => hu) fun _ => ?_) (.refl s) ht
  exact reply_ite_keeps (fun _ => hu) fun _ => hu.trans (setSlot_takeIfHead_calcs ..)

theorem releaseHold_calcs {p : Port} {unit : Nat} (ht : execReleaseHold p unit s = .next t) : EngineCalcs s t := by
  unfold execReleaseHold at ht
  exact (engineCalcs_requests s).serve (fun u hu => unitZero_keeps hu
    (reply_ite_keeps (fun _ => hu.trans (freeHold_calcs u)) (fun _ => hu))) (.refl s) ht

theorem cutParcel_calcs {p : Port} {unit slot : Nat} (ht : execCutParcel p unit slot s = .next t) : EngineCalcs s t := by
  unfold execCutParcel at ht
  exact (engineCalcs_requests s).serve_slot (fun u i hu => reply_ite_keeps (fun _ => hu) fun _ => reply_ite_keeps (fun _ => hu)
    fun _ => reply_ite_keeps (fun _ => hu) fun _ => hu.trans (startClosing_calcs i _ none u)) (.refl s) ht

theorem abortIf_calcs (b : Bool) (reason : ProveReason) (s : State) : (abortIf b reason s).calcs = s.calcs :=
  (abortIf_frame b reason s).same .calcs (by decide)

theorem clearStation_calcs (p : Port) (s : State) : EngineCalcs s (clearStation p s) := by
  have hclear := (clearClaims_frame p s).same .calcs (by decide)
  have habort := abortIf_calcs (s.provingPort p) .claim (clearClaims p s)
  have hvoid := EngineCalcs.trans (.of_calcs (habort.trans hclear)) (voidSlots_calcs p (abortIf (s.provingPort p) .claim _))
  exact hvoid.trans (.of_calcs rfl)

theorem stationClear_calcs {p : Port} {unit : Nat} (ht : execStationClear p unit s = .next t) : EngineCalcs s t := by
  unfold execStationClear at ht
  exact (engineCalcs_requests s).serve (fun u hu => unitZero_keeps hu (hu.trans (clearStation_calcs p u))) (.refl s) ht

theorem lossOfSupply_calcs (ht : execLossOfSupply s = .next t) : EngineCalcs s t := by
  refine event_keeps (P := EngineCalcs s) (fun h => ?_) (.refl s) ht
  dsimp only
  split
  · exact (settleArrivals_calcs s).trans (.of_calcs rfl)
  · exact (settleArrivals_calcs s).trans (.of_calcs rfl)

theorem engineCalcs_of_acts {c : Instr} (ht : exec c s = .next t) (hplain : ∀ p frame, c ≠ .refusedRequestFrame p frame)
    (hacts : .calcs ∉ acts c) : EngineCalcs s t := by
  obtain ⟨u, hu, hwalk⟩ := exec_answers c s hplain
  obtain rfl : u = t := Host.Outcome.next.inj (hu.symm.trans ht)
  exact (engineCalcs_reads s).of_walk (engineCalcs_requests s) hwalk (by simpa using hacts) (.refl s)

/-- A command that changes calculators by more than the Parcel Engine does; a frame's bytes may be such a command's. -/
def configuresRuns : Instr → Bool
  | .setService .. => true
  | .setPeriod .. => true
  | .setKFactor .. => true
  | .periodExpiry .. => true
  | .periodTimerAdvance .. => true
  | .partStart .. => true
  | .refusedRequestFrame .. => true
  | _ => false

theorem exec_calcs {c : Instr} (hc : configuresRuns c = false) (ht : exec c s = .next t) : EngineCalcs s t := by
  cases c with
  | setService | setPeriod | setKFactor | periodExpiry | periodTimerAdvance | partStart | refusedRequestFrame => exact nomatch hc
  | armSlot => exact armSlot_calcs ht
  | cancelSlot => exact cancelSlot_calcs ht
  | releaseHold => exact releaseHold_calcs ht
  | cutParcel => exact cutParcel_calcs ht
  | stationClear => exact stationClear_calcs ht
  | incrementArrivalAtEngine r =>
    exact event_keeps (P := EngineCalcs s) (fun _ => takeAtEngine_calcs r s) (.refl s)
      (show execIncrementArrivalAtEngine r s = .next t from ht)
  | lossOfSupply => exact lossOfSupply_calcs ht
  | _ => exact engineCalcs_of_acts ht (fun _ _ => nofun) (by simp [acts])

end EngineCommands

/-! ## Runs in service -/

/-- The same runs are ONLINE. -/
structure SameService (s t : State) : Prop where
  same : ∀ r, (t.calcOf r).runState = (s.calcOf r).runState

namespace SameService

variable {s t u : State}

theorem refl (s : State) : SameService s s := ⟨fun _ => rfl⟩

theorem trans (h : SameService s t) (k : SameService t u) : SameService s u := ⟨fun r => (k.same r).trans (h.same r)⟩

theorem of_calcs (h : t.calcs = s.calcs) : SameService s t := ⟨fun r => by simp [State.calcOf, h]⟩

theorem setCalc {r : Run} {k : Calculator} (h : k.runState = (s.calcOf r).runState) : SameService s (s.setCalc r k) := by
  refine ⟨fun q => ?_⟩
  by_cases hq : q = r
  · subst hq
    rwa [setCalc_self]
  · rw [setCalc_ne s hq]

end SameService

theorem EngineCalcs.service {s t : State} (h : EngineCalcs s t) : SameService s t := ⟨fun r => (h.change r).runState⟩

theorem RingAlike.service {s t : State} (h : RingAlike s t) : SameService s t := ⟨fun r => (h.runs r).1⟩

theorem closePeriod_service (r : Run) (tMs : Nat) (restart : Bool) (s : State) : SameService s (closePeriod r tMs restart s) :=
  (closePeriod_alike ..).service

theorem expirePeriod_service (r : Run) (s : State) : SameService s (expirePeriod r s) :=
  ((takeAtEngine_calcs r s).service.trans (closePeriod_service ..)).trans (openPeriod_alike ..).service

theorem restartPeriod_service (s : State) (r : Run) : SameService s (restartPeriod s r) := (restartPeriod_alike s r).service

theorem restart_service (s : State) : SameService s (restart s) :=
  runs_foldl_keeps (P := SameService s) (fun s' r h => h.trans (restartPeriod_service s' r)) runs
    ((restartBlocks_alike s).service.trans (abortAtRestart_alike _).service)

theorem goOnline_runState (r q : Run) (s : State) :
    ((goOnline r s).calcOf q).runState = if q = r then .online else (s.calcOf q).runState := by
  by_cases hq : q = r
  · subst hq
    simp [goOnline]
  · simp [goOnline, hq, setCalc_ne s hq]

theorem takeOffline_runState (r q : Run) (s : State) :
    ((takeOffline r s).calcOf q).runState = if q = r then .offline else (s.calcOf q).runState := by
  by_cases hq : q = r
  · subst hq
    simp [takeOffline]
  · simp [takeOffline, hq, setCalc_ne s hq]

theorem goOffline_runState (r q : Run) (s : State) :
    ((goOffline r s).calcOf q).runState = if q = r then .offline else (s.calcOf q).runState := by
  unfold goOffline
  dsimp only
  rw [takeOffline_runState]
  congr 1
  have h1 := (takeAtEngine_calcs r s).service.trans (closePeriod_service r ((takeAtEngine r s).calcOf r).elapsed false _)
  have h2 := h1.trans (takeArrivals_calcs r _).service
  have h3 := h2.trans (closeIfOwing_calcs r _).service
  exact ((h3.trans (.of_calcs (abortIf_calcs ..))).trans (applyPendingK_calcs r _).service).same q

theorem sameService_reads (s : State) : Reads [.calcs] (SameService s) :=
    fun _ _ h hs => hs.trans (.of_calcs (h .calcs (by simp)))

theorem sameService_requests (s : State) : RequestKept (SameService s) :=
  (sameService_reads s).requestKept (by decide) (by decide)

/-- A command that can take a run into or out of service; a frame's bytes may be such a command's. -/
def changesService : Instr → Bool
  | .setService .. => true
  | .partStart .. => true
  | .refusedRequestFrame .. => true
  | _ => false

section Commands

variable {s t : State}

theorem setPeriod_service {p : Port} {unit length : Nat} (ht : execSetPeriod p unit length s = .next t) : SameService s t := by
  unfold execSetPeriod at ht
  refine (sameService_requests s).serve_run (fun u r hu _ => reply_ite_keeps (fun _ => hu.trans ?_) (fun _ => hu)) (.refl s) ht
  exact .setCalc rfl

theorem setKFactor_service {p : Port} {unit k : Nat} (ht : execSetKFactor p unit k s = .next t) : SameService s t := by
  unfold execSetKFactor at ht
  refine (sameService_requests s).serve_run (fun u r hu _ => reply_ite_keeps (fun _ => hu) fun _ =>
    reply_ite_keeps (fun _ => hu.trans ((takeAtEngine_calcs r u).service.trans ?_)) (fun _ => hu)) (.refl s) ht
  exact reply_ite_keeps (P := SameService (takeAtEngine r u)) (fun _ => .setCalc rfl) (fun _ => .setCalc rfl)

/-- Every other command leaves the runs in service as they are. -/
theorem exec_service {c : Instr} (hc : changesService c = false) (ht : exec c s = .next t) : SameService s t := by
  cases c with
  | setService | partStart | refusedRequestFrame => exact nomatch hc
  | setPeriod => exact setPeriod_service ht
  | setKFactor => exact setKFactor_service ht
  | periodExpiry r =>
    refine event_keeps (P := SameService s) (fun h => ?_) (.refl s) (show execPeriodExpiry r s = .next t from ht)
    split
    · exact expirePeriod_service r s
    · exact h
  | periodTimerAdvance r =>
    refine event_keeps (P := SameService s) (fun h => ?_) (.refl s) (show execPeriodTimerAdvance r s = .next t from ht)
    dsimp only
    split
    · exact .setCalc rfl
    · exact h
  | _ => exact (exec_calcs rfl ht).service

end Commands

end Sys2Proof.Machine

/-! Claim records (chapter 9): what each operation leaves of their form, and the end of a prove, which restarts the
timers of its units. -/

namespace Sys2Proof.Machine

/-! ## What the form of the claims rests on -/

/-- The result record's state and setup stand. -/
structure SameProve (s t : State) : Prop where
  state : t.prove.result.state = s.prove.result.state
  setup : t.prove.result.setup = s.prove.result.setup

section Congruence

variable {s t : State}

theorem SameProve.of_prove (h : t.prove = s.prove) : SameProve s t := ⟨by rw [h], by rw [h]⟩

theorem SameProve.proveRunning (h : SameProve s t) : t.proveRunning = s.proveRunning := by simp [State.proveRunning, h.state]

theorem SameProve.provedRun (h : SameProve s t) : t.provedRun = s.provedRun := by simp [State.provedRun, h.setup]

theorem SameProve.inProve (h : SameProve s t) (u : UnitId) : t.inProve u = s.inProve u := by
  cases u <;> simp [State.inProve, State.provingRun, h.proveRunning, h.provedRun]

theorem claim_congr (h : t.claims = s.claims) (u : UnitId) : t.claim u = s.claim u := by simp [State.claim, h]

theorem State.ClaimsSound.congr (h : s.ClaimsSound) (hclaims : t.claims = s.claims) (hprove : SameProve s t)
    (hservice : SameService s t) : t.ClaimsSound where
  claims u := by rw [claim_congr hclaims, hprove.inProve]; exact h.claims u
  proving hr := by
    obtain ⟨u, hsetup, hrun, hprover, hon⟩ := h.proving (hprove.proveRunning ▸ hr)
    exact ⟨u, hprove.setup.trans hsetup, by rw [claim_congr hclaims]; exact hrun, by rw [claim_congr hclaims]; exact hprover,
      (hservice.same u.run).trans hon⟩

end Congruence

theorem claimsSound_reads : Reads [.claims, .prove, .calcs] State.ClaimsSound := fun s t h hs =>
  hs.congr (h .claims (by simp)) (.of_prove (h .prove (by simp))) (.of_calcs (h .calcs (by simp)))

/-! ## The units of a prove -/

/-- The unit's hold timer restarts at the end of the prove (R143 step 4). -/
def State.endsWith (s : State) (u : UnitId) : Prop := u = .prover ∨ ∃ r, s.provedRun = some r ∧ u = .run r

/-- The form of the claim records but for the timers that the end of a prove restarts. -/
structure State.ClaimsForm (s : State) : Prop where
  free : ∀ u, (s.claim u).holder = none → (s.claim u).waiting = [] ∧ (s.claim u).timer = none
  held : ∀ u p, (s.claim u).holder = some p → (s.claim u).waiting.Nodup ∧ p ∉ (s.claim u).waiting
  timers : ∀ u p, (s.claim u).holder = some p → (s.claim u).timer = none → s.endsWith u

section Form

variable {s t : State}

theorem endsWith_of_inProve {u : UnitId} (h : s.inProve u = true) : s.endsWith u := by
  cases u with
  | run r =>
    simp only [State.inProve, State.provingRun, Bool.and_eq_true, decide_eq_true_eq] at h
    exact .inr ⟨r, h.2, rfl⟩
  | prover => exact .inl rfl

theorem State.ClaimsSound.form (h : s.ClaimsSound) : s.ClaimsForm where
  free u := (h.claims u).free
  held u p hp := by
    obtain ⟨hnodup, hmem, -⟩ := (h.claims u).held p hp
    exact ⟨hnodup, hmem⟩
  timers u p hp ht := endsWith_of_inProve (((h.claims u).held p hp).2.2.mp ht)

theorem State.ClaimsForm.congr (h : s.ClaimsForm) (hclaims : t.claims = s.claims) (hrun : t.provedRun = s.provedRun) :
    t.ClaimsForm where
  free u := by rw [claim_congr hclaims]; exact h.free u
  held u := by rw [claim_congr hclaims]; exact h.held u
  timers u := by rw [claim_congr hclaims, State.endsWith, hrun]; exact h.timers u

theorem not_inProve_of_not_running (h : s.proveRunning = false) (u : UnitId) : s.inProve u = false := by
  cases u <;> simp [State.inProve, State.provingRun, h]

/-- With no prove RUNNING every held unit's timer must run. -/
theorem State.ClaimsForm.sound (h : s.ClaimsForm) (hn : s.proveRunning = false)
    (htimers : ∀ u p, (s.claim u).holder = some p → (s.claim u).timer ≠ none) : s.ClaimsSound where
  claims u := ⟨h.free u, fun p hp => by
    obtain ⟨hnodup, hmem⟩ := h.held u p hp
    exact ⟨hnodup, hmem, by simp [not_inProve_of_not_running hn, htimers u p hp]⟩⟩
  proving hr := by simp [hn] at hr

/-! ## The end of a prove (R143) -/

/-- A restart of the hold timer touches that of a held unit alone. -/
theorem restartHold_claim (u w : UnitId) (s : State) : (restartHold s u).claim w =
    if w = u ∧ (s.claim w).holder ≠ none then { s.claim w with timer := some (Config.seconds (s.claim w).holdTime) }
    else s.claim w := by
  unfold restartHold
  split
  · rename_i hnone
    split
    · rename_i hw
      rw [hw.1] at hw
      exact absurd hnone hw.2
    · rfl
  · rename_i p hp
    by_cases hw : w = u
    · subst hw
      simp [hp]
    · simp [hw, setClaim_ne s hw]

theorem restartProveHolds_prove (s : State) : (restartProveHolds s).prove = s.prove := by
  obtain ⟨c, h⟩ := restartProveHolds_touches s
  rw [h]

/-- The end of a prove restarts the timers of its held units and leaves every other record. -/
theorem restartProveHolds_claim (s : State) (w : UnitId) :
    ((restartProveHolds s).claim w = s.claim w ∧ ((s.claim w).holder = none ∨ ¬ s.endsWith w))
      ∨ ((s.claim w).holder ≠ none
        ∧ (restartProveHolds s).claim w = { s.claim w with timer := some (Config.seconds (s.claim w).holdTime) }) := by
  unfold restartProveHolds State.endsWith
  cases w with
  | prover =>
    split <;> by_cases hp : (s.claim .prover).holder = none <;> simp [restartHold_claim, hp]
  | run q =>
    split
    · rename_i hr
      simp [restartHold_claim, hr]
    · rename_i r hr
      by_cases hq : q = r
      · subst hq
        by_cases hp : (s.claim (.run q)).holder = none <;> simp [restartHold_claim, hp]
      · left
        simp [restartHold_claim, hr, hq]

theorem restartProveHolds_sound (h : s.ClaimsForm) (hn : s.proveRunning = false) : (restartProveHolds s).ClaimsSound := by
  have hprove := restartProveHolds_prove s
  have hcase := restartProveHolds_claim s
  have hsame (w : UnitId) : ((restartProveHolds s).claim w).holder = (s.claim w).holder
      ∧ ((restartProveHolds s).claim w).waiting = (s.claim w).waiting := by
    obtain ⟨hw, -⟩ | ⟨-, hw⟩ := hcase w <;> simp [hw]
  have htimer (w : UnitId) (p : Port) (hp : (s.claim w).holder = some p) : ((restartProveHolds s).claim w).timer ≠ none := by
    obtain ⟨hw, hnone | hends⟩ | ⟨-, hw⟩ := hcase w
    · simp [hp] at hnone
    · rw [hw]
      exact fun ht => hends (h.timers w p hp ht)
    · simp [hw]
  refine State.ClaimsForm.sound ⟨fun w hw => ?_, fun w p hp => ?_, fun w p hp ht => ?_⟩ ?_ fun w p hp => ?_
  · rw [(hsame w).1] at hw
    obtain ⟨hwaiting, htime⟩ := h.free w hw
    refine ⟨(hsame w).2.trans hwaiting, ?_⟩
    obtain ⟨hw', -⟩ | ⟨hheld, -⟩ := hcase w
    · rw [hw', htime]
    · exact absurd hw hheld
  · rw [(hsame w).1] at hp
    rw [(hsame w).2]
    exact h.held w p hp
  · exact absurd ht (htimer w p ((hsame w).1.symm.trans hp))
  · rw [State.proveRunning, hprove]
    exact hn
  · exact htimer w p ((hsame w).1.symm.trans hp)

/-- The Prove Engine after the common end of a prove: a pass in progress is recorded ENDED (R143). -/
def endedProve (st : ProveState) (reason : Option ProveReason) (s : State) : Prove :=
  { s.prove with
    engine := .idle
    passTimer := none
    working := none
    result := { s.prove.result with
      state := st
      reason := reason
      endTime := some s.terminalTime
      passes := if s.passInProgress then s.prove.result.passes ++ [bareRecord s (some .ended)] else s.prove.result.passes } }

theorem endProve_eq (st : ProveState) (reason : Option ProveReason) (s : State) :
    endProve st reason s = (restartProveHolds { s with prove := endedProve st reason s }).postAll .proveEnd 0 := by
  unfold endProve endedProve
  dsimp only
  split <;> rfl

theorem endProve_sound (h : s.ClaimsForm) {st : ProveState} (hst : st ≠ .running) (reason : Option ProveReason) :
    (endProve st reason s).ClaimsSound := by
  rw [endProve_eq]
  have hform : State.ClaimsForm { s with prove := endedProve st reason s } := h.congr rfl rfl
  exact (restartProveHolds_sound hform (by simp [State.proveRunning, endedProve, hst])).congr rfl (.of_prove rfl) (.of_calcs rfl)

/-! ## A prove goes on or ends -/

/-- A change of the prove that leaves the result record's state and setup. -/
theorem ClaimsSound.goOn (h : s.ClaimsSound) {p : Prove} (hstate : p.result.state = s.prove.result.state)
    (hsetup : p.result.setup = s.prove.result.setup) : State.ClaimsSound { s with prove := p } :=
  h.congr rfl ⟨hstate, hsetup⟩ (.of_calcs rfl)

theorem afterAbandon_claims (h : s.ClaimsSound) : (afterAbandon s).ClaimsSound := by
  have hreset : (resetConsecutive s).ClaimsSound := ClaimsSound.goOn h rfl rfl
  unfold afterAbandon
  dsimp only
  split
  · exact hreset
  · exact endProve_sound hreset.form (by decide) _

theorem appendPass_claims (h : s.ClaimsSound) (x : PassRecord) : (appendPass x s).ClaimsSound := ClaimsSound.goOn h rfl rfl

theorem abandonPass_claims (h : s.ClaimsSound) (reason : AbandonReason) : (abandonPass reason s).ClaimsSound :=
  afterAbandon_claims (appendPass_claims h _)

theorem strayD2_claims (h : s.ClaimsSound) : (strayD2 s).ClaimsSound := by
  have hcount : (countDetectorError s).ClaimsSound := ClaimsSound.goOn h rfl rfl
  unfold strayD2
  dsimp only
  split
  · exact endProve_sound hcount.form (by decide) _
  · exact hcount

theorem strayD1_claims (h : s.ClaimsSound) : (strayD1 s).ClaimsSound := by
  have hcount : (countDetectorError s).ClaimsSound := ClaimsSound.goOn h rfl rfl
  have hreset : (resetConsecutive (appendPass (bareRecord s (some .detector)) (countDetectorError s))).ClaimsSound :=
    ClaimsSound.goOn (appendPass_claims hcount _) rfl rfl
  unfold strayD1
  dsimp only
  split
  · exact endProve_sound hreset.form (by decide) _
  · split
    · exact ClaimsSound.goOn hreset rfl rfl
    · exact endProve_sound hreset.form (by decide) _

theorem detectorEvent_claims (h : s.ClaimsSound) (d : Detector) : (detectorEvent d s).ClaimsSound := by
  unfold detectorEvent
  split
  · exact h
  · exact ClaimsSound.goOn h rfl rfl
  · exact strayD2_claims h
  · exact strayD1_claims h
  · exact ClaimsSound.goOn h rfl rfl
  · exact strayD1_claims h
  · exact strayD2_claims h

theorem afterValid_claims (h : s.ClaimsSound) : (afterValid s).ClaimsSound := by
  have hcount (x : ProveResult) (hstate : x.state = s.prove.result.state) (hsetup : x.setup = s.prove.result.setup) :
      (s.setResult x).ClaimsSound := ClaimsSound.goOn h hstate hsetup
  unfold afterValid
  dsimp only
  split
  · exact hcount _ rfl rfl
  · split
    · refine endProve_sound (State.ClaimsSound.form ?_) (by decide) _
      exact hcount _ rfl rfl
    · split
      · exact hcount _ rfl rfl
      · refine endProve_sound (State.ClaimsSound.form ?_) (by decide) _
        exact hcount _ rfl rfl

theorem passEnd_claims (h : s.ClaimsSound) (u : ProveSetup) (n tP : Nat) : (passEnd u n tP s).ClaimsSound := by
  obtain ⟨v, x, hg⟩ := gatherPass_touches u.run n tP s
  have hgathered : (gatherPass u.run n tP s).2.ClaimsSound := by
    rw [hg]
    exact h.congr rfl (.of_prove rfl) (.of_calcs rfl)
  unfold passEnd
  dsimp only
  split
  · exact afterAbandon_claims (appendPass_claims hgathered _)
  · split
    · exact afterValid_claims (appendPass_claims hgathered _)
    · exact afterAbandon_claims (appendPass_claims hgathered _)

theorem provePulse_claims (h : s.ClaimsSound) : (provePulse s).ClaimsSound := by
  unfold provePulse
  split
  · exact ClaimsSound.goOn h rfl rfl
  · split
    · exact passEnd_claims h ..
    · exact passEnd_claims h ..
  · exact h

theorem hand_claims (h : s.ClaimsSound) (r : Run) (x : Handed) : (hand r x s).ClaimsSound := by
  unfold hand proveItem
  split
  · cases x with
    | pulse => exact provePulse_claims h
    | missing =>
      dsimp only
      split
      · exact abandonPass_claims h _
      · exact h
    | reverse =>
      dsimp only
      split
      · exact abandonPass_claims h _
      · exact h
    | latchSet => exact endProve_sound h.form (by decide) _
  · exact h

/-- Changes outside claims, prove and calculators. -/
theorem ClaimsSound.elsewhere (h : s.ClaimsSound) (hclaims : t.claims = s.claims) (hprove : t.prove = s.prove)
    (hcalcs : t.calcs = s.calcs) : t.ClaimsSound := h.congr hclaims (.of_prove hprove) (.of_calcs hcalcs)

theorem countPulse_claims (h : s.ClaimsSound) (r : Run) : (countPulse r s).ClaimsSound :=
  hand_claims (s := s.setChecker r (s.checker r).pulse) (ClaimsSound.elsewhere h rfl rfl rfl) r .pulse

theorem countMissing_claims (h : s.ClaimsSound) (r : Run) (ch : Channel) : (countMissing r ch s).ClaimsSound := by
  unfold countMissing
  dsimp only
  split
  · refine hand_claims (hand_claims ?_ r .missing) r .latchSet
    exact ClaimsSound.elsewhere h rfl rfl rfl
  · refine hand_claims ?_ r .missing
    exact ClaimsSound.elsewhere h rfl rfl rfl

theorem countReverse_claims (h : s.ClaimsSound) (r : Run) : (countReverse r s).ClaimsSound := by
  refine hand_claims ?_ r .reverse
  split
  · exact ClaimsSound.elsewhere h rfl rfl rfl
  · exact ClaimsSound.elsewhere h rfl rfl rfl

theorem countItem_claims (h : s.ClaimsSound) (r : Run) (i : EdgeItem) : (countItem r i s).ClaimsSound := by
  cases i with
  | nothing => exact h
  | forward => exact countPulse_claims h r
  | forwardMissingA => exact countPulse_claims (countMissing_claims h r .a) r
  | forwardMissingB => exact countPulse_claims (countMissing_claims h r .b) r
  | reversePulse => exact countReverse_claims h r

theorem onlineEdge_claims (h : s.ClaimsSound) (r : Run) (c : Channel) (high : Bool) : (onlineEdge r c high s).ClaimsSound := by
  refine countItem_claims ?_ r _
  exact ClaimsSound.elsewhere h rfl rfl rfl

theorem elapse_claimsSound (h : s.ClaimsSound) (n : Nat) : (s.elapse n).ClaimsSound := by
  have hclaim (u : UnitId) : (s.elapse n).claim u = { s.claim u with timer := countDown n (s.claim u).timer } :=
    PerUnit.get_map ..
  have hprove : SameProve s (s.elapse n) := ⟨rfl, rfl⟩
  refine ⟨fun u => ?_, fun hr => ?_⟩
  · rw [hclaim, hprove.inProve]
    refine ⟨fun hfree => ?_, fun p hp => ?_⟩
    · obtain ⟨hwaiting, htimer⟩ := (h.claims u).free hfree
      exact ⟨hwaiting, by simp [htimer, countDown]⟩
    · obtain ⟨hnodup, hmem, htimer⟩ := (h.claims u).held p hp
      exact ⟨hnodup, hmem, by simpa [countDown] using htimer⟩
  · obtain ⟨u, hsetup, hrun, hprover, hon⟩ := h.proving hr
    exact ⟨u, hsetup, by rw [hclaim]; exact hrun, by rw [hclaim]; exact hprover, hon⟩

theorem abortIf_claims (h : s.ClaimsSound) (b : Bool) (reason : ProveReason) : (abortIf b reason s).ClaimsSound := by
  unfold abortIf
  split
  · exact endProve_sound h.form (by decide) _
  · exact h

end Form

/-! ## Renewals, waiting lists, handovers (R154, R155, R157) -/

section Handovers

variable {s t : State}

/-- A record changes that keeps its unit's form; the units in a prove keep their holder. -/
theorem setClaim_sound (h : s.ClaimsSound) {u : UnitId} {c : Claim} (hc : c.Sound (s.inProve u))
    (hholder : s.inProve u = true → c.holder = (s.claim u).holder) : (s.setClaim u c).ClaimsSound where
  claims w := by
    rw [setClaim_inProve]
    by_cases hw : w = u
    · subst hw
      rwa [setClaim_self]
    · rw [setClaim_ne s hw]
      exact h.claims w
  proving hr := by
    obtain ⟨x, hsetup, hrun, hprover, hon⟩ := h.proving hr
    have hr : s.proveRunning = true := hr
    have hin {w : UnitId} (hw : s.inProve w = true) : ((s.setClaim u c).claim w).holder = (s.claim w).holder := by
      by_cases hwu : w = u
      · subst hwu
        rw [setClaim_self, hholder hw]
      · rw [setClaim_ne s hwu]
    have hx : s.inProve (.run x.run) = true := by simp [State.inProve, State.provingRun, hr, State.provedRun, hsetup]
    exact ⟨x, hsetup, (hin hx).trans hrun, (hin (w := .prover) hr).trans hprover, hon⟩

theorem renew_sound (h : s.ClaimsSound) (p : Port) (u : UnitId) : (renew p s u).ClaimsSound := by
  unfold renew
  split
  · rename_i hcond
    simp only [Bool.and_eq_true, Bool.not_eq_true', State.holds, decide_eq_true_eq] at hcond
    obtain ⟨hnodup, hmem, -⟩ := (h.claims u).held p hcond.1
    refine setClaim_sound h ⟨fun hfree => ?_, fun q hq => ?_⟩ fun _ => rfl
    · simp [hcond.1] at hfree
    · obtain rfl := Option.some.inj (hcond.1.symm.trans hq)
      exact ⟨hnodup, hmem, by simp [hcond.2]⟩
  · exact h

theorem queuePort_sound (h : s.ClaimsSound) (p : Port) (u : UnitId) : (queuePort p s u).ClaimsSound := by
  unfold queuePort
  split
  · exact h
  · rename_i q hq
    split
    · exact h
    · rename_i hcond
      obtain ⟨hpq, hp⟩ := not_or.mp hcond
      obtain ⟨hnodup, hmem, htimer⟩ := (h.claims u).held q hq
      refine setClaim_sound h ⟨fun hfree => ?_, fun q' hq' => ?_⟩ fun _ => rfl
      · simp [hq] at hfree
      · obtain rfl := Option.some.inj (hq.symm.trans hq')
        refine ⟨?_, ?_, htimer⟩
        · refine List.nodup_append.mpr ⟨hnodup, List.nodup_singleton p, fun x hx y hy hxy => hp ?_⟩
          rwa [← List.mem_singleton.mp hy, ← hxy]
        · simp [hmem, hpq]

/-- The record after a handover: the head of the list holds the unit with a started timer, or it is free. -/
def Claim.handedOver (c : Claim) : Claim :=
  match c.waiting with
  | [] => { c with holder := none, timer := none }
  | q :: rest => { c with holder := some q, waiting := rest, timer := some (Config.seconds c.holdTime) }

theorem handedOver_nil {c : Claim} (h : c.waiting = []) : c.handedOver = { c with holder := none, timer := none } := by
  simp only [Claim.handedOver, h]

theorem handedOver_cons {c : Claim} {q : Port} {rest : List Port} (h : c.waiting = q :: rest) :
    c.handedOver = { c with holder := some q, waiting := rest, timer := some (Config.seconds c.holdTime) } := by
  simp only [Claim.handedOver, h]

theorem handover_eq (s : State) (u : UnitId) :
    ∃ l, handover s u = { s.setClaim u (s.claim u).handedOver with links := l } := by
  obtain ⟨hw, h⟩ | ⟨q, rest, hw, h⟩ := handover_cases s u
  · rw [h, handedOver_nil hw]
    exact ⟨s.links, rfl⟩
  · rw [h, handedOver_cons hw]
    exact ⟨_, rfl⟩

theorem handedOver_sound {c : Claim} (hnodup : c.waiting.Nodup) : c.handedOver.Sound false := by
  unfold Claim.handedOver
  split
  · exact ⟨fun _ => ⟨‹_›, rfl⟩, nofun⟩
  · rename_i q rest hw
    rw [hw] at hnodup
    obtain ⟨hmem, hrest⟩ := List.nodup_cons.mp hnodup
    refine ⟨nofun, fun p hp => ?_⟩
    obtain rfl := Option.some.inj hp
    exact ⟨hrest, hmem, by simp⟩

/-- A held unit that is in no prove is handed over. -/
theorem handover_sound (h : s.ClaimsSound) {u : UnitId} {p : Port} (hp : (s.claim u).holder = some p)
    (hin : s.inProve u = false) :
    (handover s u).ClaimsSound := by
  obtain ⟨l, hl⟩ := handover_eq s u
  rw [hl]
  have hset : (s.setClaim u (s.claim u).handedOver).ClaimsSound := by
    refine setClaim_sound h ?_ (by simp [hin])
    rw [hin]
    exact handedOver_sound ((h.claims u).held p hp).1
  exact ClaimsSound.elsewhere hset rfl rfl rfl

/-- A held unit is handed over, in a prove or not: the form stands but for the timers that the end of the prove restarts. -/
theorem handover_form (h : s.ClaimsForm) {u : UnitId} {p : Port} (hp : (s.claim u).holder = some p) :
    (handover s u).ClaimsForm := by
  obtain ⟨l, hl⟩ := handover_eq s u
  rw [hl]
  have hsound := handedOver_sound (h.held u p hp).1
  have hset : (s.setClaim u (s.claim u).handedOver).ClaimsForm := by
    refine ⟨fun w hw => ?_, fun w q hq => ?_, fun w q hq ht => ?_⟩
    all_goals
      by_cases hwu : w = u
    · subst hwu
      rw [setClaim_self] at hw ⊢
      exact hsound.free hw
    · rw [setClaim_ne s hwu] at hw ⊢
      exact h.free w hw
    · subst hwu
      rw [setClaim_self] at hq ⊢
      obtain ⟨hnodup, hmem, -⟩ := hsound.held q hq
      exact ⟨hnodup, hmem⟩
    · rw [setClaim_ne s hwu] at hq ⊢
      exact h.held w q hq
    · subst hwu
      rw [setClaim_self] at hq ht
      simp [(hsound.held q hq).2.2] at ht
    · rw [setClaim_ne s hwu] at hq ht
      exact h.timers w q hq ht
  exact hset.congr rfl rfl

end Handovers

end Sys2Proof.Machine

/-! Every step keeps the form of the claims: the requests on claims and on the prove, service, the expiry of a hold timer, STATION
CLEAR and the start of the part. -/

namespace Sys2Proof.Machine

variable {s t : State}

theorem reset_claimsSound : State.reset.ClaimsSound := by
  have hclaim (u : UnitId) : State.reset.claim u = .cold := PerUnit.get_all ..
  refine State.ClaimsForm.sound ⟨fun u _ => ?_, fun u p hp => ?_, fun u p hp => ?_⟩ rfl fun u p hp => ?_
  · rw [hclaim]
    exact ⟨rfl, rfl⟩
  all_goals
    rw [hclaim] at hp
    exact nomatch hp

theorem claimsRequests : RequestKept State.ClaimsSound where
  renew p u _ hs := renew_sound hs p u
  queuePort p u _ hs := queuePort_sound hs p u
  respond _ _ _ hs := ClaimsSound.elsewhere hs rfl rfl rfl

/-- A request whose block leaves claims, prove and the runs in service. -/
theorem claims_of_service (hs : s.ClaimsSound) (hframe : Frame [.ring, .calcs, .links, .toEngine] s t)
    (hservice : SameService s t) :
    t.ClaimsSound := hs.congr (hframe.same .claims (by decide)) (.of_prove (hframe.same .prove (by decide))) hservice

/-! ## The requests on a run -/

theorem inProve_run_iff {r : Run} : s.inProve (.run r) = true ↔ s.proveRunning = true ∧ s.provedRun = some r := by
  simp [State.inProve, State.provingRun]

/-- A run goes ONLINE or OFFLINE; the run of a RUNNING prove stays. -/
theorem claims_of_others (hs : s.ClaimsSound) (hclaims : t.claims = s.claims) (hprove : SameProve s t)
    (hservice : ∀ q, s.inProve (.run q) = true → (t.calcOf q).runState = (s.calcOf q).runState) : t.ClaimsSound where
  claims u := by rw [claim_congr hclaims, hprove.inProve]; exact hs.claims u
  proving hr := by
    have hr := hprove.proveRunning ▸ hr
    obtain ⟨u, hsetup, hrun, hprover, hon⟩ := hs.proving hr
    refine ⟨u, hprove.setup.trans hsetup, by rw [claim_congr hclaims]; exact hrun, by rw [claim_congr hclaims]; exact hprover, ?_⟩
    rw [hservice u.run (inProve_run_iff.mpr ⟨hr, by simp [State.provedRun, hsetup]⟩)]
    exact hon

theorem goOnline_claims (hs : s.ClaimsSound) {r : Run} (hr : (s.calcOf r).runState ≠ .online) : (goOnline r s).ClaimsSound := by
  refine claims_of_others hs rfl (.of_prove rfl) fun q hq => ?_
  obtain ⟨hrun, hproved⟩ := inProve_run_iff.mp hq
  obtain ⟨u, hsetup, -, -, hon⟩ := hs.proving hrun
  obtain rfl : u.run = q := by simpa [State.provedRun, hsetup] using hproved
  exact (goOnline_runState ..).trans (if_neg (by rintro rfl; exact hr hon))

theorem endProve_proveRunning (st : ProveState) (hst : st ≠ .running) (reason : Option ProveReason) (s : State) :
    (endProve st reason s).proveRunning = false := by
  rw [endProve_eq]
  simp [State.proveRunning, restartProveHolds_prove, endedProve, hst]

/-- The run whose prove has been ended goes OFFLINE. -/
theorem abortIf_not_proving (r : Run) (reason : ProveReason) (s : State) :
    (abortIf (s.provingRun r) reason s).inProve (.run r) = false := by
  unfold abortIf
  split
  · exact not_inProve_of_not_running (endProve_proveRunning _ (by decide) _ _) _
  · rename_i hnot
    simpa [State.inProve] using hnot

theorem goOffline_claims (hs : s.ClaimsSound) (r : Run) : (goOffline r s).ClaimsSound := by
  have h1 : (takeAtEngine r s).ClaimsSound :=
    claims_of_service hs (takeAtEngine_frame ..) (takeAtEngine_calcs r s).service
  have h2 : (closePeriod r ((takeAtEngine r s).calcOf r).elapsed false (takeAtEngine r s)).ClaimsSound := by
    have hframe := closePeriod_frame (takeAtEngine r s) r ((takeAtEngine r s).calcOf r).elapsed false
    exact h1.congr (hframe.same .claims (by decide)) (.of_prove (hframe.same .prove (by decide))) (closePeriod_service ..)
  unfold goOffline
  dsimp only
  generalize closePeriod r ((takeAtEngine r s).calcOf r).elapsed false (takeAtEngine r s) = t at h2
  have h3 : (takeArrivals r t).ClaimsSound := by
    have hframe := takeArrivals_frame t r
    exact h2.congr (hframe.same .claims (by decide)) (.of_prove (hframe.same .prove (by decide))) (takeArrivals_calcs r t).service
  have h4 := claims_of_service h3 ((closeIfOwing_frame r _).mono (by decide)) (closeIfOwing_calcs r _).service
  generalize closeIfOwing r (takeArrivals r t) = t at h4
  have h5 := abortIf_claims h4 (t.provingRun r) .offline
  have hnot := abortIf_not_proving r .offline t
  generalize abortIf (t.provingRun r) .offline t = t at h5 hnot
  have hk := applyPendingK_frame r t
  have hprove : SameProve t (applyPendingK r t) := .of_prove (hk.same .prove (by decide))
  have h6 := h5.congr (hk.same .claims (by decide)) hprove (applyPendingK_calcs r t).service
  refine claims_of_others h6 rfl (.of_prove rfl) fun q hq => ?_
  rw [takeOffline_runState, if_neg]
  rintro rfl
  rw [hprove.inProve, hnot] at hq
  exact nomatch hq

theorem setService_claims {p : Port} {unit service : Nat} (hs : s.ClaimsSound)
    (ht : exec (.setService p unit service) s = .next t) : t.ClaimsSound := by
  have ht : execSetService p unit service s = .next t := ht
  unfold execSetService at ht
  refine claimsRequests.serve_run (fun s r hs _ => ?_) hs ht
  split
  · exact hs
  · rename_i v _
    refine reply_ite_keeps (fun _ => hs) fun hne => ?_
    cases v with
    | online => exact reply_ite_keeps (fun _ => goOnline_claims hs hne) (fun _ => hs)
    | offline => exact goOffline_claims hs r

/-! ## Commands that leave claims, prove and service -/

/-- The form of the claims with the runs in service as in another state. -/
def ClaimsSoundWith (k : PerRun Calculator) (s : State) : Prop := State.ClaimsSound { s with calcs := k }

theorem claimsSoundWith_reads (k : PerRun Calculator) : Reads [.claims, .prove] (ClaimsSoundWith k) := fun s t h hs =>
  State.ClaimsSound.congr hs (t := { t with calcs := k }) (h .claims (by simp)) (.of_prove (h .prove (by simp))) (.of_calcs rfl)

theorem claimsSoundWith_requests (k : PerRun Calculator) : RequestKept (ClaimsSoundWith k) where
  renew p u s hs := by
    have h : { renew p s u with calcs := k } = renew p { s with calcs := k } u := by
      cases u <;> (unfold renew; split <;> [rw [if_pos]; rw [if_neg]]) <;> first | rfl | assumption
    exact (congrArg State.ClaimsSound h).mpr (renew_sound hs p u)
  queuePort p u s hs := by
    have h : { queuePort p s u with calcs := k } = queuePort p { s with calcs := k } u := by
      unfold queuePort
      split
      · rename_i h
        have h : (State.claim { s with calcs := k } u).holder = none := h
        rw [h]
      · rename_i q h
        have h : (State.claim { s with calcs := k } u).holder = some q := h
        rw [h]
        dsimp only
        split <;> [rw [if_pos]; rw [if_neg]] <;> first | rfl | assumption
    exact (congrArg State.ClaimsSound h).mpr (queuePort_sound hs p u)
  respond p x s hs := ClaimsSound.elsewhere (t := { s.respond p x with calcs := k }) hs rfl rfl rfl

theorem claims_of_walk {xs : List Item} (hs : s.ClaimsSound) (hwalk : Walk xs s t)
    (hdisjoint : ∀ x ∈ [Item.claims, .prove], x ∉ xs)
    (hservice : SameService s t) : t.ClaimsSound := by
  have h : ClaimsSoundWith s.calcs t :=
    (claimsSoundWith_reads s.calcs).of_walk (claimsSoundWith_requests s.calcs) hwalk hdisjoint hs
  exact State.ClaimsSound.congr h rfl (.of_prove rfl) ⟨hservice.same⟩

/-! ## The requests on the prove -/

theorem setProver_claims {p : Port} {unit bpv timeout limit accept band : Nat} (hs : s.ClaimsSound)
    (ht : execSetProver p unit bpv timeout limit accept band s = .next t) : t.ClaimsSound := by
  unfold execSetProver at ht
  refine claimsRequests.serve (fun s hs => unitProver_keeps hs (claimsRequests.asHolder hs fun _ => ?_)) hs ht
  exact reply_ite_keeps (fun _ => hs) fun _ => reply_ite_keeps (fun _ => ClaimsSound.goOn hs rfl rfl) (fun _ => hs)

theorem stopHold_claim (u w : UnitId) (s : State) :
    (stopHold s u).claim w = if w = u then { s.claim w with timer := none } else s.claim w := by
  unfold stopHold
  split
  · rename_i hw
    subst hw
    exact setClaim_self ..
  · exact setClaim_ne s ‹_› ..

theorem startProve_claim (r : Run) (p : Port) (n m tol csp : Nat) (s : State) (w : UnitId) :
    (startProve r p n m tol csp s).claim w =
      if w = .prover ∨ w = .run r then { s.claim w with timer := none } else s.claim w := by
  unfold startProve
  dsimp only
  rw [stopHold_claim, stopHold_claim]
  by_cases hw : w = .prover
  · subst hw
    rfl
  · by_cases hr : w = .run r
    · rw [if_neg hw, if_pos hr, if_pos (.inr hr)]
      rfl
    · rw [if_neg hw, if_neg hr, if_neg (not_or_intro hw hr)]
      rfl

theorem startProve_inProve (r : Run) (p : Port) (n m tol csp : Nat) (s : State) (w : UnitId) :
    (startProve r p n m tol csp s).inProve w = decide (w = .prover ∨ w = .run r) := by
  cases w with
  | prover => simp [startProve, stopHold, State.inProve, State.proveRunning]
  | run q => simp [startProve, stopHold, State.inProve, State.provingRun, State.proveRunning, State.provedRun, eq_comm]

/-- A prove starts on an ONLINE run, from the port that holds the run and the prover. -/
theorem startProve_sound (hs : s.ClaimsSound) {r : Run} {p : Port} (hrun : s.holds p (.run r) = true)
    (hprover : s.holds p .prover = true) (hn : s.proveRunning = false) (hon : (s.calcOf r).runState = .online) (n m tol csp : Nat) :
    (startProve r p n m tol csp s).ClaimsSound := by
  simp only [State.holds, decide_eq_true_eq] at hrun hprover
  have hclaim := startProve_claim r p n m tol csp s
  refine ⟨fun w => ?_, fun _ => ⟨_, rfl, ?_, ?_, hon⟩⟩
  · rw [hclaim, startProve_inProve]
    split
    · rename_i hw
      have hheld : (s.claim w).holder = some p := by
        obtain rfl | rfl := hw
        · exact hprover
        · exact hrun
      obtain ⟨hnodup, hmem, -⟩ := (hs.claims w).held p hheld
      refine ⟨fun hfree => ?_, fun q hq => ?_⟩
      · simp [hheld] at hfree
      · obtain rfl := Option.some.inj (hheld.symm.trans hq)
        exact ⟨hnodup, hmem, by simp [hw]⟩
    · rename_i hw
      have := hs.claims w
      rwa [not_inProve_of_not_running hn, ← decide_eq_false hw] at this
  · rw [hclaim, if_pos (.inr rfl)]
    exact hrun
  · rw [hclaim, if_pos (.inl rfl)]
    exact hprover

theorem startProve_claims {p : Port} {unit n m tol csp : Nat} (hs : s.ClaimsSound)
    (ht : execStartProve p unit n m tol csp s = .next t) : t.ClaimsSound := by
  unfold execStartProve at ht
  refine claimsRequests.serve (fun s hs => withRun_keeps hs fun r => ?_) hs ht
  split
  · exact claimsRequests.notHolder p _ hs
  · rename_i hlacks
    have hholds (u : UnitId) (hu : u ∈ [UnitId.run r, .prover]) : s.holds p u = true := by
      simpa using List.filter_eq_nil_iff.mp hlacks u hu
    refine reply_ite_keeps (fun _ => hs) fun hn => reply_ite_keeps (fun _ => hs) fun _ => reply_ite_keeps (fun _ => hs) fun _ =>
      reply_ite_keeps (fun _ => hs) fun hoff => reply_ite_keeps (fun _ => hs) fun _ => ?_
    refine startProve_sound hs (hholds _ (by simp)) (hholds _ (by simp)) (by simpa using hn) ?_ n m tol csp
    cases hstate : (s.calcOf r).runState with
    | offline => exact absurd hstate hoff
    | online => rfl

theorem abortProve_claims {p : Port} {unit : Nat} (hs : s.ClaimsSound) (ht : execAbortProve p unit s = .next t) :
    t.ClaimsSound := by
  unfold execAbortProve at ht
  exact claimsRequests.serve (fun s hs => unitProver_keeps hs (claimsRequests.asHolder hs fun _ => reply_ite_keeps
    (fun _ => endProve_sound (st := .aborted) hs.form (by decide) _) (fun _ => hs))) hs ht

/-- A result that is not RUNNING takes another state that is not. -/
theorem setResult_claimsSound (hs : s.ClaimsSound) {x : ProveResult} (hn : s.proveRunning = false) (hx : x.state ≠ .running) :
    (s.setResult x).ClaimsSound := by
  have hnot : (s.setResult x).proveRunning = false := by simp [State.proveRunning, hx]
  refine ⟨fun u => ?_, fun hr => by simp [hnot] at hr⟩
  rw [not_inProve_of_not_running hnot, ← not_inProve_of_not_running hn u]
  exact hs.claims u

theorem not_running_of_completeFor {r : Run} {x : Nat × Nat} (h : completeFor r s = some x) : s.proveRunning = false := by
  unfold completeFor at h
  split at h
  · rename_i hc
    simp [State.proveRunning, hc.1]
  · exact nomatch h

theorem acceptProve_claims {p : Port} {unit : Nat} {force : Bool} (hs : s.ClaimsSound)
    (ht : execAcceptProve p unit force s = .next t) : t.ClaimsSound := by
  unfold execAcceptProve at ht
  refine claimsRequests.serve_run (fun s r hs _ => ?_) hs ht
  split
  · exact hs
  · rename_i mf q hcomplete
    refine reply_ite_keeps (fun _ => hs) fun _ => reply_ite_keeps (fun _ => hs) fun _ => reply_ite_keeps (fun _ => hs) fun _ => ?_
    have hcurve (c : List CurvePoint) : (s.setCurve r c).ClaimsSound := ClaimsSound.elsewhere hs rfl rfl rfl
    exact setResult_claimsSound (hcurve _) (not_running_of_completeFor hcomplete) (by simp)

theorem discardProve_claims {p : Port} {unit : Nat} (hs : s.ClaimsSound) (ht : execDiscardProve p unit s = .next t) :
    t.ClaimsSound := by
  unfold execDiscardProve at ht
  refine claimsRequests.serve_run (fun s r hs _ => reply_ite_keeps (fun hc => ?_) (fun _ => hs)) hs ht
  exact setResult_claimsSound hs (by simp [State.proveRunning, hc.1]) (by simp)

/-! ## CLAIM, RELEASE, the hold timer and STATION CLEAR -/

/-- A unit in a prove is held by the proving port. -/
theorem holder_of_inProve (hs : s.ClaimsSound) {u : UnitId} (hu : s.inProve u = true) :
    ∃ x, s.prove.result.setup = some x ∧ (s.claim u).holder = some x.port ∧ s.proveRunning = true := by
  have hr : s.proveRunning = true := by
    by_contra hn
    simp [not_inProve_of_not_running (by simpa using hn)] at hu
  obtain ⟨x, hsetup, hrun, hprover, -⟩ := hs.proving hr
  refine ⟨x, hsetup, ?_, hr⟩
  cases u with
  | prover => exact hprover
  | run r =>
    obtain rfl : x.run = r := by simpa [State.provedRun, hsetup] using (inProve_run_iff.mp hu).2
    exact hrun

theorem grant_sound (hs : s.ClaimsSound) {p : Port} {u : UnitId} (hu : (s.claim u).holder = none ∨ s.holds p u = true)
    (hold : Nat) :
    (grant p u hold s).ClaimsSound := by
  have hp : s.inProve u = true → some p = (s.claim u).holder := fun hin => by
    obtain ⟨x, -, hholder, -⟩ := holder_of_inProve hs hin
    obtain hfree | hheld := hu
    · simp [hholder] at hfree
    · exact (of_decide_eq_true hheld).symm
  refine setClaim_sound hs ⟨nofun, fun q hq => ?_⟩ hp
  obtain rfl := Option.some.inj hq
  dsimp only
  obtain hfree | hheld := hu
  · have hin : s.inProve u = false := by
      by_contra hin
      simp [hfree] at hp
      simp [hp] at hin
    simp [((hs.claims u).free hfree).1, hin]
  · obtain ⟨hnodup, hmem, htimer⟩ := (hs.claims u).held p (of_decide_eq_true hheld)
    refine ⟨hnodup, hmem, ?_⟩
    split
    · exact htimer
    · simp_all

theorem claim_claims {p : Port} {unit hold : Nat} (hs : s.ClaimsSound) (ht : execClaim p unit hold s = .next t) :
    t.ClaimsSound := by
  unfold execClaim at ht
  exact claimsRequests.serve (fun s hs => withUnit_keeps hs fun u => reply_ite_keeps (fun _ => hs) fun _ =>
    reply_ite_keeps (fun hu => grant_sound hs hu hold) (fun _ => queuePort_sound hs p u)) hs ht

/-- The holder gives a unit up: a prove that the unit is in ends. -/
theorem release_sound (hs : s.ClaimsSound) {p : Port} {u : UnitId} (hp : s.holds p u = true) :
    (abortIf (s.provingPort p && s.inProve u) .claim (handover s u)).ClaimsSound := by
  have hheld : (s.claim u).holder = some p := of_decide_eq_true hp
  cases hin : s.inProve u with
  | false =>
    rw [Bool.and_false]
    exact handover_sound hs hheld hin
  | true =>
    obtain ⟨x, hsetup, hholder, hr⟩ := holder_of_inProve hs hin
    have hport : s.provingPort p = true := by
      obtain rfl := Option.some.inj (hholder.symm.trans hheld)
      simp [State.provingPort, hr, hsetup]
    rw [hport]
    exact endProve_sound (handover_form hs.form hheld) (by decide) _

theorem release_claims {p : Port} {unit : Nat} (hs : s.ClaimsSound) (ht : execRelease p unit s = .next t) : t.ClaimsSound := by
  unfold execRelease at ht
  exact claimsRequests.serve (fun s hs => withUnit_keeps hs fun u => reply_ite_keeps (release_sound hs) (fun _ => hs)) hs ht

theorem loseClaim_sound (hs : s.ClaimsSound) (u : UnitId) : (loseClaim u s).ClaimsSound := by
  obtain ⟨p, hheld, htimer, h⟩ | ⟨-, h⟩ := loseClaim_cases u s
  · rw [h]
    have hin : s.inProve u = false := by
      by_contra hin
      have := ((hs.claims u).held p hheld).2.2.mpr (by simpa using hin)
      simp [htimer] at this
    have hpost : (s.post p .claimLost (unitBit u)).ClaimsSound := ClaimsSound.elsewhere hs rfl rfl rfl
    exact handover_sound hpost hheld (by rw [post_inProve]; exact hin)
  · rw [h]
    exact hs

/-- A port that leaves a list leaves its form. -/
theorem filtered_sound {c : Claim} {b : Bool} (h : c.Sound b) (p : Port) :
    Claim.Sound { c with waiting := c.waiting.filter (fun q => decide (q ≠ p)) } b where
  free hfree := by simp [h.free hfree]
  held q hq := by
    obtain ⟨hnodup, hmem, htimer⟩ := h.held q hq
    exact ⟨hnodup.filter _, fun hm => hmem (List.mem_of_mem_filter hm), htimer⟩

/-- The units a port holds, handed over one after the other. -/
def handOverHeld (p : Port) (s : State) : State := units.foldl (fun s u => if s.holds p u then handover s u else s) s

/-- The port leaves every waiting list. -/
def leaveLists (p : Port) (s : State) : State :=
  { s with claims := s.claims.map (fun c => { c with waiting := c.waiting.filter (fun q => decide (q ≠ p)) }) }

theorem clearClaims_eq (p : Port) (s : State) : clearClaims p s = leaveLists p (handOverHeld p s) := rfl

theorem leaveLists_claim (p : Port) (s : State) (u : UnitId) : (leaveLists p s).claim u =
    { s.claim u with waiting := (s.claim u).waiting.filter (fun q => decide (q ≠ p)) } := PerUnit.get_map ..

theorem leaveLists_sound (hs : s.ClaimsSound) (p : Port) : (leaveLists p s).ClaimsSound where
  claims u := by
    rw [leaveLists_claim, SameProve.inProve (t := leaveLists p s) (.of_prove rfl)]
    exact filtered_sound (hs.claims u) p
  proving hr := by
    obtain ⟨x, hsetup, hrun, hprover, hon⟩ := hs.proving hr
    exact ⟨x, hsetup, by rw [leaveLists_claim]; exact hrun, by rw [leaveLists_claim]; exact hprover, hon⟩

theorem leaveLists_form (hs : s.ClaimsForm) (p : Port) : (leaveLists p s).ClaimsForm where
  free u hu := by
    rw [leaveLists_claim] at hu ⊢
    simpa using (by simp [hs.free u hu] : _ ∧ _)
  held u q hq := by
    rw [leaveLists_claim] at hq ⊢
    obtain ⟨hnodup, hmem⟩ := hs.held u q hq
    exact ⟨hnodup.filter _, fun hm => hmem (List.mem_of_mem_filter hm)⟩
  timers u q hq ht := by
    rw [leaveLists_claim] at hq ht
    exact hs.timers u q hq ht

theorem units_foldl_keeps {P : State → Prop} {f : State → UnitId → State} (hf : ∀ s u, P s → P (f s u)) (l : List UnitId)
    (h : P s) : P (l.foldl f s) := by
  induction l generalizing s with
  | nil => exact h
  | cons u l ih => exact ih (hf s u h)

theorem handOverHeld_form (hs : s.ClaimsForm) (p : Port) : (handOverHeld p s).ClaimsForm := by
  refine units_foldl_keeps (P := State.ClaimsForm) (fun s u hs => ?_) units hs
  split
  · exact handover_form hs (of_decide_eq_true ‹_›)
  · exact hs

theorem handover_prove (s : State) (u : UnitId) : (handover s u).prove = s.prove := (handover_frame s u).same .prove (by decide)

/-- A port that is not the proving port holds no unit that is in a prove. -/
theorem handOverHeld_sound (hs : s.ClaimsSound) {p : Port} (hp : s.provingPort p = false) : (handOverHeld p s).ClaimsSound := by
  refine (units_foldl_keeps (P := fun t => t.ClaimsSound ∧ t.prove = s.prove) (fun t u ht => ?_) units ⟨hs, rfl⟩).1
  obtain ⟨hsound, hprove⟩ := ht
  split
  · rename_i hholds
    have hheld : (t.claim u).holder = some p := of_decide_eq_true hholds
    refine ⟨handover_sound hsound hheld ?_, (handover_prove t u).trans hprove⟩
    by_contra hin
    obtain ⟨x, hsetup, hholder, hr⟩ := holder_of_inProve hsound (by simpa using hin)
    obtain rfl := Option.some.inj (hholder.symm.trans hheld)
    have hport : t.provingPort x.port = true := by simp [State.provingPort, hr, hsetup]
    have hsame : t.provingPort x.port = s.provingPort x.port := by simp [State.provingPort, State.proveRunning, hprove]
    simp [hsame, hp] at hport
  · exact ⟨hsound, hprove⟩

theorem clearStation_claims (hs : s.ClaimsSound) (p : Port) : (clearStation p s).ClaimsSound := by
  have habort : (abortIf (s.provingPort p) .claim (clearClaims p s)).ClaimsSound := by
    rw [clearClaims_eq]
    cases hp : s.provingPort p with
    | false => exact leaveLists_sound (handOverHeld_sound hs hp) p
    | true => exact endProve_sound (leaveLists_form (handOverHeld_form hs.form p) p) (by decide) _
  obtain ⟨g, c, x, h⟩ := voidSlots_touches p (abortIf (s.provingPort p) .claim (clearClaims p s))
  have hvoid := habort.congr (t := voidSlots p (abortIf (s.provingPort p) .claim (clearClaims p s))) (by rw [h])
    (.of_prove (by rw [h])) (voidSlots_calcs p _).service
  exact ClaimsSound.elsewhere hvoid rfl rfl rfl

theorem stationClear_claims {p : Port} {unit : Nat} (hs : s.ClaimsSound) (ht : execStationClear p unit s = .next t) :
    t.ClaimsSound := by
  unfold execStationClear at ht
  exact claimsRequests.serve (fun s hs => unitZero_keeps hs (clearStation_claims hs p)) hs ht

/-! ## Events -/

theorem risingEdge_claims {r : Run} {c : Channel} {high : Bool} {stamp : Nat} (hs : s.ClaimsSound)
    (ht : execRisingEdge r c high stamp s = .next t) : t.ClaimsSound := by
  refine event_keeps (fun hs => ?_) hs ht
  have hcome : (s.comeTo stamp).ClaimsSound := elapse_claimsSound hs _
  dsimp only
  split
  · exact onlineEdge_claims hcome r c high
  · exact claimsSound_reads.of_frame (offlineEdge_frame r c _) (by decide) hcome

theorem passTimerExpiry_claims (hs : s.ClaimsSound) (ht : execPassTimerExpiry s = .next t) : t.ClaimsSound := by
  refine event_keeps (fun hs => ?_) hs ht
  split
  · exact abandonPass_claims hs _
  · exact hs

/-! ## The start of the part -/

/-- The claims after a restart: every unit free, with its hold time. -/
theorem restartBlocks_claim (s : State) (u : UnitId) : (restartBlocks s).claim u =
    { holder := none, waiting := [], holdTime := (s.claim u).holdTime, timer := none } := by
  have hclaims : (restartBlocks s).claims =
      s.claims.map (fun c => { holder := none, waiting := [], holdTime := c.holdTime, timer := none }) := by
    unfold restartBlocks resumeAtRestart
    split <;> rfl
  rw [State.claim, hclaims, PerUnit.get_map]
  rfl

theorem restartBlocks_form (s : State) : (restartBlocks s).ClaimsForm where
  free u _ := by simp [restartBlocks_claim]
  held u p hp := by simp [restartBlocks_claim] at hp
  timers u p hp := by simp [restartBlocks_claim] at hp

theorem restartBlocks_prove (s : State) : SameProve s (restartBlocks s) := by
  unfold restartBlocks resumeAtRestart
  split <;> exact ⟨rfl, rfl⟩

theorem abortAtRestart_claims (hs : s.ClaimsForm) (htimers : ∀ u p, (s.claim u).holder ≠ some p) :
    (abortAtRestart s).ClaimsSound := by
  unfold abortAtRestart
  split
  · refine State.ClaimsForm.sound (hs.congr rfl rfl) ?_ fun u p hp => absurd hp (htimers u p)
    simp [State.proveRunning]
  · rename_i hn
    exact hs.sound (by simpa using hn) fun u p hp => absurd hp (htimers u p)

theorem restartPeriod_claims (hs : s.ClaimsSound) (r : Run) : (restartPeriod s r).ClaimsSound := by
  have hframe : Frame [.live, .links, .calcs, .checkers, .toBank, .toEngine] s (restartPeriod s r) := by
    unfold restartPeriod
    exact .ite (fun _ => (closePeriod_frame ..).andThen (setCalc_frame ..) (by decide)) (fun _ => .refl ..)
  exact hs.congr (hframe.same .claims (by decide)) (.of_prove (hframe.same .prove (by decide))) (restartPeriod_service s r)

/-- A restart frees every unit and ends a RUNNING prove. -/
theorem restart_claims (s : State) : (restart s).ClaimsSound := by
  refine runs_foldl_keeps (P := State.ClaimsSound) (fun s r hs => restartPeriod_claims hs r) runs ?_
  exact abortAtRestart_claims (restartBlocks_form s) fun u p hp => by simp [restartBlocks_claim] at hp

theorem startPart_claims (intact : Bool) (s : State) : (startPart intact s).ClaimsSound := by
  unfold startPart
  split
  · exact restart_claims _
  · exact ClaimsSound.elsewhere reset_claimsSound rfl rfl rfl

theorem partStart_claims {cause : StartCause} {intact : Bool} (hs : s.ClaimsSound)
    (ht : execPartStart cause intact s = .next t) : t.ClaimsSound := by
  cases cause with
  | powerUp =>
    obtain rfl := Host.Outcome.next.inj (show Host.Outcome.next (startPart intact s) = .next t from ht)
    exact startPart_claims intact s
  | resetInput => exact event_keeps (fun _ => startPart_claims intact s) hs (show event (startPart intact) s = .next t from ht)

/-! ## The step -/

/-- A command whose block reaches calculators, and neither claims nor the prove. -/
theorem claims_of_acts {c : Instr} (hs : s.ClaimsSound) (ht : exec c s = .next t) (hc : changesService c = false)
    (hacts : ∀ x ∈ [Item.claims, .prove], x ∉ acts c) : t.ClaimsSound := by
  obtain ⟨u, hu, hwalk⟩ := exec_answers c s (by rintro p frame rfl; exact nomatch hc)
  obtain rfl : u = t := Host.Outcome.next.inj (hu.symm.trans ht)
  exact claims_of_walk hs hwalk hacts (exec_service hc ht)

theorem claims_stepKept : StepKept [.claims, .prove, .calcs] State.ClaimsSound where
  reads := claimsSound_reads
  queue := by decide
  elapse n _ hs := elapse_claimsSound hs n
  requests := claimsRequests
  exec c s t hreach hplain hs ht := by
    cases c with
    | setService => exact setService_claims hs ht
    | setProver => exact setProver_claims hs ht
    | startProve => exact startProve_claims hs ht
    | abortProve => exact abortProve_claims hs ht
    | acceptProve => exact acceptProve_claims hs ht
    | discardProve => exact discardProve_claims hs ht
    | claim => exact claim_claims hs ht
    | release => exact release_claims hs ht
    | stationClear => exact stationClear_claims hs ht
    | risingEdge => exact risingEdge_claims hs ht
    | detectorActuation d stamp =>
      exact event_keeps (fun hs => detectorEvent_claims (elapse_claimsSound hs _) d) hs
        (show execDetectorActuation d stamp s = .next t from ht)
    | passTimerExpiry => exact passTimerExpiry_claims hs ht
    | holdTimerExpiry u =>
      exact event_keeps (fun hs => loseClaim_sound hs u) hs (show execHoldTimerExpiry u s = .next t from ht)
    | partStart => exact partStart_claims hs ht
    | refusedRequestFrame => exact absurd rfl (hplain _ _)
    | _ => exact claims_of_acts hs ht rfl (by simp [acts])

/-- Settles O60: each command that reaches claims, the prove or service keeps the form; a command that reaches
the calculators alone
leaves the runs in service. -/
theorem claimsStayInForm : Obligations.ClaimsStayInForm := fun _ _ => claims_stepKept.keeps_step

end Sys2Proof.Machine

/-! Checkers and calculators stay in their ranges (1.1, 2.1). -/

namespace Sys2Proof.Machine

/-! ## Checkers -/

theorem countUp_le {n limit : Nat} (h : n ≤ limit) : countUp n limit ≤ limit := by
  unfold countUp
  split <;> omega

section Checkers

variable {c : Checker}

/-- The checker after a missing event and the test against E (R7, R8). -/
def Checker.missed (c : Checker) (ch : Channel) : Checker :=
  if (c.missing ch).latches then (c.missing ch).latch else c.missing ch

theorem cold_checker_sound : Checker.cold.Sound := by
  constructor <;> simp [Checker.cold]

theorem expecting_sound (h : c.Sound) (e : Expectation) : Checker.Sound { c with expectation := e } := { h with }

/-- The ranges of a checker between a missing event and the pulse that is counted with it. -/
structure Checker.Awaiting (c : Checker) : Prop where
  accepted : c.accepted ≤ 80000
  reverse : c.reverse ≤ 40000
  missingA : c.missingA ≤ 40000
  missingB : c.missingB ≤ 40000
  window : 100 ≤ c.windowLength ∧ c.windowLength ≤ 1000000
  limit : 1 ≤ c.errorLimit ∧ c.errorLimit ≤ 1000
  pulses : c.windowPulses < c.windowLength
  errors : c.windowErrors ≤ c.windowPulses + 1
  latch : c.failed = false → c.windowErrors < c.errorLimit
  mark : c.failed = true → c.failureMark = true
  offline : c.offlinePulses ≤ 4294967295

theorem Checker.Sound.awaiting (h : c.Sound) : c.Awaiting := { h with errors := Nat.le_succ_of_le h.errors }

theorem pulse_sound (h : c.Awaiting) : c.pulse.Sound := by
  have haccepted := countUp_le h.accepted
  have hlimit := h.limit
  have hwindow := h.window
  have herrors := h.errors
  unfold Checker.pulse
  dsimp only
  split
  · exact { h with
      accepted := haccepted, pulses := by dsimp only; omega, errors := le_refl _, latch := fun _ => by dsimp only; omega }
  · exact { h with accepted := haccepted, pulses := by dsimp only; omega, errors := by dsimp only; omega }

theorem missed_awaiting (h : c.Sound) (ch : Channel) : (c.missed ch).Awaiting := by
  have herrors := h.errors
  have hA := countUp_le h.missingA
  have hB := countUp_le h.missingB
  have hlatches : (c.missing ch).latches = (!c.failed && decide (c.windowErrors + 1 = c.errorLimit)) := by cases ch <;> rfl
  unfold Checker.missed
  rw [hlatches]
  split
  · cases ch
    · exact { h with missingA := hA, errors := by dsimp [Checker.latch, Checker.missing]; omega, latch := nofun, mark := fun _ => rfl }
    · exact { h with missingB := hB, errors := by dsimp [Checker.latch, Checker.missing]; omega, latch := nofun, mark := fun _ => rfl }
  · rename_i hnot
    have hlatch (hf : c.failed = false) : c.windowErrors + 1 < c.errorLimit := by
      have := h.latch hf
      simp [hf] at hnot
      omega
    cases ch
    · exact { h with missingA := hA, errors := by dsimp [Checker.missing]; omega, latch := hlatch }
    · exact { h with missingB := hB, errors := by dsimp [Checker.missing]; omega, latch := hlatch }

theorem reverse_sound (h : c.Sound) : Checker.Sound { c with reverse := countUp c.reverse Config.maxChannel } :=
  { h with reverse := countUp_le h.reverse }

theorem handOver_sound (h : c.Sound) : c.handOver.Sound :=
  { h with accepted := Nat.zero_le _, reverse := Nat.zero_le _, missingA := Nat.zero_le _, missingB := Nat.zero_le _,
           mark := id }

theorem cleared_sound (h : c.Sound) {window limit : Nat} (hw : 100 ≤ window ∧ window ≤ 1000000) (hl : 1 ≤ limit ∧ limit ≤ 1000) :
    Checker.Sound { c with windowLength := window, errorLimit := limit, windowPulses := 0, windowErrors := 0 } :=
  { h with window := hw, limit := hl, pulses := by dsimp only; omega, errors := le_refl _, latch := fun _ => by dsimp only; omega }

end Checkers

/-- A checker is replaced by one within the ranges. -/
theorem setChecker_sound {s : State} (h : s.CheckersSound) {r : Run} {c : Checker} (hc : c.Sound) :
    (s.setChecker r c).CheckersSound := by
  intro q
  by_cases hq : q = r
  · subst hq
    rwa [setChecker_self]
  · rw [setChecker_ne s hq]
    exact h q

section Edges

variable {s t : State}

theorem checkersSound_reads : Reads [.checkers] State.CheckersSound := fun s t h hs r => by
  have hcheckers : t.checkers = s.checkers := h .checkers (by simp)
  simpa [State.checker, hcheckers] using hs r

theorem hand_checkers (r : Run) (x : Handed) (s : State) : (hand r x s).checkers = s.checkers :=
  (hand_touches r x s).frame.same .checkers (by decide)

theorem countPulse_checkers (r : Run) (s : State) : (countPulse r s).checkers = (s.setChecker r (s.checker r).pulse).checkers :=
  hand_checkers ..

theorem countMissing_checkers (r : Run) (ch : Channel) (s : State) :
    (countMissing r ch s).checkers = (s.setChecker r ((s.checker r).missed ch)).checkers := by
  unfold countMissing Checker.missed
  dsimp only
  split
  · rw [hand_checkers, hand_checkers]
    rfl
  · rw [hand_checkers]

theorem countReverse_checkers (r : Run) (s : State) : (countReverse r s).checkers = (s.setChecker r { s.checker r with
    reverse := countUp (s.checker r).reverse Config.maxChannel }).checkers := by
  unfold countReverse
  dsimp only
  rw [hand_checkers]
  split <;> rfl

theorem State.CheckersSound.congr (h : s.CheckersSound) (hcheckers : t.checkers = s.checkers) : t.CheckersSound := fun r => by
  simpa [State.checker, hcheckers] using h r

theorem checker_congr (h : t.checkers = s.checkers) (r : Run) : t.checker r = s.checker r := by simp [State.checker, h]

theorem missed_pulse_checkers (h : s.CheckersSound) (r : Run) (ch : Channel) :
    (countPulse r (countMissing r ch s)).CheckersSound := by
  refine State.CheckersSound.congr (fun q => ?_) (countPulse_checkers ..)
  have hmissed := countMissing_checkers r ch s
  by_cases hq : q = r
  · subst hq
    rw [setChecker_self, checker_congr hmissed, setChecker_self]
    exact pulse_sound (missed_awaiting (h q) ch)
  · rw [setChecker_ne _ hq, checker_congr hmissed, setChecker_ne s hq]
    exact h q

theorem countItem_checkers (h : s.CheckersSound) (r : Run) (i : EdgeItem) : (countItem r i s).CheckersSound := by
  cases i with
  | nothing => exact h
  | forward => exact (setChecker_sound h (pulse_sound (h r).awaiting)).congr (countPulse_checkers r s)
  | forwardMissingA => exact missed_pulse_checkers h r .a
  | forwardMissingB => exact missed_pulse_checkers h r .b
  | reversePulse => exact (setChecker_sound h (reverse_sound (h r))).congr (countReverse_checkers r s)

theorem onlineEdge_checkers (h : s.CheckersSound) (r : Run) (c : Channel) (high : Bool) :
    (onlineEdge r c high s).CheckersSound := countItem_checkers (setChecker_sound h (expecting_sound (h r) _)) r _

theorem offlineEdge_checkers (h : s.CheckersSound) (r : Run) (c : Channel) : (offlineEdge r c s).CheckersSound := by
  cases c with
  | a =>
    have hcount : Checker.Sound { s.checker r with offlinePulses := countUp (s.checker r).offlinePulses Config.max32 } :=
      { h r with offline := countUp_le (h r).offline }
    exact (setChecker_sound h hcount).congr rfl
  | b => exact h

end Edges

/-! ## The commands that reach the checkers -/

section CheckerCommands

variable {s t : State}

theorem checkersRequests : RequestKept State.CheckersSound := checkersSound_reads.requestKept (by decide) (by decide)

theorem closePeriod_checkers (h : s.CheckersSound) (r : Run) (tMs : Nat) (restart : Bool) :
    (closePeriod r tMs restart s).CheckersSound := by
  obtain ⟨v, x, hclose⟩ := closePeriod_touches r tMs restart s
  exact (setChecker_sound h (handOver_sound (h r))).congr (by rw [hclose]; rfl)

theorem expirePeriod_checkers (h : s.CheckersSound) (r : Run) : (expirePeriod r s).CheckersSound :=
  (closePeriod_checkers (checkersSound_reads.of_frame (takeAtEngine_frame s r) (by decide) h) r _ _).congr rfl

theorem goOnline_checkers (h : s.CheckersSound) (r : Run) : (goOnline r s).CheckersSound := by
  refine State.CheckersSound.congr (setChecker_sound h (r := r) (c := { s.checker r with
    expectation := .either, accepted := 0, reverse := 0, missingA := 0, missingB := 0, failureMark := (s.checker r).failed }) ?_) rfl
  exact expecting_sound (handOver_sound (h r)) .either

theorem takeOffline_checkers (h : s.CheckersSound) (r : Run) : (takeOffline r s).CheckersSound := by
  refine State.CheckersSound.congr (setChecker_sound h (r := r) (c := { s.checker r with offlinePulses := 0 }) ?_) rfl
  exact { h r with offline := Nat.zero_le _ }

/-- What the steps of R20 keep is kept by taking a run OFFLINE. -/
theorem goOffline_keeps {P : State → Prop} {r : Run} (hengine : Keeps P (takeAtEngine r))
    (hclose : ∀ tMs, Keeps P (closePeriod r tMs false))
    (harrivals : Keeps P (takeArrivals r)) (howing : Keeps P (closeIfOwing r)) (habort : ∀ b, Keeps P (abortIf b .offline))
    (hpending : Keeps P (applyPendingK r)) (hoffline : Keeps P (takeOffline r)) : Keeps P (goOffline r) := fun s hs =>
  hoffline _ (hpending _ (habort _ _ (howing _ (harrivals _ (hclose _ _ (hengine s hs))))))

theorem goOffline_checkers (r : Run) : Keeps State.CheckersSound (goOffline r) :=
  goOffline_keeps (fun s => checkersSound_reads.of_frame (takeAtEngine_frame s r) (by decide))
    (fun _ _ hs => closePeriod_checkers hs r _ _) (fun s => checkersSound_reads.of_frame (takeArrivals_frame s r) (by decide))
    (fun s => checkersSound_reads.of_frame (closeIfOwing_frame r s) (by decide))
    (fun b s => checkersSound_reads.of_frame (abortIf_frame b .offline s) (by decide))
    (fun s => checkersSound_reads.of_frame (applyPendingK_frame r s) (by decide)) (fun _ hs => takeOffline_checkers hs r)

theorem setService_checkers {p : Port} {unit service : Nat} (hs : s.CheckersSound)
    (ht : execSetService p unit service s = .next t) : t.CheckersSound := by
  unfold execSetService at ht
  refine checkersRequests.serve_run (fun s r hs _ => ?_) hs ht
  split
  · exact hs
  · rename_i v _
    refine reply_ite_keeps (fun _ => hs) fun hne => ?_
    cases v with
    | online => exact reply_ite_keeps (fun _ => goOnline_checkers hs r) (fun _ => hs)
    | offline => exact goOffline_checkers r s hs

theorem within_iff {lo hi n : Nat} : within lo hi n = true ↔ lo ≤ n ∧ n ≤ hi := by simp [within]

theorem setSecurity_checkers {p : Port} {unit window limit : Nat} (hs : s.CheckersSound)
    (ht : execSetSecurity p unit window limit s = .next t) : t.CheckersSound := by
  unfold execSetSecurity at ht
  refine checkersRequests.serve_run (fun s r hs _ => reply_ite_keeps (fun hrange => ?_) (fun _ => hs)) hs ht
  simp only [Bool.and_eq_true, within_iff] at hrange
  exact setChecker_sound hs (cleared_sound (hs r) hrange.1 hrange.2)

theorem clearRunFault_checkers {p : Port} {unit : Nat} (hs : s.CheckersSound)
    (ht : execClearRunFault p unit s = .next t) : t.CheckersSound := by
  unfold execClearRunFault at ht
  refine checkersRequests.serve_run (fun s r hs _ => ?_) hs ht
  have hcleared : Checker.Sound { s.checker r with failed := false, windowPulses := 0, windowErrors := 0 } :=
    { cleared_sound (hs r) (hs r).window (hs r).limit with
      mark := nofun, latch := fun _ => lt_of_lt_of_le Nat.zero_lt_one (hs r).limit.1 }
  exact (setChecker_sound hs hcleared).congr rfl

theorem risingEdge_checkers {r : Run} {c : Channel} {high : Bool} {stamp : Nat} (hs : s.CheckersSound)
    (ht : execRisingEdge r c high stamp s = .next t) : t.CheckersSound := by
  refine event_keeps (fun hs => ?_) hs ht
  have hcome : (s.comeTo stamp).CheckersSound := hs.congr rfl
  dsimp only
  split
  · exact onlineEdge_checkers hcome r c high
  · exact offlineEdge_checkers hcome r c

theorem restartPeriod_checkers (h : s.CheckersSound) (r : Run) : (restartPeriod s r).CheckersSound := by
  unfold restartPeriod
  split
  · exact (closePeriod_checkers h r _ _).congr rfl
  · exact h

theorem restartBlocks_checkers (h : s.CheckersSound) : (restartBlocks s).CheckersSound := by
  intro r
  have hchecker : (restartBlocks s).checker r = { s.checker r with expectation := .either } := by
    unfold restartBlocks resumeAtRestart
    split <;> exact PerRun.get_map ..
  rw [hchecker]
  exact expecting_sound (h r) .either

theorem reset_checkersSound : State.reset.CheckersSound := fun r => by
  have hchecker : State.reset.checker r = .cold := PerRun.get_all ..
  rw [hchecker]
  exact cold_checker_sound

theorem startPart_checkers (h : s.CheckersSound) (intact : Bool) : (startPart intact s).CheckersSound := by
  unfold startPart
  split
  · refine runs_foldl_keeps (P := State.CheckersSound) (fun s r hs => restartPeriod_checkers hs r) runs ?_
    have hsettled := checkersSound_reads.of_frame (settleArrivals_frame s) (by decide) h
    have hblocks := restartBlocks_checkers (s := { settleArrivals s with
      retention := { (settleArrivals s).retention with supplied := true, lapse := false } }) (hsettled.congr rfl)
    refine hblocks.congr ?_
    unfold abortAtRestart
    split <;> rfl
  · exact reset_checkersSound.congr rfl

/-- A start of the part, by either cause. -/
theorem partStart_keeps {P : State → Prop} {cause : StartCause} {intact : Bool} (h : P s → P (startPart intact s)) (hs : P s)
    (ht : execPartStart cause intact s = .next t) : P t := by
  cases cause with
  | powerUp =>
    obtain rfl := Host.Outcome.next.inj (show Host.Outcome.next (startPart intact s) = .next t from ht)
    exact h hs
  | resetInput => exact event_keeps h hs (show event (startPart intact) s = .next t from ht)

theorem checkers_stepKept : StepKept [.checkers] State.CheckersSound where
  reads := checkersSound_reads
  queue := by decide
  elapse n _ hs := hs.congr rfl
  requests := checkersRequests
  exec c s t hreach hplain hs ht := by
    cases c with
    | setService => exact setService_checkers hs ht
    | setSecurity => exact setSecurity_checkers hs ht
    | clearRunFault => exact clearRunFault_checkers hs ht
    | risingEdge => exact risingEdge_checkers hs ht
    | periodExpiry r =>
      refine event_keeps (fun hs => ?_) hs (show execPeriodExpiry r s = .next t from ht)
      split
      · exact expirePeriod_checkers hs r
      · exact hs
    | partStart => exact partStart_keeps (fun hs => startPart_checkers hs _) hs ht
    | refusedRequestFrame => exact absurd rfl (hplain _ _)
    | _ => exact absurd hreach Bool.false_ne_true

end CheckerCommands

end Sys2Proof.Machine

/-! Calculators stay in their ranges at every step (2.1). -/

namespace Sys2Proof.Machine

section Calculators

variable {k : Calculator}

theorem cold_calculator_sound : Calculator.cold.Sound := by
  constructor <;> simp [Calculator.cold]

theorem retarget_sound (h : k.Sound) (target : Option SlotId) : Calculator.Sound { k with target := target } := { h with }

theorem rescaled_lt {residue old new : Nat} (hresidue : residue < old) (hnew : 0 < new) : residue * new / old < new := by
  rw [Nat.div_lt_iff_lt_mul (by omega), Nat.mul_comm new]
  exact Nat.mul_lt_mul_of_pos_right hresidue hnew

/-- Applying a K-factor in range keeps each indicated residue below it (R38). -/
theorem applyK_sound (h : k.Sound) {x : Nat} (hx : 1000 ≤ x ∧ x ≤ 99999999) : (k.applyK x).Sound :=
  { h with kmilli := hx, pendingK := nofun, rI := rescaled_lt h.rI (by omega), rR := rescaled_lt h.rR (by omega) }

theorem engineChange_sound (h : k.Sound) {k' : Calculator} (hk : k.EngineChange k') : k'.Sound := by
  obtain ⟨i, rfl | ⟨x, hx, rfl⟩⟩ := hk
  · exact retarget_sound h i
  · exact retarget_sound (applyK_sound h (h.pendingK x hx)) i

theorem closed_sound (h : k.Sound) {rI rR rG rN : Nat} (hI : rI < k.kmilli) (hR : rR < k.kmilli) (hG : rG < 1000000)
    (hN : rN < 1000000) (last : Option PeriodRecord) {quiet : Nat} (hquiet : quiet ≤ 65535) :
    Calculator.Sound { k with rI := rI, rR := rR, rG := rG, rN := rN, lastPeriod := last, quiet := quiet } :=
  { h with rI := hI, rR := hR, rG := hG, rN := hN, quiet := hquiet }

/-- A period close carries residues below their divisors (R25, R29, R30, R31). -/
theorem calculatorAfter_sound (h : k.Sound) (i : PeriodInputs) (hk : i.kmilli = k.kmilli) : (i.calculatorAfter k).Sound := by
  have hpos : 0 < k.kmilli := by have := h.kmilli; omega
  have hI : i.newRI < k.kmilli := hk ▸ Nat.mod_lt _ (hk ▸ hpos)
  have hR : i.newRR < k.kmilli := hk ▸ Nat.mod_lt _ (hk ▸ hpos)
  have hG : i.newRG < 1000000 := Nat.mod_lt _ (by decide)
  have hN : i.newRN < 1000000 := Nat.mod_lt _ (by decide)
  unfold PeriodInputs.calculatorAfter
  refine closed_sound h hI hR hG hN _ ?_
  split
  · exact countUp_le h.quiet
  · exact Nat.zero_le _

theorem opened_sound (h : k.Sound) : Calculator.Sound { k with elapsed := 0, openLength := k.periodLength } :=
  { h with openLength := h.length, elapsed := lt_of_lt_of_le (Nat.succ_pos 99) h.length.1 }

end Calculators

section CalculatorCommands

variable {s t : State}

theorem setCalc_sound (h : s.CalculatorsSound) {r : Run} {k : Calculator} (hk : k.Sound) : (s.setCalc r k).CalculatorsSound := by
  intro q
  by_cases hq : q = r
  · subst hq
    rwa [setCalc_self]
  · rw [setCalc_ne s hq]
    exact h q

theorem calculatorsSound_of_calcs (h : s.CalculatorsSound) (hcalcs : t.calcs = s.calcs) : t.CalculatorsSound := fun r => by
  simpa [State.calcOf, hcalcs] using h r

theorem calculatorsSound_reads : Reads [.calcs] State.CalculatorsSound := fun _ _ h hs =>
  calculatorsSound_of_calcs hs (h .calcs (by simp))

theorem calculatorsRequests : RequestKept State.CalculatorsSound := calculatorsSound_reads.requestKept (by decide) (by decide)

theorem EngineCalcs.sound (h : s.CalculatorsSound) (hcalcs : EngineCalcs s t) : t.CalculatorsSound := fun r =>
  engineChange_sound (h r) (hcalcs.change r)

theorem closePeriod_calculators (h : s.CalculatorsSound) (r : Run) (tMs : Nat) (restart : Bool) :
    (closePeriod r tMs restart s).CalculatorsSound :=
  calculatorsSound_of_calcs (setCalc_sound h (calculatorAfter_sound (h r) _ rfl)) (closePeriod_calcs ..)

theorem openPeriod_calculators (h : s.CalculatorsSound) (r : Run) : (openPeriod r s).CalculatorsSound :=
  setCalc_sound h (opened_sound (h r))

theorem goOnline_calculators (h : s.CalculatorsSound) (r : Run) : (goOnline r s).CalculatorsSound := by
  have hopened := opened_sound (h r)
  exact setCalc_sound h { hopened with quiet := Nat.zero_le _ }

theorem takeOffline_calculators (h : s.CalculatorsSound) (r : Run) : (takeOffline r s).CalculatorsSound :=
  setCalc_sound h { h r with }

theorem goOffline_calculators (r : Run) : Keeps State.CalculatorsSound (goOffline r) :=
  goOffline_keeps (fun s hs => (takeAtEngine_calcs r s).sound hs) (fun _ _ hs => closePeriod_calculators hs r _ _)
    (fun s hs => (takeArrivals_calcs r s).sound hs) (fun s hs => (closeIfOwing_calcs r s).sound hs)
    (fun _ _ hs => calculatorsSound_of_calcs hs (abortIf_calcs ..)) (fun s hs => (applyPendingK_calcs r s).sound hs)
    (fun _ hs => takeOffline_calculators hs r)

theorem setService_calculators {p : Port} {unit service : Nat} (hs : s.CalculatorsSound)
    (ht : execSetService p unit service s = .next t) : t.CalculatorsSound := by
  unfold execSetService at ht
  refine calculatorsRequests.serve_run (fun s r hs _ => ?_) hs ht
  split
  · exact hs
  · rename_i v _
    refine reply_ite_keeps (fun _ => hs) fun _ => ?_
    cases v with
    | online => exact reply_ite_keeps (fun _ => goOnline_calculators hs r) (fun _ => hs)
    | offline => exact goOffline_calculators r s hs

theorem setPeriod_calculators {p : Port} {unit length : Nat} (hs : s.CalculatorsSound)
    (ht : execSetPeriod p unit length s = .next t) : t.CalculatorsSound := by
  unfold execSetPeriod at ht
  refine calculatorsRequests.serve_run (fun s r hs _ => reply_ite_keeps (fun hrange => ?_) (fun _ => hs)) hs ht
  exact setCalc_sound hs { hs r with length := within_iff.mp hrange }

theorem setKFactor_calculators {p : Port} {unit x : Nat} (hs : s.CalculatorsSound)
    (ht : execSetKFactor p unit x s = .next t) : t.CalculatorsSound := by
  unfold execSetKFactor at ht
  refine calculatorsRequests.serve_run (fun s r hs _ => reply_ite_keeps (fun _ => hs) fun _ =>
    reply_ite_keeps (fun hrange => ?_) (fun _ => hs)) hs ht
  have hrange := within_iff.mp hrange
  have htaken := (takeAtEngine_calcs r s).sound hs
  refine reply_ite_keeps (fun _ => setCalc_sound htaken ?_) (fun _ => setCalc_sound htaken (applyK_sound (htaken r) hrange))
  exact { htaken r with pendingK := fun y hy => Option.some.inj hy ▸ hrange }

theorem expirePeriod_calculators (h : s.CalculatorsSound) (r : Run) : (expirePeriod r s).CalculatorsSound :=
  openPeriod_calculators (closePeriod_calculators ((takeAtEngine_calcs r s).sound h) r _ _) r

theorem advanced_sound {k : Calculator} (h : k.Sound) (hk : k.inLastMs = false) :
    Calculator.Sound { k with elapsed := k.elapsed + 1 } := by
  have hlast : ¬ k.openLength ≤ k.elapsed + 1 := of_decide_eq_false hk
  exact { h with elapsed := by dsimp only; omega }

theorem restartPeriod_calculators (h : s.CalculatorsSound) (r : Run) : (restartPeriod s r).CalculatorsSound := by
  unfold restartPeriod
  split
  · exact openPeriod_calculators (closePeriod_calculators h r _ _) r
  · exact h

theorem restartBlocks_calculators (h : s.CalculatorsSound) : (restartBlocks s).CalculatorsSound := by
  intro r
  have hcalc : (restartBlocks s).calcOf r = { s.calcOf r with lastPeriod := none, quiet := 0 } := by
    unfold restartBlocks resumeAtRestart
    split <;> exact PerRun.get_map ..
  rw [hcalc]
  exact { h r with quiet := Nat.zero_le _ }

theorem reset_calculatorsSound : State.reset.CalculatorsSound := fun r => by
  have hcalc : State.reset.calcOf r = .cold := PerRun.get_all ..
  rw [hcalc]
  exact cold_calculator_sound

theorem startPart_calculators (h : s.CalculatorsSound) (intact : Bool) : (startPart intact s).CalculatorsSound := by
  unfold startPart
  split
  · refine runs_foldl_keeps (P := State.CalculatorsSound) (fun s r hs => restartPeriod_calculators hs r) runs ?_
    have hsettled := (settleArrivals_calcs s).sound h
    have hblocks := restartBlocks_calculators (s := { settleArrivals s with
      retention := { (settleArrivals s).retention with supplied := true, lapse := false } })
      (calculatorsSound_of_calcs hsettled rfl)
    refine calculatorsSound_of_calcs hblocks ?_
    unfold abortAtRestart
    split <;> rfl
  · exact calculatorsSound_of_calcs reset_calculatorsSound rfl

theorem calculators_stepKept : StepKept [.calcs] State.CalculatorsSound where
  reads := calculatorsSound_reads
  queue := by decide
  elapse n _ hs := calculatorsSound_of_calcs hs rfl
  requests := calculatorsRequests
  exec c s t hreach hplain hs ht := by
    cases c with
    | setService => exact setService_calculators hs ht
    | setPeriod => exact setPeriod_calculators hs ht
    | setKFactor => exact setKFactor_calculators hs ht
    | periodExpiry r =>
      refine event_keeps (fun hs => ?_) hs (show execPeriodExpiry r s = .next t from ht)
      split
      · exact expirePeriod_calculators hs r
      · exact hs
    | periodTimerAdvance r =>
      refine event_keeps (fun hs => ?_) hs (show execPeriodTimerAdvance r s = .next t from ht)
      dsimp only
      split
      · rename_i hrun
        exact setCalc_sound hs (advanced_sound (hs r) (by simpa using hrun.2))
      · exact hs
    | partStart => exact partStart_keeps (fun hs => startPart_calculators hs _) hs ht
    | refusedRequestFrame => exact absurd rfl (hplain _ _)
    | _ => exact (exec_calcs rfl ht).sound hs

end CalculatorCommands

/-- Settles O54: each command that reaches the checkers keeps their ranges, and each that reaches the calculators theirs. -/
theorem runBlocksStayInRange : Obligations.RunBlocksStayInRange :=
  ⟨fun _ _ => checkers_stepKept.keeps_step, fun _ _ => calculators_stepKept.keeps_step⟩

end Sys2Proof.Machine

/-! The Table Store (chapter 3): curves and grade records as lists, and their edits. -/

namespace Sys2Proof.Machine

/-! ## Curves (R42, R47 to R50) -/

section Curves

variable {c : List CurvePoint} {x : CurvePoint} {flow mf : Nat} {on : Bool}

theorem hasFlow_iff : hasFlow c flow = true ↔ ∃ x ∈ c, x.flow = flow := by simp [hasFlow]

theorem hasFlow_eq_false_iff : hasFlow c flow = false ↔ ∀ x ∈ c, x.flow ≠ flow := by simp [hasFlow]

theorem hasEnabled_iff : hasEnabled c = true ↔ ∃ x ∈ c, x.enabled = true := by simp [hasEnabled]

theorem hasEnabled_eq_false_iff : hasEnabled c = false ↔ ∀ x ∈ c, x.enabled = false := by simp [hasEnabled]

theorem insertPoint_perm (x : CurvePoint) (c : List CurvePoint) : (insertPoint x c).Perm (x :: c) := by
  induction c with
  | nil => exact .refl _
  | cons p rest ih =>
    unfold insertPoint
    split
    · exact .refl _
    · exact (ih.cons p).trans (.swap ..)

theorem insertPoint_pairwise (hc : (c.map (·.flow)).Pairwise (· < ·)) (hx : ∀ y ∈ c, y.flow ≠ x.flow) :
    ((insertPoint x c).map (·.flow)).Pairwise (· < ·) := by
  induction c with
  | nil => simp [insertPoint]
  | cons p rest ih =>
    obtain ⟨hp, hrest⟩ := List.pairwise_cons.mp hc
    unfold insertPoint
    split
    · rename_i hlt
      refine List.pairwise_cons.mpr ⟨fun n hn => ?_, hc⟩
      obtain rfl | hn := List.mem_cons.mp hn
      · exact hlt
      · exact lt_trans hlt (hp n hn)
    · rename_i hnlt
      have hpx := hx p (by simp)
      refine List.pairwise_cons.mpr ⟨fun n hn => ?_, ih hrest fun y hy => hx y (by simp [hy])⟩
      have hn := ((insertPoint_perm x rest).map (·.flow)).mem_iff.mp hn
      obtain rfl | hn := List.mem_cons.mp hn
      · change p.flow < x.flow
        omega
      · exact hp n hn

theorem insertPoint_sound (hc : CurveSound c) (hx : ∀ y ∈ c, y.flow ≠ x.flow) (hlength : c.length < 8) :
    CurveSound (insertPoint x c) :=
  ⟨insertPoint_pairwise hc.1 hx, by rw [(insertPoint_perm x c).length_eq]; exact hlength⟩

/-- Replacing a point writes its flow, MF and enabled flag where the flow stands. -/
theorem replacePoint_eq (flow mf : Nat) (on : Bool) (c : List CurvePoint) :
    replacePoint flow mf on c = c.map (fun x => if x.flow = flow then ⟨flow, mf, on⟩ else x) := by
  refine List.map_congr_left fun x _ => ?_
  split
  · rename_i hx
    rw [← hx]
  · rfl

theorem replacePoint_flows (flow mf : Nat) (on : Bool) (c : List CurvePoint) :
    (replacePoint flow mf on c).map (·.flow) = c.map (·.flow) := by
  unfold replacePoint
  rw [List.map_map]
  refine List.map_congr_left fun x _ => ?_
  dsimp only [Function.comp]
  split <;> rfl

theorem replacePoint_sound (hc : CurveSound c) (flow mf : Nat) (on : Bool) : CurveSound (replacePoint flow mf on c) :=
  ⟨by rw [replacePoint_flows]; exact hc.1, by rw [replacePoint, List.length_map]; exact hc.2⟩

theorem mem_removePointOf : x ∈ removePointOf flow c ↔ x ∈ c ∧ ¬ x.flow = flow := by simp [removePointOf]

theorem removePointOf_sound (hc : CurveSound c) (flow : Nat) : CurveSound (removePointOf flow c) :=
  ⟨hc.1.sublist (List.filter_sublist.map _), le_trans (List.length_filter_le ..) hc.2⟩

theorem onlyEnabled_all (h : onlyEnabled c flow = true) : ∀ x ∈ c, x.enabled = true → x.flow = flow := by
  intro x hx hon
  unfold onlyEnabled at h
  split at h
  · rename_i p hp
    obtain rfl : x = p := by
      have hmem : x ∈ c.filter (·.enabled) := List.mem_filter.mpr ⟨hx, hon⟩
      simpa [hp] using hmem
    exact of_decide_eq_true h
  · exact nomatch h

/-- A curve whose only enabled point stands at the flow. -/
theorem onlyEnabled_of_all (hc : CurveSound c) (hsome : ∃ x ∈ c, x.enabled = true)
    (hall : ∀ x ∈ c, x.enabled = true → x.flow = flow) :
    onlyEnabled c flow = true := by
  have hflow (y : CurvePoint) (hy : y ∈ c.filter (·.enabled)) : y.flow = flow :=
    hall y (List.mem_of_mem_filter hy) (List.mem_filter.mp hy).2
  have hsorted : ((c.filter (·.enabled)).map (·.flow)).Pairwise (· < ·) := hc.1.sublist (List.filter_sublist.map _)
  unfold onlyEnabled
  match hfilter : c.filter (·.enabled) with
  | [] =>
    obtain ⟨x, hx, hon⟩ := hsome
    exact absurd (List.filter_eq_nil_iff.mp hfilter x hx) (by simp [hon])
  | [p] =>
    rw [hfilter]
    exact decide_eq_true (hflow p (by simp [hfilter]))
  | a :: b :: rest =>
    rw [hfilter] at hsorted
    have hlt : a.flow < b.flow := (List.pairwise_cons.mp hsorted).1 _ (by simp)
    have ha := hflow a (by simp [hfilter])
    have hb := hflow b (by simp [hfilter])
    omega

/-- A point other than the only enabled one is left by an edit that disables or removes the point of a flow. -/
theorem exists_enabled_elsewhere (hc : CurveSound c) (hsome : ∃ x ∈ c, x.enabled = true) (hnot : ¬ onlyEnabled c flow = true) :
    ∃ x ∈ c, x.enabled = true ∧ x.flow ≠ flow := by
  by_contra hnone
  push Not at hnone
  exact hnot (onlyEnabled_of_all hc hsome hnone)

theorem removePointOf_enabled (hc : CurveSound c) (hsome : ∃ x ∈ c, x.enabled = true) (hnot : ¬ onlyEnabled c flow = true) :
    ∃ x ∈ removePointOf flow c, x.enabled = true := by
  obtain ⟨x, hx, hon, hflow⟩ := exists_enabled_elsewhere hc hsome hnot
  exact ⟨x, mem_removePointOf.mpr ⟨hx, hflow⟩, hon⟩

theorem replacePoint_enabled_of_on (hflow : ∃ x ∈ c, x.flow = flow) (mf : Nat) :
    ∃ x ∈ replacePoint flow mf true c, x.enabled = true := by
  obtain ⟨x, hx, rfl⟩ := hflow
  exact ⟨⟨x.flow, mf, true⟩, List.mem_map.mpr ⟨x, hx, if_pos rfl⟩, rfl⟩

theorem replacePoint_enabled (hc : CurveSound c) (hsome : ∃ x ∈ c, x.enabled = true) (hnot : ¬ onlyEnabled c flow = true)
    (mf : Nat) (on : Bool) : ∃ x ∈ replacePoint flow mf on c, x.enabled = true := by
  obtain ⟨x, hx, hon, hflow⟩ := exists_enabled_elsewhere hc hsome hnot
  exact ⟨x, List.mem_map.mpr ⟨x, hx, if_neg hflow⟩, hon⟩

theorem insertPoint_enabled (hsome : ∃ x ∈ c, x.enabled = true) (x : CurvePoint) :
    ∃ y ∈ insertPoint x c, y.enabled = true := by
  obtain ⟨y, hy, hon⟩ := hsome
  exact ⟨y, (insertPoint_perm x c).mem_iff.mpr (by simp [hy]), hon⟩

end Curves

/-! ## The point nearest to Q (R150) -/

section Nearest

variable {c : List CurvePoint} {q : Nat} {a b d x y : CurvePoint}

/-- `a` stands nearer to Q than `b`, or as near at no higher flow. -/
def Prefers (q : Nat) (a b : CurvePoint) : Prop :=
  flowDistance a.flow q < flowDistance b.flow q ∨ (flowDistance a.flow q = flowDistance b.flow q ∧ a.flow ≤ b.flow)

theorem Prefers.refl (q : Nat) (a : CurvePoint) : Prefers q a a := .inr ⟨rfl, le_refl _⟩

theorem Prefers.trans (h : Prefers q a b) (k : Prefers q b d) : Prefers q a d := by
  unfold Prefers at *
  omega

theorem nearer_prefers (q : Nat) (a b : CurvePoint) : Prefers q (nearer q a b) a ∧ Prefers q (nearer q a b) b := by
  unfold nearer Prefers
  split <;> constructor <;> omega

theorem nearer_mem (q : Nat) (a b : CurvePoint) : nearer q a b = a ∨ nearer q a b = b := by
  unfold nearer
  split <;> simp

theorem foldl_nearer (q : Nat) (a : CurvePoint) (l : List CurvePoint) :
    l.foldl (nearer q) a ∈ a :: l ∧ ∀ x ∈ a :: l, Prefers q (l.foldl (nearer q) a) x := by
  induction l generalizing a with
  | nil => simp [Prefers.refl]
  | cons b l ih =>
    obtain ⟨hmem, hprefers⟩ := ih (nearer q a b)
    obtain ⟨ha, hb⟩ := nearer_prefers q a b
    have hhead := hprefers (nearer q a b) (by simp)
    refine ⟨?_, fun x hx => ?_⟩
    · rw [List.foldl_cons]
      obtain h | h := List.mem_cons.mp hmem
      · rw [h]
        obtain h | h := nearer_mem q a b <;> simp [h]
      · simp [h]
    · obtain rfl | rfl | hx : x = a ∨ x = b ∨ x ∈ l := by simpa using hx
      · exact hhead.trans ha
      · exact hhead.trans hb
      · exact hprefers x (by simp [hx])

theorem nearestInBand_some {band : Nat} (h : nearestInBand band q c = some x) :
    x ∈ c ∧ inBand band q x = true ∧ ∀ y ∈ c, inBand band q y = true → Prefers q x y := by
  unfold nearestInBand at h
  split at h
  · exact nomatch h
  · rename_i a rest hfilter
    obtain rfl := Option.some.inj h
    obtain ⟨hmem, hprefers⟩ := foldl_nearer q a rest
    rw [← hfilter] at hmem hprefers
    obtain ⟨hc, hband⟩ := List.mem_filter.mp hmem
    exact ⟨hc, hband, fun y hy hyband => hprefers y (List.mem_filter.mpr ⟨hy, hyband⟩)⟩

theorem nearestInBand_eq_none_iff {band : Nat} : nearestInBand band q c = none ↔ ∀ x ∈ c, ¬ inBand band q x = true := by
  rw [← List.filter_eq_nil_iff]
  unfold nearestInBand
  split <;> simp_all

theorem eq_of_flow_eq (hc : CurveSound c) (hx : x ∈ c) (hy : y ∈ c) (h : x.flow = y.flow) : x = y := by
  have hnodup : (c.map (·.flow)).Nodup := List.Pairwise.imp (fun hlt => Nat.ne_of_lt hlt) hc.1
  exact List.inj_on_of_nodup_map hnodup hx hy h

/-- The nearest point in band is the one that R150 names. -/
theorem nearestInBand_eq {band : Nat} (hc : CurveSound c) (hx : x ∈ c) (hband : inBand band q x = true)
    (hnearest : ∀ y ∈ c, inBand band q y = true → Prefers q x y) : nearestInBand band q c = some x := by
  cases h : nearestInBand band q c with
  | none => exact absurd hband (nearestInBand_eq_none_iff.mp h x hx)
  | some y =>
    obtain ⟨hy, hyband, hyprefers⟩ := nearestInBand_some h
    have hxy := hnearest y hy hyband
    have hyx := hyprefers x hx hband
    refine congrArg some (eq_of_flow_eq hc hy hx ?_)
    unfold Prefers at hxy hyx
    omega

end Nearest

/-! ## Grade records (R52, R53) -/

section Grades

theorem ascending_iff (points : List RawPoint) : ascending points = true ↔ (points.map (·.temp)).Pairwise (· < ·) := by
  rw [← List.isChain_iff_pairwise]
  induction points with
  | nil => simp [ascending]
  | cons a rest ih =>
    cases rest with
    | nil => simp [ascending]
    | cons b rest => simp [ascending, ih]

theorem ctlPointOk_iff {x : RawPoint} : ctlPointOk x = true ↔
    -2000 ≤ x.temp ∧ x.temp ≤ 12000 ∧ 900000 ≤ x.ctl ∧ x.ctl ≤ 1100000 := by
  simp [ctlPointOk, withinInt, within, and_assoc]

theorem gradeRecordOk_iff {f bsw : Nat} {points : List RawPoint} : gradeRecordOk f bsw points = true ↔
    f ≤ 2000 ∧ bsw ≤ 100000 ∧ 1 ≤ points.length ∧ points.length ≤ 12
      ∧ ∀ x ∈ points, -2000 ≤ x.temp ∧ x.temp ≤ 12000 ∧ 900000 ≤ x.ctl ∧ x.ctl ≤ 1100000 := by
  simp only [gradeRecordOk, Bool.and_eq_true, within_iff, List.all_eq_true, ctlPointOk_iff]
  constructor
  · rintro ⟨⟨⟨⟨-, hf⟩, -, hb⟩, h1, h2⟩, hpoints⟩
    exact ⟨hf, hb, h1, h2, hpoints⟩
  · rintro ⟨hf, hb, h1, h2, hpoints⟩
    exact ⟨⟨⟨⟨Nat.zero_le _, hf⟩, Nat.zero_le _, hb⟩, h1, h2⟩, hpoints⟩

/-- The record that LOAD GRADE writes. -/
def loadedGrade (f bsw : Nat) (points : List RawPoint) : Grade :=
  { f := f, bsw := bsw, table := points.map (fun x => ⟨x.temp, x.ctl⟩) }

/-- Such a record is sound exactly when it passes the checks of range and of order. -/
theorem loadedGrade_sound_iff {f bsw : Nat} {points : List RawPoint} :
    (loadedGrade f bsw points).Sound ↔ gradeRecordOk f bsw points = true ∧ ascending points = true := by
  rw [gradeRecordOk_iff, ascending_iff]
  simp only [Grade.Sound, loadedGrade, List.length_map, List.map_map, List.forall_mem_map]
  tauto

theorem cold_grade_sound : Grade.cold.Sound := by simp [Grade.Sound, Grade.cold]

theorem mem_gradeInUse {s : State} {g : GradeId} : s.gradeInUse g = true ↔
    s.ring.standingGrade = g ∨ ∃ i x, (s.slot i).form = some x ∧ formGrade x = some g
      ∧ ((s.slot i).state = .current ∨ (s.slot i).state = .closing ∨ (s.slot i).state = .armed) := by
  have huses (i : SlotId) : slotUses (s.slot i) g = true ↔ ∃ x, (s.slot i).form = some x ∧ formGrade x = some g
      ∧ ((s.slot i).state = .current ∨ (s.slot i).state = .closing ∨ (s.slot i).state = .armed) := by
    unfold slotUses
    cases (s.slot i).state <;> simp [Option.bind_eq_some_iff]
  simp only [State.gradeInUse, Bool.or_eq_true, decide_eq_true_eq, List.any_eq_true, huses]
  refine or_congr_right ⟨fun ⟨i, _, h⟩ => ⟨i, h⟩, fun ⟨i, h⟩ => ⟨i, mem_slotIds i, h⟩⟩

end Grades

end Sys2Proof.Machine

/-! The Table Store's statements: the invariant of the tables, the edits of curves and grades, and the answers. -/

namespace Sys2Proof.Machine

/-! ## Requests carried out -/

section Taken

variable {p : Port} {kind : Nat} {s t : State} {st : Status} {b : Body}

/-- A request on a run from its holder is answered as the block replies. -/
theorem run_request {act : State → Run → Reply} {r : Run} (hsup : s.retention.supplied = true) (hheld : s.holds p (.run r) = true)
    (hact : act (renewed p [.run r] s) r = ⟨t, st, b⟩) :
    serve p kind (namedUnits (runNumber r)) (fun s => withRun (runNumber r) s fun r => asHolder p (.run r) s (act s r)) s
      = .next (answered p st kind b t) := by
  rw [serve_run_holder hsup (runOf_runNumber r) hheld, namedUnits_runNumber, hact]

/-- A request that names no unit is answered as the block replies. -/
theorem plain_request {act : State → Reply} (hsup : s.retention.supplied = true) (hact : act s = ⟨t, st, b⟩) :
    serve p kind [] act s = .next (answered p st kind b t) := by
  rw [serve_supplied hsup, renewed_nil, hact]

end Taken

/-! ## The tables at every step -/

section Tables

variable {s t : State}

theorem tablesSound_congr (h : s.TablesSound) (hcurves : t.curves = s.curves) (hgrades : t.grades = s.grades)
    (hservice : SameService s t) : t.TablesSound where
  curves r := by simpa [State.curve, hcurves] using h.curves r
  grades g := by simpa [State.grade, hgrades] using h.grades g
  online r hr := by simpa [State.curve, hcurves] using h.online r ((hservice.same r).symm.trans hr)

theorem tablesSound_reads : Reads [.curves, .grades, .calcs] State.TablesSound := fun _ _ h hs =>
  tablesSound_congr hs (h .curves (by simp)) (h .grades (by simp)) (.of_calcs (h .calcs (by simp)))

theorem tablesRequests : RequestKept State.TablesSound := tablesSound_reads.requestKept (by decide) (by decide)

/-- A curve takes an edit that keeps its order, and an enabled point of an ONLINE run. -/
theorem setCurve_tables (h : s.TablesSound) {r : Run} {c : List CurvePoint} (hc : CurveSound c)
    (hon : (s.calcOf r).runState = .online → ∃ x ∈ c, x.enabled = true) : (s.setCurve r c).TablesSound where
  curves q := by
    by_cases hq : q = r
    · subst hq
      rwa [setCurve_self]
    · rw [setCurve_ne s hq]
      exact h.curves q
  grades := h.grades
  online q hq := by
    by_cases hqr : q = r
    · subst hqr
      rw [setCurve_self]
      exact hon hq
    · rw [setCurve_ne s hqr]
      exact h.online q hq

theorem setGrade_tables (h : s.TablesSound) {g : GradeId} {x : Grade} (hx : x.Sound) : (s.setGrade g x).TablesSound where
  curves := h.curves
  grades i := by
    by_cases hi : i = g
    · subst hi
      rwa [setGrade_self]
    · rw [setGrade_ne s hi]
      exact h.grades i
  online := h.online

theorem addPoint_tables {p : Port} {unit flow mf e : Nat} (hs : s.TablesSound) (ht : execAddPoint p unit flow mf e s = .next t) :
    t.TablesSound := by
  unfold execAddPoint at ht
  refine tablesRequests.serve_run (fun s r hs _ => reply_ite_keeps (fun _ => hs) fun _ => ?_) hs ht
  split
  · exact hs
  · refine reply_ite_keeps (fun _ => hs) fun _ => reply_ite_keeps (fun _ => hs) fun hflow => reply_ite_keeps (fun _ => hs) fun hfull => ?_
    have hnew := hasFlow_eq_false_iff.mp (Bool.eq_false_iff.mpr hflow)
    exact setCurve_tables hs (insertPoint_sound (hs.curves r) hnew (not_le.mp hfull)) fun hon => insertPoint_enabled (hs.online r hon) _

theorem changePoint_tables {p : Port} {unit flow mf e : Nat} (hs : s.TablesSound)
    (ht : execChangePoint p unit flow mf e s = .next t) : t.TablesSound := by
  unfold execChangePoint at ht
  refine tablesRequests.serve_run (fun s r hs _ => reply_ite_keeps (fun _ => hs) fun _ => ?_) hs ht
  split
  · exact hs
  · rename_i on _
    refine reply_ite_keeps (fun _ => hs) fun _ => reply_ite_keeps (fun _ => hs) fun hflow => reply_ite_keeps (fun _ => hs) fun hlast => ?_
    refine setCurve_tables hs (replacePoint_sound (hs.curves r) ..) fun hon => ?_
    cases on with
    | true => exact replacePoint_enabled_of_on (hasFlow_iff.mp (by simpa using hflow)) mf
    | false => exact replacePoint_enabled (hs.curves r) (hs.online r hon) (fun h => hlast ⟨hon, h, rfl⟩) mf false

theorem removePoint_tables {p : Port} {unit flow : Nat} (hs : s.TablesSound) (ht : execRemovePoint p unit flow s = .next t) :
    t.TablesSound := by
  unfold execRemovePoint at ht
  refine tablesRequests.serve_run (fun s r hs _ => reply_ite_keeps (fun _ => hs) fun _ => reply_ite_keeps (fun _ => hs) fun _ =>
    reply_ite_keeps (fun _ => hs) fun hlast => ?_) hs ht
  exact setCurve_tables hs (removePointOf_sound (hs.curves r) flow) fun hon =>
    removePointOf_enabled (hs.curves r) (hs.online r hon) fun h => hlast ⟨hon, h⟩

theorem loadGrade_tables {p : Port} {unit g f bsw : Nat} {points : List RawPoint} (hs : s.TablesSound)
    (ht : execLoadGrade p unit g f bsw points s = .next t) : t.TablesSound := by
  unfold execLoadGrade at ht
  refine tablesRequests.serve (fun s hs => unitZero_keeps hs ?_) hs ht
  split
  · exact hs
  · refine reply_ite_keeps (fun _ => hs) fun hrange => reply_ite_keeps (fun _ => hs) fun horder => reply_ite_keeps (fun _ => hs) fun _ => ?_
    exact setGrade_tables hs (loadedGrade_sound_iff.mpr ⟨by simpa using hrange, by simpa using horder⟩)

/-- The curve with a result installed is in order (R150). -/
theorem installed_sound {c : List CurvePoint} (hc : CurveSound c) {band q : Nat} (mf : Nat)
    (hfull : ¬ ((chooseInstall band q c).1 = .inserted ∧ Config.curveSize ≤ c.length)) :
    CurveSound (installed (chooseInstall band q c).1 (chooseInstall band q c).2 mf c) := by
  unfold chooseInstall at hfull ⊢
  split
  · exact replacePoint_sound hc ..
  · rename_i hband
    simp only [hband] at hfull
    split
    · exact replacePoint_sound hc ..
    · rename_i hflow
      rw [if_neg hflow] at hfull
      refine insertPoint_sound hc (fun y hy => ?_) (by simpa [Config.curveSize] using hfull)
      exact hasFlow_eq_false_iff.mp (Bool.eq_false_iff.mpr hflow) y hy

/-- An accepted result leaves an enabled point on the curve. -/
theorem installed_enabled (band q mf : Nat) (c : List CurvePoint) :
    ∃ x ∈ installed (chooseInstall band q c).1 (chooseInstall band q c).2 mf c, x.enabled = true := by
  unfold chooseInstall
  split
  · rename_i x hx
    exact replacePoint_enabled_of_on ⟨x, (nearestInBand_some hx).1, rfl⟩ mf
  · split
    · rename_i hflow
      exact replacePoint_enabled_of_on (hasFlow_iff.mp hflow) mf
    · exact ⟨⟨q, mf, true⟩, (insertPoint_perm _ c).mem_iff.mpr (by simp), rfl⟩

theorem acceptProve_tables {p : Port} {unit : Nat} {force : Bool} (hs : s.TablesSound)
    (ht : execAcceptProve p unit force s = .next t) : t.TablesSound := by
  unfold execAcceptProve at ht
  refine tablesRequests.serve_run (fun s r hs _ => ?_) hs ht
  split
  · exact hs
  · rename_i mf q _
    refine reply_ite_keeps (fun _ => hs) fun _ => reply_ite_keeps (fun _ => hs) fun _ => reply_ite_keeps (fun _ => hs) fun hfull => ?_
    have hset := setCurve_tables (r := r) hs (installed_sound (hs.curves r) mf hfull) fun _ => installed_enabled ..
    exact tablesSound_congr hset rfl rfl (.of_calcs rfl)

/-- Changes of service and of other items. -/
theorem tablesSound_of_frame {xs : List Item} (h : s.TablesSound) (hframe : Frame xs s t)
    (hdisjoint : ∀ x ∈ [Item.curves, .grades], x ∉ xs)
    (hon : ∀ r, (t.calcOf r).runState = .online → (s.calcOf r).runState = .online ∨ hasEnabled (s.curve r) = true) : t.TablesSound := by
  have hcurves : t.curves = s.curves := hframe.same .curves (hdisjoint _ (by simp))
  have hgrades : t.grades = s.grades := hframe.same .grades (hdisjoint _ (by simp))
  refine ⟨fun r => ?_, fun g => ?_, fun r hr => ?_⟩
  · simpa [State.curve, hcurves] using h.curves r
  · simpa [State.grade, hgrades] using h.grades g
  · have hsame : t.curve r = s.curve r := by simp [State.curve, hcurves]
    rw [hsame]
    exact (hon r hr).elim (h.online r) hasEnabled_iff.mp

theorem setService_tables {p : Port} {unit service : Nat} (hs : s.TablesSound)
    (ht : execSetService p unit service s = .next t) : t.TablesSound := by
  unfold execSetService at ht
  refine tablesRequests.serve_run (fun s r hs _ => ?_) hs ht
  split
  · exact hs
  · rename_i v _
    refine reply_ite_keeps (fun _ => hs) fun _ => ?_
    cases v with
    | online =>
      refine reply_ite_keeps (fun hcurve => tablesSound_of_frame hs (goOnline_frame r s) (by decide) fun q hq => ?_) (fun _ => hs)
      have hq : ((goOnline r s).calcOf q).runState = .online := hq
      by_cases hqr : q = r
      · subst hqr
        exact .inr hcurve
      · rw [goOnline_runState, if_neg hqr] at hq
        exact .inl hq
    | offline =>
      refine tablesSound_of_frame hs (goOffline_frame r s) (by decide) fun q hq => .inl ?_
      have hq : ((goOffline r s).calcOf q).runState = .online := hq
      rw [goOffline_runState] at hq
      split at hq
      · exact nomatch hq
      · exact hq

theorem reset_tablesSound : State.reset.TablesSound := by
  have hcurve (r : Run) : State.reset.curve r = [] := PerRun.get_all ..
  have hgrade (g : GradeId) : State.reset.grade g = .cold := Eight.get_all ..
  have hcalc (r : Run) : State.reset.calcOf r = .cold := PerRun.get_all ..
  refine ⟨fun r => ?_, fun g => ?_, fun r hr => ?_⟩
  · simp [hcurve, CurveSound]
  · rw [hgrade]
    exact cold_grade_sound
  · rw [hcalc] at hr
    exact nomatch hr

theorem restartBlocks_frame (s : State) :
    Frame [.checkers, .calcs, .live, .ring, .clockWait, .prove, .claims, .links] s (restartBlocks s) := by
  unfold restartBlocks resumeAtRestart
  split <;> exact ⟨fun x hx => by cases x <;> first | rfl | simp at hx⟩

theorem abortAtRestart_frame (s : State) : Frame [.prove, .links] s (abortAtRestart s) := by
  unfold abortAtRestart
  split
  · exact ⟨fun x hx => by cases x <;> first | rfl | simp at hx⟩
  · exact .refl ..

theorem restartPeriod_frame (r : Run) (s : State) :
    Frame [.live, .links, .calcs, .checkers, .toBank, .toEngine] s (restartPeriod s r) := by
  unfold restartPeriod
  exact .ite (fun _ => (closePeriod_frame ..).andThen (setCalc_frame ..) (by decide)) (fun _ => .refl ..)

theorem restart_frame (s : State) :
    Frame [.checkers, .calcs, .live, .ring, .clockWait, .prove, .claims, .links, .toBank, .toEngine] s (restart s) :=
  runs_foldl_keeps (P := Frame _ s) (fun t r h => h.andThen (restartPeriod_frame r t) (by decide)) runs
    (((restartBlocks_frame s).mono (by decide)).andThen (abortAtRestart_frame _) (by decide))

theorem startPart_tables (h : s.TablesSound) (intact : Bool) : (startPart intact s).TablesSound := by
  unfold startPart
  split
  · have hframe := settleArrivals_frame s
    have hsettled := tablesSound_congr h (hframe.same .curves (by decide)) (hframe.same .grades (by decide))
      (settleArrivals_calcs s).service
    have hrestart := restart_frame { settleArrivals s with
      retention := { (settleArrivals s).retention with supplied := true, lapse := false } }
    refine tablesSound_congr hsettled (hrestart.same .curves (by decide)) (hrestart.same .grades (by decide)) (.trans (t :=
        { settleArrivals s with
      retention := { (settleArrivals s).retention with supplied := true, lapse := false } }) (.of_calcs rfl) (restart_service _))
  · exact tablesSound_congr reset_tablesSound rfl rfl (.of_calcs rfl)

/-- A command that reaches neither curves nor grades nor service. -/
theorem tables_of_acts {c : Instr} (hs : s.TablesSound) (ht : exec c s = .next t) (hc : changesService c = false)
    (hacts : ∀ x ∈ [Item.curves, .grades], x ∉ acts c) : t.TablesSound := by
  obtain ⟨u, hu, hwalk⟩ := exec_answers c s (by rintro p frame rfl; exact nomatch hc)
  obtain rfl : u = t := Host.Outcome.next.inj (hu.symm.trans ht)
  have hframe := hwalk.frame
  refine tablesSound_congr hs (hframe.same .curves ?_) (hframe.same .grades ?_) (exec_service hc ht)
  · simpa using hacts .curves (by simp)
  · simpa using hacts .grades (by simp)

theorem tables_stepKept : StepKept [.curves, .grades, .calcs] State.TablesSound where
  reads := tablesSound_reads
  queue := by decide
  elapse n _ hs := tablesSound_congr hs rfl rfl (.of_calcs rfl)
  requests := tablesRequests
  exec c s t hreach hplain hs ht := by
    cases c with
    | setService => exact setService_tables hs ht
    | addPoint => exact addPoint_tables hs ht
    | changePoint => exact changePoint_tables hs ht
    | removePoint => exact removePoint_tables hs ht
    | loadGrade => exact loadGrade_tables hs ht
    | acceptProve => exact acceptProve_tables hs ht
    | partStart => exact partStart_keeps (fun hs => startPart_tables hs _) hs ht
    | refusedRequestFrame => exact absurd rfl (hplain _ _)
    | _ => exact tables_of_acts hs ht rfl (by simp [acts])

end Tables

/-- Settles O55: each edit keeps the order of its table and an enabled point of an ONLINE run, and a run goes
ONLINE only with one. -/
theorem tablesStaySound : Obligations.TablesStaySound := fun _ _ => tables_stepKept.keeps_step

/-! ## Edits carried out and refused -/

section Edits

theorem yesNoOf_ite (on : Bool) : yesNoOf (if on then 1 else 0) = some on := by cases on <;> rfl

theorem yesNoOf_eq_none {e : Nat} (h : 1 < e) : yesNoOf e = none := by
  match e, h with
  | _ + 2, _ => rfl

theorem yesNoOf_some {e : Nat} (h : e ≤ 1) : ∃ on, yesNoOf e = some on := by
  match e, h with
  | 0, _ => exact ⟨_, rfl⟩
  | 1, _ => exact ⟨_, rfl⟩

theorem mfOk_iff {mf : Nat} : mfOk mf = true ↔ 800000 ≤ mf ∧ mf ≤ 1200000 := within_iff

theorem flowOk_iff {flow : Nat} : flowOk flow = true ↔ 1 ≤ flow ∧ flow ≤ 999999 := within_iff

/-- Settles O24: each edit passes its checks, and the edit of the list keeps the order. -/
theorem curveEdits : Obligations.CurveEdits := by
  intro p r flow mf on s hsup hheld hproving hc hlow hhigh
  have hmf : mfOk mf = true := mfOk_iff.mpr ⟨hlow, hhigh⟩
  refine ⟨fun h1 h2 hnew hlength => ?_, fun hhere hlast => ?_, fun hhere hlast => ?_⟩
  · have hflow : flowOk flow = true := flowOk_iff.mpr ⟨h1, h2⟩
    have habsent := hasFlow_eq_false_iff.mpr hnew
    refine ⟨insertPoint ⟨flow, mf, on⟩ (s.curve r), ?_, insertPoint_perm .., insertPoint_sound hc hnew hlength⟩
    show execAddPoint .. = _
    unfold execAddPoint
    refine run_request hsup hheld ?_
    simp [hproving, yesNoOf_ite, hflow, hmf, habsent, Config.curveSize, not_le.mpr hlength, okReply]
  · have hfound := hasFlow_iff.mpr hhere
    have hcheck : ¬ ((s.calcOf r).runState = .online ∧ onlyEnabled (s.curve r) flow = true ∧ on = false) := by
      rintro ⟨hon, honly, rfl⟩
      exact hlast.resolve_left nofun ⟨hon, onlyEnabled_all honly⟩
    refine ⟨replacePoint flow mf on (s.curve r), ?_, replacePoint_eq .., replacePoint_sound hc ..⟩
    show execChangePoint .. = _
    unfold execChangePoint
    refine run_request hsup hheld ?_
    simp [hproving, yesNoOf_ite, hmf, hfound, hcheck, okReply]
  · have hfound := hasFlow_iff.mpr hhere
    have hcheck : ¬ ((s.calcOf r).runState = .online ∧ onlyEnabled (s.curve r) flow = true) := fun ⟨hon, honly⟩ =>
      hlast ⟨hon, onlyEnabled_all honly⟩
    refine ⟨removePointOf flow (s.curve r), ?_, fun x => mem_removePointOf, removePointOf_sound hc flow⟩
    show execRemovePoint .. = _
    unfold execRemovePoint
    refine run_request hsup hheld ?_
    simp [hproving, hfound, hcheck, okReply]

/-- Settles O25: each edit's checks in their order. -/
theorem curveEditRefusals : Obligations.CurveEditRefusals := by
  intro p r flow mf e s hsup hheld
  refine ⟨fun hproving => ⟨?_, ?_, ?_⟩, fun hproving => ⟨fun hbad => ?_, fun hgood h1 h2 hhere => ?_, fun hgood h1 h2 hnew hfull => ?_,
    fun hbad => ?_, fun hgood hnew => ?_, fun hnew => ?_, fun hc hon hsome hall => ⟨?_, fun hlow hhigh => ?_⟩⟩⟩
  · show execAddPoint .. = _
    unfold execAddPoint
    refine run_request hsup hheld ?_
    simp [hproving, refuse]
  · show execChangePoint .. = _
    unfold execChangePoint
    refine run_request hsup hheld ?_
    simp [hproving, refuse]
  · show execRemovePoint .. = _
    unfold execRemovePoint
    refine run_request hsup hheld ?_
    simp [hproving, refuse]
  · show execAddPoint .. = _
    unfold execAddPoint
    refine run_request hsup hheld ?_
    by_cases he : 1 < e
    · simp [hproving, yesNoOf_eq_none he, refuse]
    · obtain ⟨on, hyes⟩ := yesNoOf_some (not_lt.mp he)
      have hvalue : (flowOk flow && mfOk mf) = false := Bool.eq_false_iff.mpr fun h => by
        rw [Bool.and_eq_true, flowOk_iff, mfOk_iff] at h
        omega
      simp [hproving, hyes, hvalue, refuse]
  · show execAddPoint .. = _
    unfold execAddPoint
    refine run_request hsup hheld ?_
    obtain ⟨on, hyes⟩ := yesNoOf_some (e := e) (by omega)
    have hmf : mfOk mf = true := mfOk_iff.mpr (by omega)
    have hflow : flowOk flow = true := flowOk_iff.mpr ⟨h1, h2⟩
    have hfound : hasFlow (s.curve r) flow = true := hasFlow_iff.mpr (by simpa using hhere)
    simp [hproving, hyes, hmf, hflow, hfound, refuse]
  · show execAddPoint .. = _
    unfold execAddPoint
    refine run_request hsup hheld ?_
    obtain ⟨on, hyes⟩ := yesNoOf_some (e := e) (by omega)
    have hmf : mfOk mf = true := mfOk_iff.mpr (by omega)
    have hflow : flowOk flow = true := flowOk_iff.mpr ⟨h1, h2⟩
    simp [hproving, hyes, hmf, hflow, hasFlow_eq_false_iff.mpr hnew, Config.curveSize, hfull, refuse]
  · show execChangePoint .. = _
    unfold execChangePoint
    refine run_request hsup hheld ?_
    by_cases he : 1 < e
    · simp [hproving, yesNoOf_eq_none he, refuse]
    · obtain ⟨on, hyes⟩ := yesNoOf_some (not_lt.mp he)
      have hmf : mfOk mf = false := Bool.eq_false_iff.mpr fun h => by
        have hmf := mfOk_iff.mp h
        omega
      simp [hproving, hyes, hmf, refuse]
  · show execChangePoint .. = _
    unfold execChangePoint
    refine run_request hsup hheld ?_
    obtain ⟨on, hyes⟩ := yesNoOf_some (e := e) (by omega)
    have hmf : mfOk mf = true := mfOk_iff.mpr (by omega)
    simp [hproving, hyes, hmf, hasFlow_eq_false_iff.mpr hnew, refuse]
  · show execRemovePoint .. = _
    unfold execRemovePoint
    refine run_request hsup hheld ?_
    simp [hproving, hasFlow_eq_false_iff.mpr hnew, refuse]
  · obtain ⟨x, hx, hflow, hen⟩ := hsome
    have honly := onlyEnabled_of_all hc ⟨x, hx, hen⟩ hall
    show execRemovePoint .. = _
    unfold execRemovePoint
    refine run_request hsup hheld ?_
    simp [hproving, hasFlow_iff.mpr ⟨x, hx, hflow⟩, hon, honly, refuse]
  · obtain ⟨x, hx, hflow, hen⟩ := hsome
    have honly := onlyEnabled_of_all hc ⟨x, hx, hen⟩ hall
    show execChangePoint p (runNumber r) flow mf 0 s = _
    unfold execChangePoint
    refine run_request hsup hheld ?_
    simp [hproving, yesNoOf, mfOk_iff.mpr ⟨hlow, hhigh⟩, hasFlow_iff.mpr ⟨x, hx, hflow⟩, hon, honly, refuse]

theorem gradeOf_eq_none {n : Nat} (h : n = 0 ∨ 8 < n) : gradeOf n = none := by
  unfold gradeOf
  rw [dif_neg (by omega)]

/-- Settles O26: the record's checks of range and order are its soundness, and then the grade must not be in use. -/
theorem gradeIsLoadedWhole : Obligations.GradeIsLoadedWhole := by
  intro p g f bsw points s hsup
  have hsound := loadedGrade_sound_iff (f := f) (bsw := bsw) (points := points)
  have huse := mem_gradeInUse (s := s) (g := g)
  refine ⟨fun hrec hfree => ?_, fun hrec hused => ?_, fun hrange => ?_, fun hrange horder => ?_, fun unit n hfield => ?_⟩ <;>
    show execLoadGrade .. = _ <;> unfold execLoadGrade <;> refine plain_request hsup ?_
  · obtain ⟨hrange, horder⟩ := hsound.mp hrec
    simp [unitZero, hrange, horder, Bool.eq_false_iff.mpr (mt huse.mp hfree), okReply]
  · obtain ⟨hrange, horder⟩ := hsound.mp hrec
    simp [unitZero, hrange, horder, huse.mpr hused, refuse]
  · simp [unitZero, Bool.eq_false_iff.mpr (mt gradeRecordOk_iff.mp hrange), refuse]
  · have hrange := gradeRecordOk_iff.mpr hrange
    have hnot : ascending points = false := Bool.eq_false_iff.mpr fun h => horder (hsound.mpr ⟨hrange, h⟩)
    simp [unitZero, hrange, hnot, refuse]
  · by_cases hunit : unit = 0
    · simp [unitZero, hunit, gradeOf_eq_none (hfield.resolve_left (not_not_intro hunit)), refuse]
    · simp [unitZero, hunit, refuse]

end Edits

end Sys2Proof.Machine

/-! The answers of the Table Store: the straight segments through the points of a curve or of a grade (R43, R44),
and CPL (R45). -/

namespace Sys2Proof.Machine

/-! ## The straight segments -/

section Interpolate

variable {l : List (Int × Int)} {a b v w x : Int}

/-- The points stand in ascending order. -/
def Rising (l : List (Int × Int)) : Prop := l.Pairwise (fun p q => p.1 < q.1)

theorem interpolate_below {rest : List (Int × Int)} (h : x < a) : interpolate ((a, v) :: rest) x = some (v, true) := by
  cases rest with
  | nil => simp [interpolate, h.ne]
  | cons y rest => simp [interpolate, h]

theorem interpolate_here {rest : List (Int × Int)} : interpolate ((a, v) :: rest) a = some (v, false) := by
  cases rest with
  | nil => simp [interpolate]
  | cons y rest => simp [interpolate]

theorem interpolate_past {rest : List (Int × Int)} (ha : a < x) (hb : b ≤ x) :
    interpolate ((a, v) :: (b, w) :: rest) x = interpolate ((b, w) :: rest) x := by
  simp [interpolate, not_lt.mpr ha.le, ha.ne', not_lt.mpr hb]

/-- The points before one that the argument has reached do not count. -/
theorem interpolate_append {init rest : List (Int × Int)} (hl : Rising (init ++ (b, w) :: rest)) (hb : b ≤ x) :
    interpolate (init ++ (b, w) :: rest) x = interpolate ((b, w) :: rest) x := by
  induction init with
  | nil => rfl
  | cons p init ih =>
    obtain ⟨hfirst, hrest⟩ := List.pairwise_cons.mp hl
    have hpb : p.1 < b := hfirst (b, w) (by simp)
    rw [← ih hrest]
    cases init with
    | nil => exact interpolate_past (hpb.trans_le hb) hb
    | cons q init =>
      have hqb : q.1 < b := (List.pairwise_cons.mp hrest).1 (b, w) (by simp)
      exact interpolate_past (hpb.trans_le hb) (hqb.le.trans hb)

theorem interpolate_mem (hl : Rising l) (h : (a, v) ∈ l) : interpolate l a = some (v, false) := by
  obtain ⟨init, rest, rfl⟩ := List.append_of_mem h
  rw [interpolate_append hl le_rfl, interpolate_here]

theorem interpolate_above {init : List (Int × Int)} (hl : Rising (init ++ [(a, v)])) (h : a < x) :
    interpolate (init ++ [(a, v)]) x = some (v, true) := by
  rw [interpolate_append hl h.le]
  simp [interpolate, h.ne']

theorem interpolate_between {init rest : List (Int × Int)} (hl : Rising (init ++ (a, v) :: (b, w) :: rest)) (ha : a < x)
    (hb : x < b) :
    interpolate (init ++ (a, v) :: (b, w) :: rest) x = some (v + halfAway ((w - v) * (x - a)) (b - a).toNat, false) := by
  rw [interpolate_append hl ha.le]
  simp [interpolate, not_lt.mpr ha.le, ha.ne', hb]

end Interpolate

/-! ## A step of a segment stays between its ends -/

theorem halfUp_mul_le {k m d : Nat} (hd : 0 < d) (hm : m ≤ d) : halfUp (k * m) d ≤ k := by
  have hkm : k * m ≤ k * d := Nat.mul_le_mul_left k hm
  have hlt : 2 * (k * m) + d < (k + 1) * (2 * d) := by
    calc 2 * (k * m) + d ≤ 2 * (k * d) + d := by omega
      _ < 2 * (k * d) + 2 * d := by omega
      _ = (k + 1) * (2 * d) := by ring
  exact Nat.lt_succ_iff.mp ((Nat.div_lt_iff_lt_mul (by omega)).mpr hlt)

theorem halfAway_mul_bounds {k m : Int} {d : Nat} (hd : 0 < d) (h0 : 0 ≤ m) (hm : m ≤ d) :
    min 0 k ≤ halfAway (k * m) d ∧ halfAway (k * m) d ≤ max 0 k := by
  obtain ⟨m, rfl⟩ := Int.eq_ofNat_of_zero_le h0
  have hle := halfUp_mul_le (k := k.natAbs) hd (Int.ofNat_le.mp hm)
  have habs : (k * (m : Int)).natAbs = k.natAbs * m := by rw [Int.natAbs_mul, Int.natAbs_natCast]
  unfold halfAway
  rw [habs]
  split
  · rename_i hneg
    have hk : k < 0 := by
      by_contra hk
      exact absurd hneg (not_lt.mpr (mul_nonneg (not_lt.mp hk) h0))
    omega
  · rename_i hnonneg
    rcases lt_or_ge k 0 with hk | hk
    · have hm0 : m = 0 := by
        by_contra hne
        exact hnonneg (mul_neg_of_neg_of_pos hk (by omega))
      subst hm0
      have hzero : halfUp (k.natAbs * 0) d = 0 := by
        rw [Nat.mul_zero, halfUp, Nat.mul_zero, Nat.zero_add]
        exact Nat.div_eq_of_lt (by omega)
      omega
    · omega

/-- Between two neighbours of natural height a segment is one of the natural numbers between theirs. -/
theorem segment_value {a b x : Int} {v w : Nat} (ha : a < x) (hb : x < b) :
    ∃ m : Nat, (m : Int) = v + halfAway (((w : Int) - v) * (x - a)) (b - a).toNat ∧ min v w ≤ m ∧ m ≤ max v w := by
  obtain ⟨hlow, hhigh⟩ := halfAway_mul_bounds (k := (w : Int) - v) (m := x - a) (d := (b - a).toNat) (by omega) (by omega) (by omega)
  exact ⟨((v : Int) + halfAway (((w : Int) - v) * (x - a)) (b - a).toNat).toNat, by omega, by omega, by omega⟩

/-! ## The three answers -/

theorem enabledPoints_rising {c : List CurvePoint} (hc : CurveSound c) : Rising (enabledPoints c) := by
  have hflow : c.Pairwise (fun p q => p.flow < q.flow) := List.pairwise_map.mp hc.1
  refine List.pairwise_map.mpr ((hflow.filter _).imp fun h => ?_)
  exact Int.ofNat_lt.mpr h

theorem curveMf_answers {c : List CurvePoint} (q : Nat) (hc : CurveSound c) :
    (∀ x ∈ c.filter (·.enabled), x.flow = q → curveMf? c q = some (x.mf, false))
      ∧ (∀ x rest, c.filter (·.enabled) = x :: rest → q < x.flow → curveMf? c q = some (x.mf, true))
      ∧ (∀ x init, c.filter (·.enabled) = init ++ [x] → x.flow < q → curveMf? c q = some (x.mf, true))
      ∧ (∀ a b init rest, c.filter (·.enabled) = init ++ a :: b :: rest → a.flow < q → q < b.flow →
          ∃ m, curveMf? c q = some (m, false) ∧ min a.mf b.mf ≤ m ∧ m ≤ max a.mf b.mf
            ∧ (m : Int) = a.mf + halfAway (((b.mf : Int) - a.mf) * ((q : Int) - a.flow)) (b.flow - a.flow)) := by
  have hrising := enabledPoints_rising hc
  unfold curveMf?
  unfold enabledPoints at hrising ⊢
  refine ⟨fun x hx hq => ?_, fun x rest hon hq => ?_, fun x init hon hq => ?_, fun a b init rest hon ha hb => ?_⟩
  · subst hq
    rw [interpolate_mem hrising (v := (x.mf : Int)) (List.mem_map.mpr ⟨x, hx, rfl⟩)]
    rfl
  · rw [hon, List.map_cons, interpolate_below (Int.ofNat_lt.mpr hq)]
    rfl
  · rw [hon, List.map_append] at hrising ⊢
    rw [List.map_singleton] at hrising ⊢
    rw [interpolate_above hrising (Int.ofNat_lt.mpr hq)]
    rfl
  · rw [hon, List.map_append] at hrising ⊢
    rw [List.map_cons, List.map_cons] at hrising ⊢
    obtain ⟨m, hm, hlow, hhigh⟩ := segment_value (v := a.mf) (w := b.mf) (Int.ofNat_lt.mpr ha) (Int.ofNat_lt.mpr hb)
    have hwidth : ((b.flow : Int) - a.flow).toNat = b.flow - a.flow := by omega
    refine ⟨m, ?_, hlow, hhigh, hwidth ▸ hm⟩
    rw [interpolate_between hrising (Int.ofNat_lt.mpr ha) (Int.ofNat_lt.mpr hb), ← hm]
    rfl

theorem gradePoints_rising {g : Grade} (hg : g.Sound) : Rising (g.table.map (fun p => (p.temp, (p.ctl : Int)))) := by
  obtain ⟨-, -, -, -, hsorted, -⟩ := hg
  exact List.pairwise_map.mpr (List.pairwise_map.mp hsorted)

theorem gradeCtl_of_interpolate {g : Grade} {temp : Int} {v : Nat} {clamped : Bool}
    (h : interpolate (g.table.map (fun p => (p.temp, (p.ctl : Int)))) temp = some ((v : Int), clamped)) :
    gradeCtl g temp = (v, clamped) := by
  simp [gradeCtl, h]

theorem gradeCtl_answers {g : Grade} (temp : Int) (hg : g.Sound) :
    (∀ x ∈ g.table, x.temp = temp → gradeCtl g temp = (x.ctl, false))
      ∧ (∀ x rest, g.table = x :: rest → temp < x.temp → gradeCtl g temp = (x.ctl, true))
      ∧ (∀ x init, g.table = init ++ [x] → x.temp < temp → gradeCtl g temp = (x.ctl, true))
      ∧ (∀ a b init rest, g.table = init ++ a :: b :: rest → a.temp < temp → temp < b.temp →
          ∃ m, gradeCtl g temp = (m, false) ∧ min a.ctl b.ctl ≤ m ∧ m ≤ max a.ctl b.ctl
            ∧ (m : Int) = a.ctl + halfAway (((b.ctl : Int) - a.ctl) * (temp - a.temp)) (b.temp - a.temp).toNat) := by
  have hrising := gradePoints_rising hg
  refine ⟨fun x hx htemp => ?_, fun x rest hon htemp => ?_, fun x init hon htemp => ?_, fun a b init rest hon ha hb => ?_⟩
  · subst htemp
    exact gradeCtl_of_interpolate (interpolate_mem hrising (List.mem_map.mpr ⟨x, hx, rfl⟩))
  · refine gradeCtl_of_interpolate ?_
    rw [hon, List.map_cons, interpolate_below htemp]
  · refine gradeCtl_of_interpolate ?_
    rw [hon, List.map_append] at hrising ⊢
    exact interpolate_above hrising htemp
  · obtain ⟨m, hm, hlow, hhigh⟩ := segment_value (v := a.ctl) (w := b.ctl) ha hb
    refine ⟨m, gradeCtl_of_interpolate ?_, hlow, hhigh, hm⟩
    rw [hon, List.map_append] at hrising ⊢
    rw [hm]
    exact interpolate_between hrising ha hb

theorem gradeCpl_bounds {c d : Nat} (hlow : 970000000 ≤ d) (hhigh : d ≤ 1000000000) (h1 : 2 * c * d ≤ 2 * 1000000000000000 + d)
    (h2 : 2 * 1000000000000000 < (2 * c + 1) * d) : 1000000 ≤ c ∧ c ≤ 1030928 := by
  constructor
  · by_contra hc
    have hprod : (2 * c + 1) * d ≤ 1999999 * 1000000000 := Nat.mul_le_mul (by omega) hhigh
    omega
  · by_contra hc
    have hprod : 2061857 * 970000000 ≤ (2 * c - 1) * d := Nat.mul_le_mul (by omega) hlow
    have hsub : (2 * c - 1) * d + d = 2 * c * d := by
      obtain ⟨c, rfl⟩ : ∃ e, c = e + 1 := ⟨c - 1, by omega⟩
      rw [show 2 * (c + 1) - 1 = 2 * c + 1 by omega]
      ring
    omega

/-- Settles O27: a curve or a grade answers by its segments, and CPL is a rounded quotient of a divisor near 10⁹. -/
theorem tableAnswers : Obligations.TableAnswers := by
  refine ⟨fun c q hc => curveMf_answers q hc, fun g temp hg => gradeCtl_answers temp hg, fun g pressure hf => ?_⟩
  have hp := limitPressure_cast pressure
  have hprod : g.f * limitPressure pressure ≤ 2000 * 15000 := Nat.mul_le_mul hf (by omega)
  obtain ⟨h1, h2⟩ := halfUp_nearest 1000000000000000 (d := 1000000000 - g.f * limitPressure pressure) (by omega)
  have hlow : 970000000 ≤ 1000000000 - g.f * limitPressure pressure := by omega
  obtain ⟨hc1, hc2⟩ := gradeCpl_bounds hlow (by omega) h1 h2
  refine ⟨by omega, hlow, h1, h2, hc1, hc2, fun hzero => ?_⟩
  have hnone : g.f * limitPressure pressure = 0 :=
    mul_eq_zero.mpr (hzero.imp_right fun h => by omega)
  simp [gradeCpl, cplAt, hnone, halfUp]

end Sys2Proof.Machine

/-! ACCEPT PROVE: the checks of R149 in their order, and the installation that R150 chooses. -/

namespace Sys2Proof.Machine

/-! ## The installation chosen -/

section Choice

variable {c : List CurvePoint} {q band : Nat} {x : CurvePoint}

theorem inBand_iff : inBand band q x = true ↔ x.enabled = true ∧ flowDistance x.flow q * 1000000 ≤ band * q := by
  simp [inBand]

theorem chooseInstall_nearest (hc : CurveSound c) (hx : x ∈ c) (hband : inBand band q x = true)
    (hnearest : ∀ y ∈ c, inBand band q y = true → Prefers q x y) : chooseInstall band q c = (.replaced, x.flow) := by
  rw [chooseInstall, nearestInBand_eq hc hx hband hnearest]

theorem chooseInstall_enabled (hnone : ∀ x ∈ c, ¬ inBand band q x = true) (hhere : ∃ x ∈ c, x.flow = q) :
    chooseInstall band q c = (.enabled, q) := by
  rw [chooseInstall, nearestInBand_eq_none_iff.mpr hnone, hasFlow_iff.mpr hhere]
  rfl

theorem chooseInstall_inserted (hnone : ∀ x ∈ c, ¬ inBand band q x = true) (hnew : ∀ x ∈ c, x.flow ≠ q) :
    chooseInstall band q c = (.inserted, q) := by
  rw [chooseInstall, nearestInBand_eq_none_iff.mpr hnone, hasFlow_eq_false_iff.mpr hnew]
  rfl

theorem deviates_iff {mf limit : Nat} {ref : Option Nat} : deviates mf limit ref = true ↔
    ∃ m, ref = some m ∧ limit * m < flowDistance mf m * 1000000 := by
  cases ref <;> simp [deviates]

/-- A curve that answers holds an enabled point. -/
theorem hasEnabled_of_answer {m : Nat} (h : (curveMf? c q).map (·.1) = some m) : hasEnabled c = true := by
  by_contra hnone
  have hempty : c.filter (·.enabled) = [] :=
    List.filter_eq_nil_iff.mpr fun x hx => by
      simp [hasEnabled_eq_false_iff.mp (Bool.eq_false_iff.mpr hnone) x hx]
  simp [curveMf?, enabledPoints, hempty, interpolate] at h

end Choice

/-! ## The checks -/

section Accept

variable {p : Port} {r : Run} {mf q : Nat} {force : Bool} {s : State}

theorem completeFor_eq {u : ProveSetup} (hstate : s.prove.result.state = .complete) (hsetup : s.prove.result.setup = some u)
    (hrun : u.run = r) (hmf : s.prove.result.mf = some mf) (hq : s.prove.result.q = some q) : completeFor r s = some (mf, q) := by
  simp [completeFor, hstate, State.provedRun, hsetup, hrun, hmf, hq]

theorem renewed_completeFor (us : List UnitId) : completeFor r (renewed p us s) = completeFor r s := by
  simp [completeFor]

theorem renewed_acceptResult (us : List UnitId) {ref : Option Nat} {how : InstallKind} {flow : Nat} :
    acceptResult r mf ref force how flow (renewed p us s)
      = ((renewed p us s).setCurve r (installed how flow mf (s.curve r))).setResult { s.prove.result with
          state := .accepted
          acceptance := some { refMf := ref, deviation := ref.map (flowDistance mf), forced := force, flow := flow, how := how } } := by
  unfold acceptResult
  rw [renewed_curve, renewed_prove]

variable (hsup : s.retention.supplied = true) (hheld : s.holds p (.run r) = true) (hresult : completeFor r s = some (mf, q))
include hsup hheld hresult

theorem acceptProve_noCurve (hnone : hasEnabled (s.curve r) = false) :
    exec (.acceptProve p (runNumber r) false) s = .next (answered p .noCurve 30 .empty (renewed p [.run r] s)) := by
  show execAcceptProve .. = _
  unfold execAcceptProve
  refine run_request hsup hheld ?_
  simp [renewed_completeFor, hresult, hnone, refuse]

theorem acceptProve_deviation (hfar : deviates mf s.prove.config.acceptLimit ((curveMf? (s.curve r) q).map (·.1)) = true) :
    exec (.acceptProve p (runNumber r) false) s = .next (answered p .deviation 30 .empty (renewed p [.run r] s)) := by
  obtain ⟨m, hm, -⟩ := deviates_iff.mp hfar
  show execAcceptProve .. = _
  unfold execAcceptProve
  refine run_request hsup hheld ?_
  simp only [renewed_completeFor, hresult, renewed_curve, renewed_prove, hasEnabled_of_answer hm, hfar]
  rfl

variable (hpass : (hasEnabled (s.curve r) = true ∧ deviates mf s.prove.config.acceptLimit ((curveMf? (s.curve r) q).map (·.1)) = false)
  ∨ force = true)
include hpass

/-- A result that passes the checks is installed as R150 chooses. -/
theorem acceptProve_installs {how : InstallKind} {flow : Nat}
    (hchoice : chooseInstall s.prove.config.band q (s.curve r) = (how, flow))
    (hroom : ¬ (how = .inserted ∧ Config.curveSize ≤ (s.curve r).length)) :
    exec (.acceptProve p (runNumber r) force) s = .next (answered p .ok 30 .empty
      (acceptResult r mf ((curveMf? (s.curve r) q).map (·.1)) force how flow (renewed p [.run r] s))) := by
  show execAcceptProve .. = _
  unfold execAcceptProve
  refine run_request hsup hheld ?_
  simp only [renewed_completeFor, hresult, renewed_curve, renewed_prove, hchoice]
  have hcurve : ¬ (!hasEnabled (s.curve r) && !force) = true := by
    obtain ⟨hsome, -⟩ | rfl := hpass <;> simp [*]
  have hnear : ¬ (deviates mf s.prove.config.acceptLimit ((curveMf? (s.curve r) q).map (·.1)) && !force) = true := by
    obtain ⟨-, hnear⟩ | rfl := hpass <;> simp [*]
  rw [if_neg hcurve, if_neg hnear, if_neg hroom]
  rfl

theorem acceptProve_curveFull (hchoice : chooseInstall s.prove.config.band q (s.curve r) = (.inserted, q))
    (hfull : 8 ≤ (s.curve r).length) :
    exec (.acceptProve p (runNumber r) force) s = .next (answered p .curveFull 30 .empty (renewed p [.run r] s)) := by
  show execAcceptProve .. = _
  unfold execAcceptProve
  refine run_request hsup hheld ?_
  simp only [renewed_completeFor, hresult, renewed_curve, renewed_prove, hchoice]
  have hcurve : ¬ (!hasEnabled (s.curve r) && !force) = true := by
    obtain ⟨hsome, -⟩ | rfl := hpass <;> simp [*]
  have hnear : ¬ (deviates mf s.prove.config.acceptLimit ((curveMf? (s.curve r) q).map (·.1)) && !force) = true := by
    obtain ⟨-, hnear⟩ | rfl := hpass <;> simp [*]
  rw [if_neg hcurve, if_neg hnear, if_pos ⟨trivial, hfull⟩]
  rfl

end Accept

/-- Settles O46: the checks in their order, and for each place of Q on the curve the installation chosen. -/
theorem resultIsAccepted : Obligations.ResultIsAccepted := by
  refine ⟨fun p r u mf q force s hsup hheld hstate hsetup hrun hmf hq hc => ?_, fun p r force s hsup hheld hnone => ?_⟩
  · have hresult := completeFor_eq hstate hsetup hrun hmf hq
    refine ⟨fun hforce hoff => ?_, fun hforce hfar => ?_, fun hpass => ?_⟩
    · subst hforce
      exact acceptProve_noCurve hsup hheld hresult (hasEnabled_eq_false_iff.mpr hoff)
    · subst hforce
      exact acceptProve_deviation hsup hheld hresult (deviates_iff.mpr hfar)
    · have hpass := hpass.imp_left fun h => And.intro (hasEnabled_iff.mpr h.1) (Bool.eq_false_iff.mpr (mt deviates_iff.mp h.2))
      refine ⟨fun x hx hnear hfirst => ?_, fun hnone hhere => ?_, fun hnone hnew hroom => ?_, fun hnone hnew hfull => ?_⟩
      · have hchoice := chooseInstall_nearest hc hx (inBand_iff.mpr hnear) fun y hy hband => hfirst y hy (inBand_iff.mp hband)
        rw [acceptProve_installs hsup hheld hresult hpass hchoice (by simp), renewed_acceptResult, installed, replacePoint_eq]
        rfl
      · have hchoice := chooseInstall_enabled (band := s.prove.config.band) (fun x hx => mt inBand_iff.mp (hnone x hx)) hhere
        rw [acceptProve_installs hsup hheld hresult hpass hchoice (by simp), renewed_acceptResult, installed, replacePoint_eq]
        rfl
      · have hchoice := chooseInstall_inserted (band := s.prove.config.band) (fun x hx => mt inBand_iff.mp (hnone x hx)) hnew
        refine ⟨insertPoint ⟨q, mf, true⟩ (s.curve r), ?_, insertPoint_perm .., insertPoint_sound hc hnew hroom⟩
        rw [acceptProve_installs hsup hheld hresult hpass hchoice (by simp [Config.curveSize, hroom]), renewed_acceptResult, installed]
        rfl
      · have hchoice := chooseInstall_inserted (band := s.prove.config.band) (fun x hx => mt inBand_iff.mp (hnone x hx)) hnew
        exact acceptProve_curveFull hsup hheld hresult hpass hchoice hfull
  · have hnot : ¬ (s.prove.result.state = .complete ∧ s.provedRun = some r) := by
      rintro ⟨hstate, hrun⟩
      obtain h | ⟨u, hu, hur⟩ := hnone
      · exact h hstate
      · rw [State.provedRun, hu] at hrun
        exact hur (Option.some.inj hrun)
    rw [exec_acceptProve_state hsup (runOf_runNumber r) hheld force hnot, namedUnits_runNumber]

end Sys2Proof.Machine

/-! The Totalizer Bank: an arrival keeps each station total the sum of the run totals, whenever it is taken. -/

namespace Sys2Proof.Machine

/-! ## An arrival -/

theorem addTotal_eq (n x : Nat) : addTotal n x = (n + x) % 1000000000000 := rfl

section Add

variable {b : Bank}

theorem sumOfRuns_set (b : Bank) (r : Run) (x : RunTotals) (f : RunTotals → Nat) (iv gsv nsv rev : Nat) :
    Bank.sumOfRuns ⟨b.runs.set r x, iv, gsv, nsv, rev⟩ f + f (b.runs.get r) = b.sumOfRuns f + f x := by
  unfold Bank.sumOfRuns
  cases r <;> simp only [PerRun.set, PerRun.get] <;> omega

/-- A run total and its station total take the same addend. -/
theorem station_addTotal {station sum sum' x inc : Nat} (h : station = sum % 1000000000000)
    (hsum : sum' + x = sum + addTotal x inc) : addTotal station inc = sum' % 1000000000000 := by
  rw [addTotal_eq] at *
  omega

theorem addTotal_lt (n x : Nat) : addTotal n x < 1000000000000 := Nat.mod_lt _ (by decide)

theorem RunTotals.add_inRange {x : RunTotals} (h : x.inRange) (a : Arrival) : (x.add a).inRange := by
  obtain ⟨-, -, -, -, -, -, -, -, hoffline⟩ := h
  exact ⟨addTotal_lt .., addTotal_lt .., addTotal_lt .., addTotal_lt .., addTotal_lt .., addTotal_lt .., addTotal_lt .., addTotal_lt ..,
    hoffline⟩

theorem Bank.add_sound (h : b.Sound) (a : Arrival) : (b.add a).Sound where
  range r := by
    by_cases hr : r = a.run
    · subst hr
      rw [Bank.add, PerRun.get_set_self]
      exact RunTotals.add_inRange (h.range _) a
    · rw [Bank.add, PerRun.get_set_ne hr]
      exact h.range r
  iv := station_addTotal h.iv (sumOfRuns_set ..)
  gsv := station_addTotal h.gsv (sumOfRuns_set ..)
  nsv := station_addTotal h.nsv (sumOfRuns_set ..)
  rev := station_addTotal h.rev (sumOfRuns_set ..)

theorem Bank.addAll_sound (h : b.Sound) (l : List Arrival) : (l.foldl Bank.add b).Sound := by
  induction l generalizing b with
  | nil => exact h
  | cons a l ih => exact ih (Bank.add_sound h a)

end Add

/-! ## The bank at every step -/

section Bank

variable {s t : State}

/-- The bank of the state is sound (R75, R77). -/
def State.BankSound (s : State) : Prop := s.bank.Sound

theorem bankSound_reads : Reads [.bank] State.BankSound := fun s t h hs => by
  have hbank : t.bank = s.bank := h .bank (by simp)
  unfold State.BankSound
  rwa [hbank]

theorem bankRequests : RequestKept State.BankSound := bankSound_reads.requestKept (by decide) (by decide)

theorem takeArrivals_bank (r : Run) (s : State) : (takeArrivals r s).bank = (s.toBank.get r).foldl Bank.add s.bank := by
  have hframe := takeAtEngine_frame s r
  have hbank : (takeAtEngine r s).bank = s.bank := hframe.same .bank (by decide)
  have hqueue : (takeAtEngine r s).toBank = s.toBank := hframe.same .toBank (by decide)
  rw [takeArrivals, drainBank, hbank, hqueue]

theorem takeArrivals_keepsBank (r : Run) : Keeps State.BankSound (takeArrivals r) := fun s hs => by
  unfold State.BankSound
  rw [takeArrivals_bank]
  exact Bank.addAll_sound hs _

theorem settleArrivals_keepsBank (hs : s.BankSound) : (settleArrivals s).BankSound :=
  runs_foldl_keeps (P := State.BankSound) (fun s r hs => takeArrivals_keepsBank r s hs) runs hs

theorem goOffline_keepsBank (r : Run) : Keeps State.BankSound (goOffline r) :=
  goOffline_keeps (fun s => bankSound_reads.of_frame (takeAtEngine_frame s r) (by decide))
    (fun _ s => bankSound_reads.of_frame (closePeriod_frame s r _ false) (by decide)) (takeArrivals_keepsBank r)
    (fun s => bankSound_reads.of_frame (closeIfOwing_frame r s) (by decide))
    (fun b s => bankSound_reads.of_frame (abortIf_frame b .offline s) (by decide))
    (fun s => bankSound_reads.of_frame (applyPendingK_frame r s) (by decide))
    (fun s => bankSound_reads.of_frame (takeOffline_frame r s) (by decide))

theorem setService_keepsBank {p : Port} {unit service : Nat} (hs : s.BankSound)
    (ht : execSetService p unit service s = .next t) : t.BankSound := by
  unfold execSetService at ht
  refine bankRequests.serve_run (fun s r hs _ => ?_) hs ht
  split
  · exact hs
  · rename_i v _
    refine reply_ite_keeps (fun _ => hs) fun _ => ?_
    cases v with
    | online => exact reply_ite_keeps (fun _ => bankSound_reads.of_frame (goOnline_frame r s) (by decide) hs) (fun _ => hs)
    | offline => exact goOffline_keepsBank r s hs

/-- An offline pulse is counted in its own total, which no station total sums. -/
theorem offlineEdge_keepsBank (r : Run) (c : Channel) : Keeps State.BankSound (offlineEdge r c) := fun s hs => by
  cases c with
  | b => exact hs
  | a =>
    have hsame (f : RunTotals → Nat) (hf : ∀ x n, f { x with offline := n } = f x) :
        (offlineEdge r .a s).bank.sumOfRuns f = s.bank.sumOfRuns f := by
      have hset := sumOfRuns_set s.bank r { s.bank.runs.get r with offline := addTotal (s.bank.runs.get r).offline 1 } f s.bank.iv
        s.bank.gsv s.bank.nsv s.bank.rev
      exact Nat.add_right_cancel (hset.trans (congrArg _ (hf _ _)))
    refine ⟨fun q => ?_, hs.iv.trans ?_, hs.gsv.trans ?_, hs.nsv.trans ?_, hs.rev.trans ?_⟩
    · have hrun : (offlineEdge r .a s).bank.runs.get q = (s.bank.runs.set r
          { s.bank.runs.get r with offline := addTotal (s.bank.runs.get r).offline 1 }).get q := rfl
      rw [hrun]
      by_cases hq : q = r
      · subst hq
        rw [PerRun.get_set_self]
        obtain ⟨h1, h2, h3, h4, h5, h6, h7, h8, -⟩ := hs.range q
        exact ⟨h1, h2, h3, h4, h5, h6, h7, h8, addTotal_lt ..⟩
      · rw [PerRun.get_set_ne hq]
        exact hs.range q
    · rw [hsame (·.iv) fun _ _ => rfl]
    · rw [hsame (·.gsv) fun _ _ => rfl]
    · rw [hsame (·.nsv) fun _ _ => rfl]
    · rw [hsame (·.rev) fun _ _ => rfl]

theorem risingEdge_keepsBank {r : Run} {c : Channel} {high : Bool} {stamp : Nat} (hs : s.BankSound)
    (ht : execRisingEdge r c high stamp s = .next t) : t.BankSound := by
  refine event_keeps (fun hs => ?_) hs ht
  dsimp only
  split
  · exact bankSound_reads.of_frame (onlineEdge_frame r c high _) (by decide) hs
  · exact offlineEdge_keepsBank r c _ hs

theorem takeAtBank_keepsBank (r : Run) : Keeps State.BankSound (takeAtBank r) := fun s hs => by
  unfold takeAtBank
  split
  · exact hs
  · exact Bank.add_sound hs _

theorem reset_bankSound : State.reset.BankSound where
  range r := by
    have hrun : State.reset.bank.runs.get r =
        { iv := 0, gsv := 0, nsv := 0, rev := 0, unIv := 0, unGsv := 0, unNsv := 0, periods := 0, offline := 0 } :=
      PerRun.get_all ..
    rw [hrun]
    simp [RunTotals.inRange]
  iv := rfl
  gsv := rfl
  nsv := rfl
  rev := rfl

theorem startPart_keepsBank (intact : Bool) : Keeps State.BankSound (startPart intact) := fun s hs => by
  unfold startPart
  split
  · exact bankSound_reads.of_frame (restart_frame _) (by decide) (settleArrivals_keepsBank hs)
  · exact reset_bankSound

theorem lossOfSupply_keepsBank (hs : s.BankSound) (ht : execLossOfSupply s = .next t) : t.BankSound := by
  refine event_keeps (fun hs => ?_) hs ht
  have hsettled := settleArrivals_keepsBank hs
  dsimp only
  split
  · exact hsettled
  · exact hsettled

theorem bank_stepKept : StepKept [.bank] State.BankSound where
  reads := bankSound_reads
  queue := by decide
  elapse n _ hs := hs
  requests := bankRequests
  exec c s t hreach hplain hs ht := by
    cases c with
    | setService => exact setService_keepsBank hs ht
    | risingEdge => exact risingEdge_keepsBank hs ht
    | incrementArrivalAtBank r => exact event_keeps (takeAtBank_keepsBank r s) hs (show event (takeAtBank r) s = .next t from ht)
    | partStart => exact partStart_keeps (startPart_keepsBank _ _) hs ht
    | lossOfSupply => exact lossOfSupply_keepsBank hs ht
    | refusedRequestFrame => exact absurd rfl (hplain _ _)
    | _ => exact absurd hreach Bool.false_ne_true

end Bank

/-- Settles O57: an arrival adds the same increment to a run total and to its station total, modulo the same number. -/
theorem stationTotalsAreSums : Obligations.StationTotalsAreSums := fun _ _ => bank_stepKept.keeps_step

/-- Settles O32: the oldest arrival is taken off the queue and added, each total modulo 10¹². -/
theorem bankAddsArrival : Obligations.BankAddsArrival := by
  intro r s hsup
  have hexec : exec (.incrementArrivalAtBank r) s = .next (takeAtBank r s) := event_supplied hsup
  refine ⟨fun hempty => ?_, fun a rest hqueue => ?_⟩
  · rw [hexec, takeAtBank, hempty]
  · rw [hexec, takeAtBank, hqueue]
    rfl

end Sys2Proof.Machine

/-! The Prove Engine at every step: the engine works only in a RUNNING prove, and the pass list counts the attempts. -/

namespace Sys2Proof.Machine

/-- The engine of the state is sound (R130, R134, R140). -/
def State.ProveSound (s : State) : Prop := s.prove.Sound

/-- A prove is RUNNING and no pass is in progress; its attempts may be at their end. -/
structure State.BetweenPasses (s : State) : Prop where
  running : s.prove.result.state = .running
  engine : s.prove.engine = .awaitD1
  timer : s.prove.passTimer = none
  working : s.prove.working = none
  attempts : ∃ u, s.prove.result.setup = some u ∧ u.maxAttempts ≤ 20 ∧ s.prove.result.attempts = s.prove.result.passes.length
    ∧ s.prove.result.attempts ≤ u.maxAttempts

section Prove

variable {s t : State}

theorem proveSound_congr (h : s.ProveSound) (hprove : t.prove = s.prove) : t.ProveSound := by
  unfold State.ProveSound
  rwa [hprove]

theorem proveSound_reads : Reads [.prove] State.ProveSound := fun _ _ h hs => proveSound_congr hs (h .prove (by simp))

theorem proveRequests : RequestKept State.ProveSound := proveSound_reads.requestKept (by decide) (by decide)

theorem passInProgress_iff : s.passInProgress = true ↔ s.prove.engine = .inPass ∨ s.prove.engine = .awaitEnd := by
  simp [State.passInProgress]

/-! ## Passes -/

theorem proveSound_running (h : s.ProveSound) (hengine : s.prove.engine ≠ .idle) : s.prove.result.state = .running := by
  by_contra hstate
  exact hengine (h.idle.mpr hstate)

theorem proveSound_between (h : s.ProveSound) (hengine : s.prove.engine = .awaitD1) : s.BetweenPasses := by
  have hrunning := proveSound_running h (by simp [hengine])
  have htimer : s.prove.passTimer = none := by simpa [hengine] using h.timer
  have hworking : s.prove.working = none := by simpa [hengine] using h.working
  obtain ⟨u, hsetup, hmax, hattempts, hleft⟩ := h.attempts hrunning
  simp only [hworking, hengine] at hattempts hleft
  exact ⟨hrunning, hengine, htimer, hworking, u, hsetup, hmax, hattempts, Nat.le_of_succ_le hleft⟩

/-- With an attempt left a prove between passes awaits D1. -/
theorem State.BetweenPasses.sound (h : s.BetweenPasses) (hleft : s.attemptsLeft = true) : s.ProveSound := by
  obtain ⟨u, hsetup, hmax, hattempts, hle⟩ := h.attempts
  have hlt : s.prove.result.attempts < u.maxAttempts := by simpa [State.attemptsLeft, hsetup] using hleft
  have hengine := h.engine
  have hworking := h.working
  exact {
    idle := by simp [hengine, h.running]
    timer := by simp [hengine, h.timer]
    working := by simp [hengine, hworking]
    d2 := by simp [hworking]
    attempts := fun _ => ⟨u, hsetup, hmax, by simp [hworking, hattempts], by simpa [hengine] using hlt⟩
    passes := by omega }

/-- Counts of the result record that the engine's form does not read. -/
theorem State.BetweenPasses.setResult (h : s.BetweenPasses) {x : ProveResult} (hstate : x.state = s.prove.result.state)
    (hsetup : x.setup = s.prove.result.setup) (hattempts : x.attempts = s.prove.result.attempts)
    (hpasses : x.passes = s.prove.result.passes) : (s.setResult x).BetweenPasses where
  running := hstate.trans h.running
  engine := h.engine
  timer := h.timer
  working := h.working
  attempts := by simpa [hsetup, hattempts, hpasses] using h.attempts

theorem State.ProveSound.setResult (h : s.ProveSound) {x : ProveResult} (hstate : x.state = s.prove.result.state)
    (hsetup : x.setup = s.prove.result.setup) (hattempts : x.attempts = s.prove.result.attempts)
    (hpasses : x.passes = s.prove.result.passes) : (s.setResult x).ProveSound where
  idle := by simpa [hstate] using h.idle
  timer := h.timer
  working := h.working
  d2 := h.d2
  attempts hrun := by
    obtain ⟨u, hu, hmax, hcount, hleft⟩ := h.attempts (hstate.symm.trans hrun)
    refine ⟨u, hsetup.trans hu, hmax, ?_, ?_⟩
    · rw [setResult_result, hattempts, hpasses]
      exact hcount
    · rw [setResult_result, hattempts]
      exact hleft
  passes := by simpa [hpasses] using h.passes

/-- The record of the pass in progress is appended. -/
theorem appendPass_between (h : s.ProveSound) (hpass : s.passInProgress = true) (x : PassRecord) :
    (appendPass x s).BetweenPasses := by
  have hengine := passInProgress_iff.mp hpass
  have hrunning : s.prove.result.state = .running := proveSound_running h (by rintro hidle; simp [hidle] at hengine)
  obtain ⟨u, hsetup, hmax, hattempts, hle⟩ := h.attempts hrunning
  rw [h.working.mpr hengine] at hattempts
  refine ⟨hrunning, rfl, rfl, rfl, u, hsetup, hmax, ?_, by simp [appendPass]; omega⟩
  simpa [appendPass] using hattempts

/-- A pass begins at an attempt that is left. -/
theorem beginPass_sound (h : s.BetweenPasses) (hleft : s.attemptsLeft = true) : (beginPass s).ProveSound := by
  obtain ⟨u, hsetup, hmax, hattempts, hle⟩ := h.attempts
  have hlt : s.prove.result.attempts < u.maxAttempts := by simpa [State.attemptsLeft, hsetup] using hleft
  exact {
    idle := by simp [beginPass, h.running]
    timer := by simp [beginPass]
    working := by simp [beginPass]
    d2 := by simp [beginPass]
    attempts := fun _ => ⟨u, hsetup, hmax, by simp [beginPass, hattempts], by simpa [beginPass] using hlt⟩
    passes := by simp [beginPass]; omega }

theorem attemptsLeft_of_sound (h : s.ProveSound) (hengine : s.prove.engine = .awaitD1) : s.attemptsLeft = true := by
  obtain ⟨u, hsetup, -, -, hleft⟩ := h.attempts (proveSound_running h (by simp [hengine]))
  simpa [State.attemptsLeft, hsetup, hengine] using hleft

/-! ## The end of a prove -/

/-- The pass list holds the record of a pass in progress too. -/
def State.RoomForPass (s : State) : Prop := s.prove.result.passes.length + (if s.passInProgress then 1 else 0) ≤ 20

theorem State.ProveSound.room (h : s.ProveSound) : s.RoomForPass := by
  unfold State.RoomForPass
  split
  · rename_i hpass
    obtain ⟨u, -, hmax, hattempts, hle⟩ := (appendPass_between h hpass (bareRecord s none)).attempts
    have hlength : (appendPass (bareRecord s none) s).prove.result.passes.length = s.prove.result.passes.length + 1 := by
      simp [appendPass]
    omega
  · exact h.passes

theorem State.BetweenPasses.room (h : s.BetweenPasses) : s.RoomForPass := by
  obtain ⟨u, -, hmax, hattempts, hle⟩ := h.attempts
  have hnot : s.passInProgress = false := by simp [State.passInProgress, h.engine]
  simp only [State.RoomForPass, hnot]
  exact hattempts ▸ hle.trans hmax

theorem endProve_prove (st : ProveState) (reason : Option ProveReason) (s : State) :
    (endProve st reason s).prove = endedProve st reason s := by
  rw [endProve_eq]
  exact restartProveHolds_prove _

theorem endProve_proveSound (h : s.RoomForPass) {st : ProveState} (hst : st ≠ .running) (reason : Option ProveReason) :
    (endProve st reason s).ProveSound := by
  unfold State.ProveSound
  rw [endProve_prove]
  exact {
    idle := by simp [endedProve, hst]
    timer := by simp [endedProve]
    working := by simp [endedProve]
    d2 := by simp [endedProve]
    attempts := fun hrun => absurd hrun hst
    passes := by
      unfold State.RoomForPass at h
      unfold endedProve
      dsimp only
      split <;> simp_all }

theorem abortIf_proveSound (h : s.ProveSound) (b : Bool) (reason : ProveReason) : (abortIf b reason s).ProveSound := by
  unfold abortIf
  split
  · exact endProve_proveSound (st := .aborted) h.room (by decide) _
  · exact h

/-! ## A prove goes on or ends -/

theorem afterAbandon_sound (h : s.BetweenPasses) : (afterAbandon s).ProveSound := by
  have hreset : (resetConsecutive s).BetweenPasses := h.setResult rfl rfl rfl rfl
  unfold afterAbandon
  dsimp only
  split
  · exact hreset.sound ‹_›
  · exact endProve_proveSound hreset.room (by decide) _

theorem afterValid_sound (h : s.BetweenPasses) : (afterValid s).ProveSound := by
  have hcount : (s.setResult { s.prove.result with consecutive := s.prove.result.consecutive + 1 }).BetweenPasses :=
    h.setResult rfl rfl rfl rfl
  unfold afterValid
  dsimp only
  split
  · rename_i hnone
    obtain ⟨u, hsetup, -⟩ := hcount.attempts
    exact nomatch hsetup.symm.trans hnone
  · split
    · refine endProve_proveSound (State.BetweenPasses.room ?_) (by decide) _
      exact hcount.setResult rfl rfl rfl rfl
    · split
      · exact hcount.sound ‹_›
      · exact endProve_proveSound hcount.room (by decide) _

theorem abandonPass_sound (h : s.ProveSound) (hpass : s.passInProgress = true) (reason : AbandonReason) :
    (abandonPass reason s).ProveSound := afterAbandon_sound (appendPass_between h hpass _)

theorem countDetectorError_sound (h : s.ProveSound) : (countDetectorError s).ProveSound := h.setResult rfl rfl rfl rfl

theorem strayD2_sound (h : s.ProveSound) : (strayD2 s).ProveSound := by
  have hcount := countDetectorError_sound h
  unfold strayD2
  dsimp only
  split
  · exact endProve_proveSound hcount.room (by decide) _
  · exact hcount

theorem strayD1_sound (h : s.ProveSound) (hpass : s.passInProgress = true) : (strayD1 s).ProveSound := by
  have hbetween := appendPass_between (countDetectorError_sound h) hpass (bareRecord s (some .detector))
  have hreset : (resetConsecutive (appendPass (bareRecord s (some .detector)) (countDetectorError s))).BetweenPasses :=
    hbetween.setResult rfl rfl rfl rfl
  unfold strayD1
  dsimp only
  split
  · exact endProve_proveSound hreset.room (by decide) _
  · split
    · exact beginPass_sound hreset ‹_›
    · exact endProve_proveSound hreset.room (by decide) _

/-- D2 in a pass is recorded. -/
theorem takeD2_sound (h : s.ProveSound) (hengine : s.prove.engine = .inPass) : State.ProveSound { s with
    prove := { s.prove with
      engine := .awaitEnd
      working := s.prove.working.map (fun w => { w with d2 := some s.prove.timebase }) } } where
  idle := by simp [proveSound_running h (by simp [hengine])]
  timer := by simpa [hengine] using h.timer
  working := by simpa [hengine] using h.working
  d2 w hw := by
    obtain ⟨w, -, rfl⟩ := Option.map_eq_some_iff.mp hw
    simp
  attempts hrun := by simpa [hengine] using h.attempts hrun
  passes := h.passes

theorem detectorEvent_sound (h : s.ProveSound) (d : Detector) : (detectorEvent d s).ProveSound := by
  unfold detectorEvent
  split
  · exact h
  · rename_i hengine
    exact beginPass_sound (proveSound_between h hengine) (attemptsLeft_of_sound h hengine)
  · exact strayD2_sound h
  · rename_i hengine
    exact strayD1_sound h (passInProgress_iff.mpr (.inl hengine))
  · exact takeD2_sound h ‹_›
  · rename_i hengine
    exact strayD1_sound h (passInProgress_iff.mpr (.inr hengine))
  · exact strayD2_sound h

theorem gatherPass_prove (r : Run) (n tP : Nat) (s : State) : (gatherPass r n tP s).2.prove = s.prove := by
  obtain ⟨v, x, hg⟩ := gatherPass_touches r n tP s
  rw [hg]

theorem passEnd_sound (h : s.ProveSound) (hpass : s.passInProgress = true) (u : ProveSetup) (n tP : Nat) :
    (passEnd u n tP s).ProveSound := by
  have hprove := gatherPass_prove u.run n tP s
  have hgathered := proveSound_congr h hprove
  have hpass : (gatherPass u.run n tP s).2.passInProgress = true := by rwa [State.passInProgress, hprove]
  have hbetween := appendPass_between hgathered hpass
  unfold passEnd
  dsimp only
  split
  · exact afterAbandon_sound (hbetween _)
  · split
    · exact afterValid_sound (hbetween _)
    · exact afterAbandon_sound (hbetween _)

/-- The working pass counts a pulse. -/
theorem countPassPulse_sound (h : s.ProveSound) {w w' : WorkingPass} (hw : s.prove.working = some w) (hd2 : w'.d2 = w.d2) :
    State.ProveSound { s with prove := { s.prove with working := some w' } } where
  idle := h.idle
  timer := h.timer
  working := by simpa [hw] using h.working
  d2 v hv := by
    obtain rfl := Option.some.inj hv
    simpa [hd2] using h.d2 w hw
  attempts hrun := by simpa [hw] using h.attempts hrun
  passes := h.passes

theorem provePulse_sound (h : s.ProveSound) : (provePulse s).ProveSound := by
  unfold provePulse
  split
  · rename_i w _ _ hw
    refine countPassPulse_sound h hw ?_
    split <;> rfl
  · rename_i hengine _ _
    have hpass := passInProgress_iff.mpr (.inr hengine)
    split
    · exact passEnd_sound h hpass ..
    · exact passEnd_sound h hpass ..
  · exact h

theorem hand_sound (h : s.ProveSound) (r : Run) (x : Handed) : (hand r x s).ProveSound := by
  unfold hand proveItem
  split
  · cases x with
    | pulse => exact provePulse_sound h
    | missing =>
      dsimp only
      split
      · exact abandonPass_sound h ‹_› _
      · exact h
    | reverse =>
      dsimp only
      split
      · exact abandonPass_sound h ‹_› _
      · exact h
    | latchSet => exact endProve_proveSound h.room (by decide) _
  · exact h

/-! ## Edges -/

theorem countPulse_proveSound (h : s.ProveSound) (r : Run) : (countPulse r s).ProveSound :=
  hand_sound (s := s.setChecker r (s.checker r).pulse) h r .pulse

theorem countMissing_proveSound (h : s.ProveSound) (r : Run) (ch : Channel) : (countMissing r ch s).ProveSound := by
  unfold countMissing
  dsimp only
  split
  · refine hand_sound (hand_sound ?_ r .missing) r .latchSet
    exact proveSound_congr h rfl
  · refine hand_sound ?_ r .missing
    exact proveSound_congr h rfl

theorem countReverse_proveSound (h : s.ProveSound) (r : Run) : (countReverse r s).ProveSound := by
  refine hand_sound ?_ r .reverse
  split
  · exact proveSound_congr h rfl
  · exact proveSound_congr h rfl

theorem onlineEdge_proveSound (h : s.ProveSound) (r : Run) (c : Channel) (high : Bool) : (onlineEdge r c high s).ProveSound := by
  have hitem (i : EdgeItem) (t : State) (ht : t.ProveSound) : (countItem r i t).ProveSound := by
    cases i with
    | nothing => exact ht
    | forward => exact countPulse_proveSound ht r
    | forwardMissingA => exact countPulse_proveSound (countMissing_proveSound ht r .a) r
    | forwardMissingB => exact countPulse_proveSound (countMissing_proveSound ht r .b) r
    | reversePulse => exact countReverse_proveSound ht r
  exact hitem _ _ (proveSound_congr h rfl)

theorem elapse_proveSound (h : s.ProveSound) (n : Nat) : (s.elapse n).ProveSound where
  idle := h.idle
  timer := by simpa using h.timer
  working := h.working
  d2 := h.d2
  attempts := h.attempts
  passes := h.passes

/-! ## The commands -/

theorem setService_proveSound {p : Port} {unit service : Nat} (hs : s.ProveSound)
    (ht : execSetService p unit service s = .next t) : t.ProveSound := by
  unfold execSetService at ht
  refine proveRequests.serve_run (fun s r hs _ => ?_) hs ht
  split
  · exact hs
  · rename_i v _
    refine reply_ite_keeps (fun _ => hs) fun _ => ?_
    cases v with
    | online => exact reply_ite_keeps (fun _ => proveSound_reads.of_frame (goOnline_frame r s) (by decide) hs) (fun _ => hs)
    | offline =>
      exact goOffline_keeps (fun s => proveSound_reads.of_frame (takeAtEngine_frame s r) (by decide))
        (fun _ s => proveSound_reads.of_frame (closePeriod_frame s r _ false) (by decide))
        (fun s => proveSound_reads.of_frame (takeArrivals_frame s r) (by decide))
        (fun s => proveSound_reads.of_frame (closeIfOwing_frame r s) (by decide)) (fun b s hs => abortIf_proveSound hs b _)
        (fun s => proveSound_reads.of_frame (applyPendingK_frame r s) (by decide))
        (fun s => proveSound_reads.of_frame (takeOffline_frame r s) (by decide)) s hs

theorem setProver_proveSound {p : Port} {unit bpv timeout limit accept band : Nat} (hs : s.ProveSound)
    (ht : execSetProver p unit bpv timeout limit accept band s = .next t) : t.ProveSound := by
  unfold execSetProver at ht
  refine proveRequests.serve (fun s hs => unitProver_keeps hs (proveRequests.asHolder hs fun _ => ?_)) hs ht
  exact reply_ite_keeps (fun _ => hs) fun _ => reply_ite_keeps (fun _ => ⟨hs.idle, hs.timer, hs.working, hs.d2, hs.attempts, hs.passes⟩)
    (fun _ => hs)

theorem startOk_iff {n maxAttempts tolerance csp : Nat} : startOk n maxAttempts tolerance csp = true ↔
    (2 ≤ n ∧ n ≤ 10) ∧ (n ≤ maxAttempts ∧ maxAttempts ≤ 20) ∧ (50 ≤ tolerance ∧ tolerance ≤ 5000) ∧ 990000 ≤ csp ∧ csp ≤ 1010000 := by
  simp only [startOk, Bool.and_eq_true, within_iff, and_assoc]

theorem startProve_proveSound {n maxAttempts tolerance csp : Nat} (hok : startOk n maxAttempts tolerance csp = true) (r : Run)
    (p : Port)
    (s : State) : (startProve r p n maxAttempts tolerance csp s).ProveSound := by
  obtain ⟨⟨hn, -⟩, ⟨hmin, hmax⟩, -, -⟩ := startOk_iff.mp hok
  exact {
    idle := by simp [startProve, stopHold]
    timer := by simp [startProve, stopHold]
    working := by simp [startProve, stopHold]
    d2 := by simp [startProve, stopHold]
    attempts := fun _ => ⟨_, rfl, hmax, rfl, (by decide : 0 + 1 ≤ 2).trans (hn.trans hmin)⟩
    passes := Nat.zero_le _ }

theorem startProve_keepsProve {p : Port} {unit n m tol csp : Nat} (hs : s.ProveSound)
    (ht : execStartProve p unit n m tol csp s = .next t) : t.ProveSound := by
  unfold execStartProve at ht
  refine proveRequests.serve (fun s hs => withRun_keeps hs fun r => ?_) hs ht
  split
  · exact proveRequests.notHolder p _ hs
  · refine reply_ite_keeps (fun _ => hs) fun _ => reply_ite_keeps (fun _ => hs) fun _ => reply_ite_keeps (fun _ => hs) fun hok =>
      reply_ite_keeps (fun _ => hs) fun _ => reply_ite_keeps (fun _ => hs) fun _ => ?_
    exact startProve_proveSound (by simpa using hok) r p s

theorem abortProve_keepsProve {p : Port} {unit : Nat} (hs : s.ProveSound) (ht : execAbortProve p unit s = .next t) :
    t.ProveSound := by
  unfold execAbortProve at ht
  exact proveRequests.serve (fun s hs => unitProver_keeps hs (proveRequests.asHolder hs fun _ => reply_ite_keeps
    (fun _ => endProve_proveSound (st := .aborted) hs.room (by decide) _) (fun _ => hs))) hs ht

theorem engine_idle (hs : s.ProveSound) (hn : s.proveRunning = false) : s.prove.engine = .idle :=
  hs.idle.mpr (by simpa [State.proveRunning] using hn)

/-- A COMPLETE result takes another state that is not RUNNING. -/
theorem setResult_proveSound (hs : s.ProveSound) {x : ProveResult} (hn : s.proveRunning = false) (hx : x.state ≠ .running)
    (hpasses : x.passes = s.prove.result.passes) : (s.setResult x).ProveSound where
  idle := by
    simp [engine_idle hs hn, hx]
  timer := hs.timer
  working := hs.working
  d2 := hs.d2
  attempts hrun := absurd hrun hx
  passes := hpasses ▸ hs.passes

theorem acceptProve_keepsProve {p : Port} {unit : Nat} {force : Bool} (hs : s.ProveSound)
    (ht : execAcceptProve p unit force s = .next t) : t.ProveSound := by
  unfold execAcceptProve at ht
  refine proveRequests.serve_run (fun s r hs _ => ?_) hs ht
  split
  · exact hs
  · rename_i mf q hcomplete
    refine reply_ite_keeps (fun _ => hs) fun _ => reply_ite_keeps (fun _ => hs) fun _ => reply_ite_keeps (fun _ => hs) fun _ => ?_
    have hcurve (c : List CurvePoint) : (s.setCurve r c).ProveSound := hs
    exact setResult_proveSound (hcurve _) (not_running_of_completeFor hcomplete) (by simp) rfl

theorem discardProve_keepsProve {p : Port} {unit : Nat} (hs : s.ProveSound) (ht : execDiscardProve p unit s = .next t) :
    t.ProveSound := by
  unfold execDiscardProve at ht
  refine proveRequests.serve_run (fun s r hs _ => reply_ite_keeps (fun hc => ?_) (fun _ => hs)) hs ht
  exact setResult_proveSound hs (by simp [State.proveRunning, hc.1]) (by simp) rfl

theorem release_keepsProve {p : Port} {unit : Nat} (hs : s.ProveSound) (ht : execRelease p unit s = .next t) : t.ProveSound := by
  unfold execRelease at ht
  exact proveRequests.serve (fun s hs => withUnit_keeps hs fun u => reply_ite_keeps
    (fun _ => abortIf_proveSound (proveSound_congr hs (handover_prove s u)) _ _) (fun _ => hs)) hs ht

theorem clearClaims_prove (p : Port) (s : State) : (clearClaims p s).prove = s.prove := by
  rw [clearClaims_eq]
  refine units_foldl_keeps (P := fun t => t.prove = s.prove) (fun t u ht => ?_) units rfl
  split
  · exact (handover_prove t u).trans ht
  · exact ht

theorem clearStation_proveSound (hs : s.ProveSound) (p : Port) : (clearStation p s).ProveSound := by
  have habort := abortIf_proveSound (proveSound_congr hs (clearClaims_prove p s)) (s.provingPort p) .claim
  obtain ⟨g, c, x, h⟩ := voidSlots_touches p (abortIf (s.provingPort p) .claim (clearClaims p s))
  exact proveSound_congr (s := voidSlots p (abortIf (s.provingPort p) .claim (clearClaims p s)))
    (proveSound_congr habort (by rw [h])) rfl

theorem stationClear_keepsProve {p : Port} {unit : Nat} (hs : s.ProveSound) (ht : execStationClear p unit s = .next t) :
    t.ProveSound := by
  unfold execStationClear at ht
  exact proveRequests.serve (fun s hs => unitZero_keeps hs (clearStation_proveSound hs p)) hs ht

theorem risingEdge_keepsProve {r : Run} {c : Channel} {high : Bool} {stamp : Nat} (hs : s.ProveSound)
    (ht : execRisingEdge r c high stamp s = .next t) : t.ProveSound := by
  refine event_keeps (fun hs => ?_) hs ht
  have hcome : (s.comeTo stamp).ProveSound := elapse_proveSound hs _
  dsimp only
  split
  · exact onlineEdge_proveSound hcome r c high
  · exact proveSound_reads.of_frame (offlineEdge_frame r c _) (by decide) hcome

theorem passTimerExpiry_keepsProve (hs : s.ProveSound) (ht : execPassTimerExpiry s = .next t) : t.ProveSound := by
  refine event_keeps (fun hs => ?_) hs ht
  split
  · rename_i hdue
    exact abandonPass_sound hs (Bool.and_eq_true_iff.mp hdue).2 _
  · exact hs

theorem reset_proveSound : State.reset.ProveSound :=
  { idle := by decide, timer := by decide, working := by decide, d2 := nofun, attempts := nofun, passes := by decide }

/-- The restart ends a RUNNING prove. -/
theorem abortAtRestart_proveSound (hs : s.ProveSound) : (abortAtRestart (restartBlocks s)).ProveSound := by
  have hblocks : (restartBlocks s).prove = { s.prove with engine := .idle, timebase := 0, passTimer := none, working := none } := by
    unfold restartBlocks resumeAtRestart
    split <;> rfl
  have hpasses := hs.passes
  unfold abortAtRestart State.ProveSound
  split
  · exact { idle := by simp [hblocks], timer := by simp [hblocks], working := by simp [hblocks], d2 := by simp [hblocks],
            attempts := nofun, passes := by simpa [hblocks] using hpasses }
  · rename_i hnot
    have hstate : s.prove.result.state ≠ .running := by simpa [State.proveRunning, hblocks] using hnot
    rw [hblocks]
    exact { idle := by simp [hstate], timer := by simp, working := by simp, d2 := nofun, attempts := fun h => absurd h hstate
            passes := hpasses }

theorem startPart_keepsProve (intact : Bool) : Keeps State.ProveSound (startPart intact) := fun s hs => by
  unfold startPart
  split
  · refine runs_foldl_keeps (P := State.ProveSound)
      (fun t r ht => proveSound_reads.of_frame (restartPeriod_frame r t) (by decide) ht) runs (abortAtRestart_proveSound ?_)
    have hsettled := proveSound_reads.of_frame (settleArrivals_frame s) (by decide) hs
    exact proveSound_congr hsettled rfl
  · exact reset_proveSound

theorem prove_stepKept : StepKept [.prove] State.ProveSound where
  reads := proveSound_reads
  queue := by decide
  elapse n _ hs := elapse_proveSound hs n
  requests := proveRequests
  exec c s t hreach hplain hs ht := by
    cases c with
    | setService => exact setService_proveSound hs ht
    | setProver => exact setProver_proveSound hs ht
    | startProve => exact startProve_keepsProve hs ht
    | abortProve => exact abortProve_keepsProve hs ht
    | acceptProve => exact acceptProve_keepsProve hs ht
    | discardProve => exact discardProve_keepsProve hs ht
    | release => exact release_keepsProve hs ht
    | stationClear => exact stationClear_keepsProve hs ht
    | risingEdge => exact risingEdge_keepsProve hs ht
    | detectorActuation d stamp =>
      exact event_keeps (fun hs => detectorEvent_sound (elapse_proveSound hs _) d) hs
        (show execDetectorActuation d stamp s = .next t from ht)
    | passTimerExpiry => exact passTimerExpiry_keepsProve hs ht
    | partStart => exact partStart_keeps (startPart_keepsProve _ _) hs ht
    | refusedRequestFrame => exact absurd rfl (hplain _ _)
    | _ => exact absurd hreach Bool.false_ne_true

end Prove

/-- Settles O59: between passes the engine awaits D1, and it goes on with a pass, awaits the next, or the prove ends. -/
theorem proveStaysCoherent : Obligations.ProveStaysCoherent := fun _ _ => prove_stepKept.keeps_step

end Sys2Proof.Machine

/-! Postings: what a statement about the links has to stand so that every operation that posts notices keeps it,
and the form of the
notice sets. -/

namespace Sys2Proof.Machine

/-- The statement is about the links alone, and postings of the listed kinds keep it. -/
structure PostKept (ks : List NoticeKind) (P : State → Prop) : Prop where
  same : ∀ {s t : State}, P s → t.links = s.links → P t
  post : ∀ {s : State} (p : Port) {k : NoticeKind} (q : BitVec 8), k ∈ ks → P s → P (s.post p k q)

section Posting

variable {ks js : List NoticeKind} {P : State → Prop} {s t : State}

namespace PostKept

theorem sub (h : PostKept ks P) (hsub : js ⊆ ks) : PostKept js P := ⟨h.same, fun p _ q hk => h.post p q (hsub hk)⟩

theorem of_frame (h : PostKept ks P) {xs : List Item} (hframe : Frame xs s t) (hlinks : .links ∉ xs) (hs : P s) : P t :=
  h.same hs (hframe.same .links hlinks)

theorem postTo (h : PostKept ks P) {k : NoticeKind} (hk : k ∈ ks) (ps : PortSet) (q : BitVec 8) (hs : P s) :
    P (s.postTo ps k q) := by
  have hstep (l : List Port) : ∀ s, P s → P (l.foldl (fun s p => if ps.get p then s.post p k q else s) s) := by
    induction l with
    | nil => exact fun _ hs => hs
    | cons p l ih =>
      intro s hs
      refine ih _ ?_
      dsimp only
      split
      · exact h.post p q hk hs
      · exact hs
  exact hstep ports s hs

theorem postAll (h : PostKept ks P) {k : NoticeKind} (hk : k ∈ ks) (q : BitVec 8) (hs : P s) : P (s.postAll k q) :=
  h.same (h.postTo hk (.all true) q hs) rfl

/-! ## The Parcel Engine -/

theorem takeLooks (h : PostKept [.parcelStage] P) (n : Nat) : Keeps P (takeLooks n) := by
  induction n with
  | zero => exact fun s hs => h.same hs rfl
  | succ n ih =>
    intro s hs
    unfold Machine.takeLooks
    dsimp only
    split
    · refine ih _ ?_
      exact h.same hs rfl
    · split
      · exact h.same hs rfl
      · exact h.same hs rfl
      · refine h.postAll (by simp) _ ?_
        exact h.same hs rfl
      · exact h.same hs rfl
    all_goals exact h.same hs rfl

theorem takeNext (h : PostKept [.parcelStage] P) : Keeps P takeNext := h.takeLooks 9

theorem writeTicket (h : PostKept [.ticketReady] P) : Keeps P writeTicket := fun s hs => by
  unfold Machine.writeTicket
  split
  · exact hs
  · refine h.postTo (by simp) _ _ ?_
    exact h.same hs rfl

theorem closePortion (h : PostKept [.ticketReady] P) (r : Run) : Keeps P (closePortion r) := fun s hs => by
  have hmoved : P ((applyPendingK r s).setCalc r { (applyPendingK r s).calcOf r with target := (applyPendingK r s).offeredTarget }) :=
    h.of_frame (setCalc_frame ..) (by decide) (h.of_frame (applyPendingK_frame r s) (by decide) hs)
  unfold Machine.closePortion
  dsimp only
  split
  · exact hmoved
  · split
    · refine h.writeTicket _ ?_
      exact h.same hmoved rfl
    · exact h.same hmoved rfl

theorem writeIfNoneOwe (h : PostKept [.ticketReady] P) : Keeps P writeIfNoneOwe := fun s hs => by
  unfold Machine.writeIfNoneOwe
  split
  · exact hs
  · split
    · exact h.writeTicket s hs
    · exact hs

theorem startClosing (h : PostKept [.parcelStage, .ticketReady] P) (i : SlotId) (reason : CloseReason) (quiet : Option Run) :
    Keeps P (startClosing i reason quiet) := fun s hs => by
  have hticket : PostKept [.ticketReady] P := h.sub (by simp)
  have hbegun : P (beginClosing i reason s) := h.same hs rfl
  unfold Machine.startClosing
  refine (h.sub (by simp)).takeNext _ (hticket.writeIfNoneOwe _ ?_)
  split
  · exact hbegun
  · exact hticket.closePortion _ _ hbegun

theorem evaluatePermissive (h : PostKept [.parcelStage] P) (i : SlotId) : Keeps P (evaluatePermissive i) := fun s hs => by
  unfold Machine.evaluatePermissive
  dsimp only
  split
  · split
    · split
      · exact h.postAll (by simp) _ (h.same hs rfl)
      · split
        · exact h.postAll (by simp) _ (h.same hs rfl)
        · exact hs
    · exact hs
  · exact hs

theorem applyWatch (h : PostKept [.parcelStage] P) (a : Arrival) : Keeps P (applyWatch a) := fun s hs => by
  unfold Machine.applyWatch
  dsimp only
  split
  · exact h.same hs rfl
  · split
    · exact hs
    · split
      · exact h.postAll (by simp) _ (h.same hs rfl)
      · exact h.same hs rfl

theorem engineArrival (h : PostKept [.parcelStage, .ticketReady] P) (a : Arrival) : Keeps P (engineArrival a) := fun s hs => by
  have hstage : PostKept [.parcelStage] P := h.sub (by simp)
  have hassigned : P (assignArrival a s) := by
    unfold assignArrival
    split
    · exact hs
    · exact hstage.evaluatePermissive _ _ (h.same hs rfl)
  have hwatched := hstage.applyWatch a _ hassigned
  unfold Machine.engineArrival advanceClosing
  split
  · exact (h.sub (by simp)).closePortion _ _ hwatched
  · split
    · exact hwatched
    · split
      · exact h.startClosing _ _ _ _ hwatched
      · exact hwatched

theorem takeAtEngine (h : PostKept [.parcelStage, .ticketReady] P) (r : Run) : Keeps P (takeAtEngine r) := fun s hs => by
  unfold Machine.takeAtEngine
  split
  · exact hs
  · exact h.engineArrival _ _ (h.same hs rfl)

theorem takeArrivals (h : PostKept [.parcelStage, .ticketReady] P) (r : Run) : Keeps P (takeArrivals r) := fun s hs =>
  h.same (h.takeAtEngine r s hs) rfl

theorem settleArrivals (h : PostKept [.parcelStage, .ticketReady] P) : Keeps P settleArrivals := fun _ hs =>
  runs_foldl_keeps (P := P) (fun s r hs => h.takeArrivals r s hs) runs hs

theorem freeHold (h : PostKept [.parcelStage] P) : Keeps P freeHold := fun s hs => by
  unfold Machine.freeHold
  split
  · exact h.takeNext s hs
  · exact h.takeNext _ (h.same hs rfl)

theorem takeIfHead (h : PostKept [.parcelStage] P) (i : SlotId) : Keeps P (takeIfHead i) := fun s hs => by
  unfold Machine.takeIfHead
  split
  · exact h.takeNext s hs
  · exact hs

theorem voidSlots (h : PostKept [.parcelStage] P) (p : Port) : Keeps P (voidSlots p) := fun s hs => by
  unfold Machine.voidSlots
  dsimp only
  split
  · exact h.takeNext _ (h.same hs rfl)
  · exact h.same hs rfl

theorem closeIfOwing (h : PostKept [.ticketReady] P) (r : Run) : Keeps P (closeIfOwing r) := fun s hs => by
  unfold Machine.closeIfOwing
  split
  · exact hs
  · split
    · exact h.closePortion r s hs
    · exact hs

/-! ## Selections and periods -/

theorem select (h : PostKept [.liveDisagree] P) (l : LivePoint) (g : GradeId) : Keeps P (fun s => (select l g s).2) :=
    fun s hs => by
  obtain ⟨v, hv⟩ := setLiveItem_touches l { s.liveItem l with record := (s.liveItem l).record.after (Machine.select l g s).1 } s
  have hset : P (s.setLiveItem l { s.liveItem l with record := (s.liveItem l).record.after (Machine.select l g s).1 }) :=
    h.same hs (by rw [hv])
  change P (Machine.select l g s).2
  unfold Machine.select
  dsimp only
  split
  · exact h.postAll (by simp) _ hset
  · exact hset

end PostKept

/-- What each selection keeps, the three selections of a period close keep. -/
theorem gatherPeriod_keeps (h : ∀ l g, Keeps P (fun s => (select l g s).2)) (r : Run) (tMs : Nat) (restart : Bool) :
    Keeps P (fun s => (gatherPeriod r tMs restart s).2) := fun s hs => h _ _ _ (h _ _ _ (h _ _ s hs))

/-- What each selection keeps, the four selections of a pass end keep. -/
theorem gatherPass_keeps (h : ∀ l g, Keeps P (fun s => (select l g s).2)) (r : Run) (n tP : Nat) :
    Keeps P (fun s => (gatherPass r n tP s).2) := fun s hs => h _ _ _ (h _ _ _ (h _ _ _ (h _ _ s hs)))

namespace PostKept

theorem closePeriod (h : PostKept [.liveDisagree] P) (r : Run) (tMs : Nat) (restart : Bool) :
    Keeps P (closePeriod r tMs restart) :=
  fun s hs => h.same (gatherPeriod_keeps h.select r tMs restart s hs) rfl

theorem restartPeriod (h : PostKept [.liveDisagree] P) (r : Run) : Keeps P (fun s => restartPeriod s r) := fun s hs => by
  change P (Machine.restartPeriod s r)
  unfold Machine.restartPeriod
  split
  · exact h.same (h.closePeriod r _ true s hs) rfl
  · exact hs

theorem expirePeriod (h : PostKept [.parcelStage, .ticketReady, .liveDisagree] P) (r : Run) : Keeps P (expirePeriod r) :=
    fun s hs =>
  h.same ((h.sub (by simp)).closePeriod r _ false _ ((h.sub (by simp)).takeAtEngine r s hs)) rfl

/-! ## The Prove Engine -/

theorem endProve (h : PostKept [.proveEnd] P) (st : ProveState) (reason : Option ProveReason) : Keeps P (endProve st reason) :=
  fun s hs => by
  rw [endProve_eq]
  refine h.postAll (by simp) _ ?_
  obtain ⟨c, hc⟩ := restartProveHolds_touches { s with prove := endedProve st reason s }
  exact h.same hs (by rw [hc])

theorem abortIf (h : PostKept [.proveEnd] P) (b : Bool) (reason : ProveReason) : Keeps P (abortIf b reason) := fun s hs => by
  unfold Machine.abortIf
  split
  · exact h.endProve _ _ s hs
  · exact hs

theorem afterAbandon (h : PostKept [.proveEnd] P) : Keeps P afterAbandon := fun s hs => by
  have hreset : P (resetConsecutive s) := h.same hs rfl
  unfold Machine.afterAbandon
  dsimp only
  split
  · exact hreset
  · exact h.endProve _ _ _ hreset

theorem abandonPass (h : PostKept [.proveEnd] P) (reason : AbandonReason) : Keeps P (abandonPass reason) := fun _ hs =>
  h.afterAbandon _ (h.same hs rfl)

theorem afterValid (h : PostKept [.proveEnd] P) : Keeps P afterValid := fun s hs => by
  unfold Machine.afterValid
  dsimp only
  split
  · exact h.same hs rfl
  · split
    · exact h.endProve _ _ _ (h.same hs rfl)
    · split
      · exact h.same hs rfl
      · exact h.endProve _ _ _ (h.same hs rfl)

theorem strayD2 (h : PostKept [.proveEnd] P) : Keeps P strayD2 := fun s hs => by
  unfold Machine.strayD2
  dsimp only
  split
  · exact h.endProve _ _ _ (h.same hs rfl)
  · exact h.same hs rfl

theorem strayD1 (h : PostKept [.proveEnd] P) : Keeps P strayD1 := fun s hs => by
  unfold Machine.strayD1
  dsimp only
  split
  · exact h.endProve _ _ _ (h.same hs rfl)
  · split
    · exact h.same hs rfl
    · exact h.endProve _ _ _ (h.same hs rfl)

theorem detectorEvent (h : PostKept [.proveEnd] P) (d : Detector) : Keeps P (detectorEvent d) := fun s hs => by
  unfold Machine.detectorEvent
  split
  · exact hs
  · exact h.same hs rfl
  · exact h.strayD2 s hs
  · exact h.strayD1 s hs
  · exact h.same hs rfl
  · exact h.strayD1 s hs
  · exact h.strayD2 s hs

theorem passEnd (h : PostKept [.proveEnd, .liveDisagree] P) (u : ProveSetup) (n tP : Nat) : Keeps P (passEnd u n tP) :=
    fun s hs => by
  have hend : PostKept [.proveEnd] P := h.sub (by simp)
  have hgathered : P (gatherPass u.run n tP s).2 := gatherPass_keeps (h.sub (js := [.liveDisagree]) (by simp)).select u.run n tP s hs
  unfold Machine.passEnd
  dsimp only
  split
  · exact hend.afterAbandon _ (h.same hgathered rfl)
  · split
    · exact hend.afterValid _ (h.same hgathered rfl)
    · exact hend.afterAbandon _ (h.same hgathered rfl)

theorem provePulse (h : PostKept [.proveEnd, .liveDisagree] P) : Keeps P provePulse := fun s hs => by
  unfold Machine.provePulse
  split
  · exact h.same hs rfl
  · split
    · exact h.passEnd _ _ _ s hs
    · exact h.passEnd _ _ _ s hs
  · exact hs

theorem hand (h : PostKept [.proveEnd, .liveDisagree] P) (r : Run) (x : Handed) : Keeps P (hand r x) := fun s hs => by
  have hend : PostKept [.proveEnd] P := h.sub (by simp)
  unfold Machine.hand proveItem
  split
  · cases x with
    | pulse => exact h.provePulse s hs
    | missing =>
      dsimp only
      split
      · exact hend.abandonPass _ s hs
      · exact hs
    | reverse =>
      dsimp only
      split
      · exact hend.abandonPass _ s hs
      · exact hs
    | latchSet => exact hend.endProve _ _ s hs
  · exact hs

/-! ## Edges -/

theorem onlineEdge (h : PostKept [.proveEnd, .liveDisagree, .runFault, .reverseFlow] P) (r : Run) (c : Channel) (high : Bool) :
    Keeps P (onlineEdge r c high) := fun s hs => by
  have hhand := (h.sub (js := [.proveEnd, .liveDisagree]) (by simp)).hand r
  have hpulse : Keeps P (countPulse r) := fun s hs => hhand .pulse _ (h.same hs rfl)
  have hmissing (ch : Channel) : Keeps P (countMissing r ch) := fun s hs => by
    unfold countMissing
    dsimp only
    split
    · exact hhand _ _ (hhand _ _ (h.postAll (by simp) _ (h.same hs rfl)))
    · exact hhand _ _ (h.same hs rfl)
  have hreverse : Keeps P (countReverse r) := fun s hs => by
    refine hhand .reverse _ ?_
    split
    · exact h.postAll (by simp) _ (h.same hs rfl)
    · exact h.same hs rfl
  have hitem (i : EdgeItem) : Keeps P (countItem r i) := fun s hs => by
    cases i with
    | nothing => exact hs
    | forward => exact hpulse s hs
    | forwardMissingA => exact hpulse _ (hmissing .a s hs)
    | forwardMissingB => exact hpulse _ (hmissing .b s hs)
    | reversePulse => exact hreverse s hs
  exact hitem _ _ (h.same hs rfl)

/-! ## Claims -/

theorem handover (h : PostKept [.claimGranted] P) (u : UnitId) : Keeps P (fun s => handover s u) := fun s hs => by
  change P (Machine.handover s u)
  unfold Machine.handover
  split
  · exact h.same hs rfl
  · exact h.post _ _ (by simp) (h.same hs rfl)

theorem clearClaims (h : PostKept [.claimGranted] P) (p : Port) : Keeps P (clearClaims p) := fun s hs => by
  rw [clearClaims_eq]
  refine h.same (s := handOverHeld p s) (units_foldl_keeps (P := P) (fun s u hs => ?_) units hs) rfl
  split
  · exact h.handover u s hs
  · exact hs

theorem loseClaim (h : PostKept [.claimGranted, .claimLost] P) (u : UnitId) : Keeps P (loseClaim u) := fun s hs => by
  unfold Machine.loseClaim
  split
  · exact hs
  · split
    · exact (h.sub (js := [.claimGranted]) (by simp)).handover u _ (h.post _ _ (by simp) hs)
    · exact hs

/-! ## The run -/

theorem goOffline (h : PostKept [.parcelStage, .ticketReady, .liveDisagree, .proveEnd] P) (r : Run) : Keeps P (goOffline r) :=
  goOffline_keeps ((h.sub (by simp)).takeAtEngine r) (fun tMs => (h.sub (by simp)).closePeriod r tMs false)
    ((h.sub (by simp)).takeArrivals r) ((h.sub (by simp)).closeIfOwing r) (fun b => (h.sub (by simp)).abortIf b _)
    (fun s => h.of_frame (applyPendingK_frame r s) (by decide)) (fun s => h.of_frame (takeOffline_frame r s) (by decide))

theorem lapseRecord (h : PostKept [.runFault] P) (l : LivePoint) : Keeps P (lapseRecord l) := fun s hs => by
  unfold Machine.lapseRecord
  dsimp only
  split
  · obtain ⟨v, hv⟩ := setLiveItem_touches l { s.liveItem l with
      record := { (s.liveItem l).record with supply := .lapsed, holdTimer := none, liveFailed := true } } s
    rw [hv]
    split
    · exact h.same hs rfl
    · exact h.postAll (by simp) _ (h.same hs rfl)
  · exact hs

end PostKept

end Posting

end Sys2Proof.Machine

/-! Notice sets: what a posting and an acknowledgement leave of each kind, and that a kind which is not pending has
no qualifiers. -/

namespace Sys2Proof.Machine

/-! ## One kind of a notice set -/

section NoticeSet

variable (n : NoticeSet) (k : NoticeKind) (x : Notice)

@[simp] theorem NoticeSet.get_set_self : (n.set k x).get k = x := by cases k <;> rfl

theorem NoticeSet.get_set_ne {j : NoticeKind} (h : j ≠ k) : (n.set k x).get j = n.get j := by
  cases k <;> cases j <;> first | rfl | exact absurd rfl h

theorem NoticeSet.post_get (q : BitVec 8) (j : NoticeKind) :
    (n.post k q).get j = if j = k then { pending := true, quals := (n.get k).quals ||| q } else n.get j := by
  unfold NoticeSet.post
  split
  · rename_i h
    rw [h, NoticeSet.get_set_self]
  · exact NoticeSet.get_set_ne n k _ ‹_›

theorem mem_noticeKinds : k ∈ noticeKinds := by cases k <;> decide

theorem NoticeSet.ack_get (m : BitVec 10) : (n.ack m).get k = if inKinds m k then {} else n.get k := by
  have hfold (l : List NoticeKind) : ∀ n : NoticeSet, (l.foldl (fun n k => if inKinds m k then n.set k {} else n) n).get k
      = if k ∈ l ∧ inKinds m k = true then {} else n.get k := by
    induction l with
    | nil => simp
    | cons j l ih =>
      intro n
      rw [List.foldl_cons, ih]
      by_cases hk : k = j
      · subst hk
        by_cases hin : inKinds m k = true <;> simp [hin]
      · by_cases hin : inKinds m j = true <;> simp [hin, hk, NoticeSet.get_set_ne _ _ _ hk]
  rw [NoticeSet.ack, hfold]
  simp [mem_noticeKinds]

end NoticeSet

theorem post_link (s : State) (p q : Port) (k : NoticeKind) (x : BitVec 8) :
    (s.post p k x).link q = if q = p then { s.link p with notices := (s.link p).notices.post k x } else s.link q := by
  unfold State.post
  split
  · rename_i h
    rw [h, setLink_self]
  · exact setLink_ne s ‹_› _

theorem postAll_link (s : State) (q : Port) (k : NoticeKind) (x : BitVec 8) :
    (s.postAll k x).link q = { s.link q with notices := (s.link q).notices.post k x } := PerPort.get_map ..

/-! ## The notice sets at every step -/

section Notices

variable {s t : State}

theorem noticesSound_congr (h : s.NoticesSound) (hlinks : t.links = s.links) : t.NoticesSound := by
  unfold State.NoticesSound State.link at *
  rwa [hlinks]

theorem noticesSound_reads : Reads [.links] State.NoticesSound := fun _ _ h hs => noticesSound_congr hs (h .links (by simp))

/-- A link takes notices of a sound form. -/
theorem setLink_notices (h : s.NoticesSound) {p : Port} {l : Link}
    (hl : ∀ k, (l.notices.get k).pending = false → (l.notices.get k).quals = 0) : (s.setLink p l).NoticesSound := fun q k => by
  by_cases hq : q = p
  · subst hq
    rw [setLink_self]
    exact hl k
  · rw [setLink_ne s hq]
    exact h q k

theorem notices_posted (ks : List NoticeKind) : PostKept ks State.NoticesSound where
  same h hlinks := noticesSound_congr h hlinks
  post {s} p k q _ h := setLink_notices h fun j => by
    dsimp only
    rw [NoticeSet.post_get]
    split
    · exact nofun
    · exact h p j

theorem noticesRequests : RequestKept State.NoticesSound where
  renew p u s h := by
    obtain ⟨c, hc⟩ := renew_eq p u s
    change (renew p s u).NoticesSound
    rw [hc]
    exact noticesSound_congr h rfl
  queuePort p u s h := (notices_posted []).of_frame (queuePort_frame s p u) (by decide) h
  respond p x s h := setLink_notices h (h p)

/-! ## The commands -/

theorem setService_notices {p : Port} {unit service : Nat} (hs : s.NoticesSound)
    (ht : execSetService p unit service s = .next t) : t.NoticesSound := by
  unfold execSetService at ht
  refine noticesRequests.serve_run (fun s r hs _ => ?_) hs ht
  split
  · exact hs
  · rename_i v _
    refine reply_ite_keeps (fun _ => hs) fun _ => ?_
    cases v with
    | online => exact reply_ite_keeps (fun _ => noticesSound_reads.of_frame (goOnline_frame r s) (by decide) hs) (fun _ => hs)
    | offline => exact (notices_posted _).goOffline r s hs

theorem setKFactor_notices {p : Port} {unit k : Nat} (hs : s.NoticesSound) (ht : execSetKFactor p unit k s = .next t) :
    t.NoticesSound := by
  unfold execSetKFactor at ht
  refine noticesRequests.serve_run (fun s r hs _ => reply_ite_keeps (fun _ => hs) fun _ => reply_ite_keeps (fun _ => ?_) (fun _ => hs)) hs ht
  have hengine := (notices_posted _).takeAtEngine r s hs
  exact reply_ite_keeps (fun _ => noticesSound_congr hengine rfl) (fun _ => noticesSound_congr hengine rfl)

theorem armSlot_notices {p : Port} {unit slot : Nat} (hs : s.NoticesSound) (ht : execArmSlot p unit slot s = .next t) :
    t.NoticesSound := by
  unfold execArmSlot at ht
  refine noticesRequests.serve (fun s hs => withSlot_keeps hs fun i => ifReservedBy_keeps hs fun _ _ => ?_) hs ht
  split
  · exact hs
  · exact reply_ite_keeps (fun _ => (notices_posted _).takeIfHead i _ (noticesSound_congr hs rfl)) (fun _ => hs)

theorem cancelSlot_notices {p : Port} {unit slot : Nat} (hs : s.NoticesSound) (ht : execCancelSlot p unit slot s = .next t) :
    t.NoticesSound := by
  unfold execCancelSlot at ht
  refine noticesRequests.serve (fun s hs => withSlot_keeps hs fun i => reply_ite_keeps (fun _ => hs) fun _ =>
    reply_ite_keeps (fun _ => hs) fun _ => ?_) hs ht
  exact (notices_posted _).takeIfHead i _ (noticesSound_congr hs rfl)

theorem releaseHold_notices {p : Port} {unit : Nat} (hs : s.NoticesSound) (ht : execReleaseHold p unit s = .next t) :
    t.NoticesSound := by
  unfold execReleaseHold at ht
  exact noticesRequests.serve (fun s hs => unitZero_keeps hs (reply_ite_keeps (fun _ => (notices_posted _).freeHold s hs) (fun _ => hs)))
    hs ht

theorem cutParcel_notices {p : Port} {unit slot : Nat} (hs : s.NoticesSound) (ht : execCutParcel p unit slot s = .next t) :
    t.NoticesSound := by
  unfold execCutParcel at ht
  exact noticesRequests.serve (fun s hs => withSlot_keeps hs fun i => reply_ite_keeps (fun _ => hs) fun _ =>
    reply_ite_keeps (fun _ => hs) fun _ => reply_ite_keeps (fun _ => hs) fun _ => (notices_posted _).startClosing i _ none s hs) hs ht

theorem abortProve_notices {p : Port} {unit : Nat} (hs : s.NoticesSound) (ht : execAbortProve p unit s = .next t) :
    t.NoticesSound := by
  unfold execAbortProve at ht
  exact noticesRequests.serve (fun s hs => unitProver_keeps hs (noticesRequests.asHolder hs fun _ => reply_ite_keeps
    (fun _ => (notices_posted _).endProve _ _ s hs) (fun _ => hs))) hs ht

theorem release_notices {p : Port} {unit : Nat} (hs : s.NoticesSound) (ht : execRelease p unit s = .next t) : t.NoticesSound := by
  unfold execRelease at ht
  exact noticesRequests.serve (fun s hs => withUnit_keeps hs fun u => reply_ite_keeps
    (fun _ => (notices_posted _).abortIf _ _ _ ((notices_posted _).handover u s hs)) (fun _ => hs)) hs ht

theorem setPortMode_notices {p : Port} {unit width mask : Nat} (hs : s.NoticesSound)
    (ht : execSetPortMode p unit width mask s = .next t) : t.NoticesSound := by
  unfold execSetPortMode at ht
  refine noticesRequests.serve (fun s hs => unitZero_keeps hs ?_) hs ht
  split
  · exact setLink_notices hs (hs p)
  · exact hs

theorem ackNotices_notices {p : Port} {unit mask : Nat} (hs : s.NoticesSound) (ht : execAckNotices p unit mask s = .next t) :
    t.NoticesSound := by
  unfold execAckNotices at ht
  refine noticesRequests.serve (fun s hs => unitZero_keeps hs ?_) hs ht
  split
  · exact hs
  · refine setLink_notices hs fun k => ?_
    dsimp only
    rw [NoticeSet.ack_get]
    split
    · exact fun _ => rfl
    · exact hs p k

theorem stationClear_notices {p : Port} {unit : Nat} (hs : s.NoticesSound) (ht : execStationClear p unit s = .next t) :
    t.NoticesSound := by
  unfold execStationClear at ht
  refine noticesRequests.serve (fun s hs => unitZero_keeps hs (setLink_notices (p := p) ?_ fun k => ?_)) hs ht
  · exact (notices_posted _).voidSlots p _ ((notices_posted _).abortIf _ _ _ ((notices_posted _).clearClaims p s hs))
  · cases k <;> exact fun _ => rfl

theorem readOut_notices (p : Port) : Keeps State.NoticesSound (readOut p) := fun s hs => by
  unfold readOut
  split
  · exact hs
  · exact setLink_notices hs (hs p)

theorem elapse_notices (n : Nat) : Keeps State.NoticesSound (fun s => s.elapse n) := fun _ hs => noticesSound_congr hs rfl

theorem risingEdge_notices {r : Run} {c : Channel} {high : Bool} {stamp : Nat} (hs : s.NoticesSound)
    (ht : execRisingEdge r c high stamp s = .next t) : t.NoticesSound := by
  refine event_keeps (fun hs => ?_) hs ht
  dsimp only
  split
  · exact (notices_posted _).onlineEdge r c high _ (elapse_notices _ s hs)
  · exact noticesSound_reads.of_frame (offlineEdge_frame r c _) (by decide) (elapse_notices _ s hs)

theorem passTimerExpiry_notices (hs : s.NoticesSound) (ht : execPassTimerExpiry s = .next t) : t.NoticesSound := by
  refine event_keeps (fun hs => ?_) hs ht
  split
  · exact (notices_posted _).abandonPass _ s hs
  · exact hs

theorem periodExpiry_notices {r : Run} (hs : s.NoticesSound) (ht : execPeriodExpiry r s = .next t) : t.NoticesSound := by
  refine event_keeps (fun hs => ?_) hs ht
  split
  · exact (notices_posted _).expirePeriod r s hs
  · exact hs

/-- A start leaves the one notice that it posts, without qualifiers. -/
theorem started_notices {k : NoticeKind} (l : Link) (hl : l.notices = NoticeSet.set {} k { pending := true }) (j : NoticeKind) :
    (l.notices.get j).pending = false → (l.notices.get j).quals = 0 := by
  rw [hl]
  cases k <;> cases j <;> exact fun _ => rfl

theorem reset_noticesSound : State.reset.NoticesSound := fun p k => by
  have hlink : State.reset.link p = .started { retentionLost := { pending := true } } := PerPort.get_all ..
  rw [hlink]
  exact started_notices (k := .retentionLost) _ rfl k

theorem restartBlocks_link (s : State) (p : Port) : (restartBlocks s).link p = .started { restarted := { pending := true } } := by
  have hlinks : (restartBlocks s).links = .all (.started { restarted := { pending := true } }) := by
    unfold restartBlocks resumeAtRestart
    split <;> rfl
  rw [State.link, hlinks, PerPort.get_all]

theorem restart_notices (s : State) : (restart s).NoticesSound := by
  refine runs_foldl_keeps (P := State.NoticesSound) (fun s r hs => (notices_posted _).restartPeriod r s hs) runs ?_
  have hblocks : (restartBlocks s).NoticesSound := fun p k => by
    rw [restartBlocks_link]
    exact started_notices (k := .restarted) _ rfl k
  unfold abortAtRestart
  split
  · exact (notices_posted [.proveEnd]).postAll (by simp) 0 (noticesSound_congr hblocks rfl)
  · exact hblocks

theorem startPart_notices (intact : Bool) (s : State) : (startPart intact s).NoticesSound := by
  unfold startPart
  split
  · exact restart_notices _
  · exact reset_noticesSound

theorem lossOfSupply_notices (hs : s.NoticesSound) (ht : execLossOfSupply s = .next t) : t.NoticesSound := by
  refine event_keeps (fun hs => ?_) hs ht
  have hsettled := (notices_posted _).settleArrivals s hs
  dsimp only
  split
  · exact noticesSound_congr hsettled rfl
  · exact noticesSound_congr hsettled rfl

theorem notices_stepKept : StepKept [.links] State.NoticesSound where
  reads := noticesSound_reads
  queue := by decide
  elapse n := elapse_notices n
  requests := noticesRequests
  exec c s t hreach hplain hs ht := by
    cases c with
    | setService => exact setService_notices hs ht
    | setKFactor => exact setKFactor_notices hs ht
    | armSlot => exact armSlot_notices hs ht
    | cancelSlot => exact cancelSlot_notices hs ht
    | releaseHold => exact releaseHold_notices hs ht
    | cutParcel => exact cutParcel_notices hs ht
    | abortProve => exact abortProve_notices hs ht
    | release => exact release_notices hs ht
    | setPortMode => exact setPortMode_notices hs ht
    | ackNotices => exact ackNotices_notices hs ht
    | stationClear => exact stationClear_notices hs ht
    | responseReadout p => exact event_keeps (readOut_notices p s) hs (show event (readOut p) s = .next t from ht)
    | risingEdge => exact risingEdge_notices hs ht
    | detectorActuation d stamp =>
      exact event_keeps (act := fun s => detectorEvent d (s.comeTo stamp)) (fun hs =>
        (notices_posted _).detectorEvent d (s.comeTo stamp) (elapse_notices _ s hs)) hs
        (show execDetectorActuation d stamp s = .next t from ht)
    | passTimerExpiry => exact passTimerExpiry_notices hs ht
    | periodExpiry => exact periodExpiry_notices hs ht
    | incrementArrivalAtEngine r =>
      exact event_keeps ((notices_posted _).takeAtEngine r s) hs (show event (takeAtEngine r) s = .next t from ht)
    | liveHoldTimerExpiry l =>
      exact event_keeps ((notices_posted _).lapseRecord l s) hs (show event (lapseRecord l) s = .next t from ht)
    | holdTimerExpiry u =>
      exact event_keeps ((notices_posted _).loseClaim u s) hs (show event (loseClaim u) s = .next t from ht)
    | partStart => exact partStart_keeps (fun _ => startPart_notices _ s) hs ht
    | lossOfSupply => exact lossOfSupply_notices hs ht
    | refusedRequestFrame => exact absurd rfl (hplain _ _)
    | _ => exact absurd hreach Bool.false_ne_true

end Notices

end Sys2Proof.Machine

/-! The Live Value Table: what each operation leaves of one place, and that the supply state follows the fresh and
good reports. -/

namespace Sys2Proof.Machine

/-! ## One place of the table -/

section Place

variable {l l' : LivePoint} {s t : State} {x y : LiveItem}

theorem setLiveItem_ne (h : l' ≠ l) (x : LiveItem) (s : State) : (s.setLiveItem l x).liveItem l' = s.liveItem l' := by
  cases l with
  | run r q =>
    cases l' with
    | run r' q' =>
      by_cases hr : r' = r
      · subst hr
        cases q <;> cases q' <;> simp_all [State.setLiveItem, State.liveItem]
      · cases q <;> cases q' <;> simp [State.setLiveItem, State.liveItem, PerRun.get_set_ne hr]
    | proverTemp => cases q <;> rfl
    | proverPress => cases q <;> rfl
  | proverTemp =>
    cases l' with
    | run r' q' => cases q' <;> rfl
    | proverTemp => exact absurd rfl h
    | proverPress => rfl
  | proverPress =>
    cases l' with
    | run r' q' => cases q' <;> rfl
    | proverTemp => rfl
    | proverPress => exact absurd rfl h

theorem setLiveItem_eq (l : LivePoint) (x : LiveItem) (s : State) :
    s.setLiveItem l x = { s with live := (s.setLiveItem l x).live } := by
  obtain ⟨v, hv⟩ := setLiveItem_touches l x s
  rw [hv]

theorem setLiveItem_limits (l : LivePoint) (x : LiveItem) (s : State) (u : UnitId) :
    (s.setLiveItem l x).limits u = s.limits u := by
  cases l with
  | run r q =>
    cases u with
    | run r' =>
      by_cases hr : r' = r
      · subst hr
        cases q <;> simp [State.setLiveItem, State.limits]
      · cases q <;> simp [State.setLiveItem, State.limits, PerRun.get_set_ne hr]
    | prover => cases q <;> rfl
  | proverTemp => cases u <;> rfl
  | proverPress => cases u <;> rfl

theorem setLiveItem_tolBsw (l : LivePoint) (x : LiveItem) (s : State) (r : Run) :
    ((s.setLiveItem l x).live.runs.get r).tolBsw = (s.live.runs.get r).tolBsw := by
  cases l with
  | run r' q =>
    by_cases hr : r = r'
    · subst hr
      cases q <;> simp [State.setLiveItem]
    · cases q <;> simp [State.setLiveItem, PerRun.get_set_ne hr]
  | proverTemp => rfl
  | proverPress => rfl

/-! ## Fresh and good reports -/

theorem LiveItem.f_eq_nil_iff : x.f = [] ↔ ∀ p, freshGood (x.slots.get p) = none := by
  rw [List.eq_nil_iff_forall_not_mem]
  constructor
  · intro h p
    cases hp : freshGood (x.slots.get p) with
    | none => rfl
    | some v => exact absurd (LiveItem.mem_f.mpr hp) (h _)
  · rintro h ⟨p, v⟩ hmem
    rw [LiveItem.mem_f, h p] at hmem
    exact nomatch hmem

theorem LiveItem.f_congr (h : x.slots = y.slots) : x.f = y.f := by
  unfold LiveItem.f
  rw [h]

theorem LiveItem.f_ne_nil {p : Port} (h : (freshGood (x.slots.get p)).isSome = true) : x.f ≠ [] := fun hnil => by
  rw [LiveItem.f_eq_nil_iff.mp hnil p] at h
  exact nomatch h

/-- A slot that is not fresh and good adds nothing to F. -/
theorem LiveItem.f_ne_nil_of_set {p : Port} {r : Option Report} (hr : freshGood r = none)
    (h : { x with slots := x.slots.set p r }.f ≠ []) : x.f ≠ [] := fun hnil => h (LiveItem.f_eq_nil_iff.mpr fun q => by
  by_cases hq : q = p
  · subst hq
    simpa using hr
  · simpa [PerPort.get_set_ne hq] using LiveItem.f_eq_nil_iff.mp hnil q)

theorem freshGood_stopped {r : Report} (h : r.timer = none) : freshGood (some r) = none := by simp [freshGood, h]

theorem freshGood_suspect {r : Report} (h : r.health = .suspect) : freshGood (some r) = none := by simp [freshGood, h]

theorem freshGood_good {r : Report} {n : Nat} (h : r.health = .good) (ht : r.timer = some n) :
    freshGood (some r) = some r.value := by
  simp [freshGood, h, ht]

/-! ## The supply state (R64) -/

theorem followSupply_slots (hold : Nat) (p : Port) (x y : LiveItem) : (followSupply hold p x y).slots = y.slots := by
  unfold followSupply
  split
  · rfl
  · split <;> rfl

theorem followSupply_good {hold : Nat} {p : Port} (h : (freshGood (y.slots.get p)).isSome = true) :
    followSupply hold p x y = { y with record := { y.record with supply := .supplied, holdTimer := none } } := by
  rw [followSupply, if_pos h]

theorem followSupply_emptied {hold : Nat} {p : Port} (h : freshGood (y.slots.get p) = none) (hx : x.f ≠ []) (hy : y.f = []) :
    followSupply hold p x y = { y with record := { y.record with supply := .holding, holdTimer := some (Config.seconds hold) } } := by
  rw [followSupply, h, if_neg (by simp), if_pos ⟨hx, hy⟩]

theorem followSupply_else {hold : Nat} {p : Port} (h : freshGood (y.slots.get p) = none) (hxy : ¬ (x.f ≠ [] ∧ y.f = [])) :
    followSupply hold p x y = y := by
  rw [followSupply, h, if_neg (by simp), if_neg hxy]

theorem clearProverLatch_slots (l : LivePoint) (x y : LiveItem) : (clearProverLatch l x y).slots = y.slots := by
  unfold clearProverLatch
  split
  · rfl
  · split <;> rfl

theorem clearProverLatch_record (l : LivePoint) (x y : LiveItem) : (clearProverLatch l x y).record = { y.record with
    liveFailed := if liveUnit l = .prover ∧ y.record.supply = .supplied ∧ x.record.supply ≠ .supplied then false
      else y.record.liveFailed } := by
  unfold clearProverLatch
  cases hu : liveUnit l with
  | run r => simp
  | prover =>
    dsimp only
    split
    · simp [*]
    · simp [*]

end Place

/-! ## The table is sound (R60, R62, R64) -/

section Sound

variable {x : LiveItem} {q : Quantity} {s t : State}

theorem LiveItem.Sound.congr {y : LiveItem} (h : x.Sound q) (hslots : y.slots = x.slots)
    (hsupply : y.record.supply = x.record.supply)
    (htimer : y.record.holdTimer = x.record.holdTimer) : y.Sound q where
  supplied := by rw [hsupply, LiveItem.f_congr hslots]; exact h.supplied
  holding := by rw [hsupply, htimer]; exact h.holding
  values := by rw [hslots]; exact h.values

/-- The supply state follows a change of one slot. -/
theorem followSupply_sound (h : x.Sound q) {p : Port} {r : Report}
    (hr : (quantityRange q).1 ≤ r.value ∧ r.value ≤ (quantityRange q).2) (hold : Nat) :
    (followSupply hold p x { x with slots := x.slots.set p (some r) }).Sound q := by
  set y : LiveItem := { x with slots := x.slots.set p (some r) } with hy
  have hslot : y.slots.get p = some r := PerPort.get_set_self ..
  have hvalues : ∀ q' r', y.slots.get q' = some r' → (quantityRange q).1 ≤ r'.value ∧ r'.value ≤ (quantityRange q).2 := by
    intro q' r' hget
    by_cases hq : q' = p
    · subst hq
      obtain rfl := Option.some.inj (hslot.symm.trans hget)
      exact hr
    · rw [hy] at hget
      dsimp only at hget
      rw [PerPort.get_set_ne hq] at hget
      exact h.values q' r' hget
  cases hgood : freshGood (y.slots.get p) with
  | some v =>
    rw [followSupply_good (by simp [hgood])]
    exact ⟨iff_of_true rfl (LiveItem.f_ne_nil (p := p) (by simp [hgood])), by simp, hvalues⟩
  | none =>
    by_cases hempty : x.f ≠ [] ∧ y.f = []
    · rw [followSupply_emptied hgood hempty.1 hempty.2]
      exact ⟨iff_of_false nofun (not_not.mpr hempty.2), by simp, hvalues⟩
    · rw [followSupply_else hgood hempty]
      refine ⟨h.supplied.trans ⟨fun hx hnil => hempty ⟨hx, hnil⟩, fun hne => ?_⟩, h.holding, hvalues⟩
      exact LiveItem.f_ne_nil_of_set (hslot ▸ hgood) hne

theorem clearProverLatch_sound {l : LivePoint} {y : LiveItem} (h : y.Sound q) (x : LiveItem) : (clearProverLatch l x y).Sound q :=
  h.congr (clearProverLatch_slots ..) (by rw [clearProverLatch_record]) (by rw [clearProverLatch_record])

theorem freshGood_pass (n : Nat) (r : Option Report) : freshGood (r.map (Report.pass n)) = freshGood r := by
  cases r with
  | none => rfl
  | some r => simp [freshGood, Report.pass]

theorem LiveItem.pass_sound (h : x.Sound q) (n : Nat) : (x.pass n).Sound q where
  supplied := by
    have hf : (x.pass n).f = x.f := by
      unfold LiveItem.f LiveItem.pass
      simp only [PerPort.get_map, freshGood_pass]
    rw [hf]
    exact h.supplied
  holding := by simpa [LiveItem.pass] using h.holding
  values p r hr := by
    obtain ⟨r', hr', rfl⟩ := Option.map_eq_some_iff.mp ((PerPort.get_map ..).symm.trans hr)
    exact h.values p r' hr'

theorem LiveItem.f_of_all_none (r : SelRecord) : LiveItem.f { record := r, slots := .all none } = [] :=
  LiveItem.f_eq_nil_iff.mpr fun p => by rw [PerPort.get_all]; rfl

/-- Without a report a record is HOLDING or LAPSED. -/
theorem LiveItem.empty_sound {r : SelRecord} (hsupply : r.supply ≠ .supplied)
    (hholding : r.supply = .holding ↔ r.holdTimer.isSome = true) : LiveItem.Sound { record := r, slots := .all none } q where
  supplied := iff_of_false hsupply (not_not.mpr (LiveItem.f_of_all_none r))
  holding := hholding
  values p r hr := by
    rw [PerPort.get_all] at hr
    exact nomatch hr

theorem LiveItem.restart_sound (hold : Nat) (x : LiveItem) : (x.restart hold).Sound q := by
  unfold LiveItem.restart
  split
  · exact LiveItem.empty_sound (by simp) (by simp)
  · exact LiveItem.empty_sound (by simp) (by simp)

/-! ## The table at every step -/

theorem liveSound_congr (h : s.LiveSound) (hlive : t.live = s.live) : t.LiveSound := fun l => by
  rw [liveItem_congr l hlive]
  exact h l

theorem liveSound_reads : Reads [.live] State.LiveSound := fun _ _ h hs => liveSound_congr hs (h .live (by simp))

theorem liveRequests : RequestKept State.LiveSound := liveSound_reads.requestKept (by decide) (by decide)

theorem setLiveItem_sound (h : s.LiveSound) {l : LivePoint} (hx : x.Sound (liveQuantity l)) : (s.setLiveItem l x).LiveSound :=
    fun l' => by
  by_cases hl : l' = l
  · subst hl
    rwa [setLiveItem_self]
  · rw [setLiveItem_ne hl]
    exact h l'

theorem select_sound (l : LivePoint) (g : GradeId) : Keeps State.LiveSound (fun s => (select l g s).2) := fun s h => by
  refine liveSound_congr (setLiveItem_sound h (l := l)
    (x := { s.liveItem l with record := (s.liveItem l).record.after (select l g s).1 }) ((h l).congr rfl rfl rfl)) ?_
  exact select_live l g s

theorem closePeriod_liveSound (r : Run) (tMs : Nat) (restart : Bool) : Keeps State.LiveSound (closePeriod r tMs restart) :=
    fun s h =>
  liveSound_congr (gatherPeriod_keeps select_sound r tMs restart s h) rfl

theorem restartPeriod_liveSound (r : Run) : Keeps State.LiveSound (fun s => restartPeriod s r) := fun s h => by
  change (restartPeriod s r).LiveSound
  unfold restartPeriod
  split
  · exact liveSound_congr (closePeriod_liveSound r _ true s h) rfl
  · exact h

/-- A pass end reaches the table by its selections alone. -/
theorem passEnd_frame (u : ProveSetup) (n tP : Nat) (s : State) :
    Frame [.prove, .claims, .links] (gatherPass u.run n tP s).2 (passEnd u n tP s) := by
  have happend (x : PassRecord) (s : State) : Frame [.prove, .claims, .links] s (appendPass x s) := (prove_frame ..).mono (by decide)
  unfold passEnd
  dsimp only
  split
  · exact (happend _ _).trans (afterAbandon_touches _).frame
  · split
    · exact (happend _ _).trans (afterValid_touches _).frame
    · exact (happend _ _).trans (afterAbandon_touches _).frame

theorem passEnd_liveSound (u : ProveSetup) (n tP : Nat) : Keeps State.LiveSound (passEnd u n tP) := fun s h =>
  liveSound_reads.of_frame (passEnd_frame u n tP s) (by decide) (gatherPass_keeps select_sound u.run n tP s h)

theorem hand_liveSound (r : Run) (x : Handed) : Keeps State.LiveSound (hand r x) := fun s h => by
  unfold hand proveItem
  split
  · cases x with
    | pulse =>
      change (provePulse s).LiveSound
      unfold provePulse
      split
      · exact h
      · split
        · exact passEnd_liveSound _ _ _ s h
        · exact passEnd_liveSound _ _ _ s h
      · exact h
    | missing =>
      dsimp only
      split
      · exact liveSound_reads.of_frame (abandonPass_touches ..).frame (by decide) h
      · exact h
    | reverse =>
      dsimp only
      split
      · exact liveSound_reads.of_frame (abandonPass_touches ..).frame (by decide) h
      · exact h
    | latchSet => exact liveSound_reads.of_frame (ProveChange.frame (endProve_touches ..)) (by decide) h
  · exact h

theorem onlineEdge_liveSound (r : Run) (c : Channel) (high : Bool) : Keeps State.LiveSound (onlineEdge r c high) := fun s h => by
  have hpulse : Keeps State.LiveSound (countPulse r) := fun s h => hand_liveSound r .pulse (s.setChecker r (s.checker r).pulse) h
  have hmissing (ch : Channel) : Keeps State.LiveSound (countMissing r ch) := fun s h => by
    unfold countMissing
    dsimp only
    split
    · refine hand_liveSound r .latchSet _ (hand_liveSound r .missing _ ?_)
      exact liveSound_congr h rfl
    · refine hand_liveSound r .missing _ ?_
      exact liveSound_congr h rfl
  have hreverse : Keeps State.LiveSound (countReverse r) := fun s h => by
    refine hand_liveSound r .reverse _ ?_
    split
    · exact liveSound_congr h rfl
    · exact liveSound_congr h rfl
  have hitem (i : EdgeItem) : Keeps State.LiveSound (countItem r i) := fun s h => by
    cases i with
    | nothing => exact h
    | forward => exact hpulse s h
    | forwardMissingA => exact hpulse _ (hmissing .a s h)
    | forwardMissingB => exact hpulse _ (hmissing .b s h)
    | reversePulse => exact hreverse s h
  exact hitem _ _ (liveSound_congr h rfl)

theorem elapse_liveSound (n : Nat) : Keeps State.LiveSound (fun s => s.elapse n) := fun s h l => by
  change ((s.elapse n).liveItem l).Sound _
  rw [elapse_liveItem]
  exact LiveItem.pass_sound (h l) n

/-! ## The commands -/

theorem setService_liveSound {p : Port} {unit service : Nat} (hs : s.LiveSound)
    (ht : execSetService p unit service s = .next t) : t.LiveSound := by
  unfold execSetService at ht
  refine liveRequests.serve_run (fun s r hs _ => ?_) hs ht
  split
  · exact hs
  · rename_i v _
    refine reply_ite_keeps (fun _ => hs) fun _ => ?_
    cases v with
    | online => exact reply_ite_keeps (fun _ => liveSound_reads.of_frame (goOnline_frame r s) (by decide) hs) (fun _ => hs)
    | offline =>
      exact goOffline_keeps (fun s => liveSound_reads.of_frame (takeAtEngine_frame s r) (by decide))
        (fun tMs => closePeriod_liveSound r tMs false) (fun s => liveSound_reads.of_frame (takeArrivals_frame s r) (by decide))
        (fun s => liveSound_reads.of_frame (closeIfOwing_frame r s) (by decide))
        (fun b s => liveSound_reads.of_frame (abortIf_frame b .offline s) (by decide))
        (fun s => liveSound_reads.of_frame (applyPendingK_frame r s) (by decide))
        (fun s => liveSound_reads.of_frame (takeOffline_frame r s) (by decide)) s hs

theorem clearLiveLatches_liveItem (r : Run) (s : State) (l : LivePoint) : (clearLiveLatches r s).liveItem l =
    if liveUnit l = .run r then (s.liveItem l).clearLatch else s.liveItem l := by
  cases l with
  | run r' q =>
    by_cases hr : r' = r
    · subst hr
      cases q <;> simp [clearLiveLatches, State.liveItem, liveUnit]
    · cases q <;> simp [clearLiveLatches, State.liveItem, liveUnit, hr, PerRun.get_set_ne hr]
  | proverTemp => rfl
  | proverPress => rfl

theorem clearRunFault_liveSound {p : Port} {unit : Nat} (hs : s.LiveSound) (ht : execClearRunFault p unit s = .next t) :
    t.LiveSound := by
  unfold execClearRunFault at ht
  refine liveRequests.serve_run (fun s r hs _ => ?_) hs ht
  intro l
  have hitem := clearLiveLatches_liveItem r (s.setChecker r { s.checker r with failed := false, windowPulses := 0, windowErrors := 0 }) l
  change (State.liveItem (clearLiveLatches r _) l).Sound _
  rw [hitem]
  split
  · exact (hs l).congr rfl rfl rfl
  · exact hs l

theorem quantityRange_le (q : Quantity) : (quantityRange q).1 ≤ (quantityRange q).2 := by cases q <;> decide

theorem clampTo_eq (q : Quantity) (v : Int) :
    clampTo (quantityRange q) v = max (quantityRange q).1 (min (quantityRange q).2 v) := by
  have hrange := quantityRange_le q
  unfold clampTo
  split
  · omega
  · split <;> omega

/-- A value brought to its range is in it (R62). -/
theorem clampTo_range (q : Quantity) (v : Int) :
    (quantityRange q).1 ≤ clampTo (quantityRange q) v ∧ clampTo (quantityRange q) v ≤ (quantityRange q).2 := by
  have hrange := quantityRange_le q
  rw [clampTo_eq]
  omega

theorem storeReport_sound (l : LivePoint) (p : Port) (value : Int) (h : Health) :
    Keeps State.LiveSound (storeReport l p value h) :=
  fun _ hs => setLiveItem_sound hs (clearProverLatch_sound (followSupply_sound (hs l) (clampTo_range ..) _) _)

theorem reportLive_liveSound {p : Port} {unit quantity health : Nat} {value : Int} (hs : s.LiveSound)
    (ht : execReportLive p unit quantity value health s = .next t) : t.LiveSound := by
  unfold execReportLive at ht
  refine liveRequests.serve (fun s hs => withUnit_keeps hs fun u => ?_) hs ht
  split
  · exact reply_ite_keeps (fun _ => storeReport_sound _ _ _ _ s hs) (fun _ => storeReport_sound _ _ _ _ s hs)
  · exact hs

theorem setLimits_liveItem (u : UnitId) (x : LiveLimits) (tol : Nat) (s : State) (l : LivePoint) :
    (setLimits u x tol s).liveItem l = s.liveItem l := by
  cases u with
  | run r =>
    cases l with
    | run r' q =>
      by_cases hr : r' = r
      · subst hr
        cases q <;> simp [setLimits, State.liveItem]
      · cases q <;> simp [setLimits, State.liveItem, PerRun.get_set_ne hr]
    | proverTemp => rfl
    | proverPress => rfl
  | prover =>
    cases l with
    | run r' q => cases q <;> rfl
    | proverTemp => rfl
    | proverPress => rfl

theorem setLiveLimits_liveSound {p : Port} {unit st hold tolT tolP tolB pref : Nat} (hs : s.LiveSound)
    (ht : execSetLiveLimits p unit st hold tolT tolP tolB pref s = .next t) : t.LiveSound := by
  unfold execSetLiveLimits at ht
  refine liveRequests.serve (fun s hs => withUnit_keeps hs fun u => liveRequests.asHolder hs fun _ =>
    reply_ite_keeps (fun _ => hs) fun _ => ?_) hs ht
  split
  · exact hs
  · refine reply_ite_keeps (fun _ l => ?_) (fun _ => hs)
    change (State.liveItem (setLimits u _ tolB s) l).Sound _
    rw [setLimits_liveItem]
    exact hs l

theorem staleSlot_sound (l : LivePoint) (p : Port) : Keeps State.LiveSound (staleSlot l p) := fun s hs => by
  obtain ⟨r, hr, -, h⟩ | ⟨-, h⟩ := staleSlot_cases l p s
  · rw [h]
    exact setLiveItem_sound hs (followSupply_sound (r := { r with timer := none }) (hs l) ((hs l).values p r hr) _)
  · rwa [h]

theorem lapseRecord_sound (l : LivePoint) : Keeps State.LiveSound (lapseRecord l) := fun s hs => by
  unfold lapseRecord
  dsimp only
  split
  · rename_i hdue
    have hheld := (hs l).holding.mpr (by rw [(timerDue_iff _).mp hdue]; rfl)
    have hf : ¬ (s.liveItem l).f ≠ [] := fun hne => nomatch ((hs l).supplied.mpr hne).symm.trans hheld
    have hset : (s.setLiveItem l { s.liveItem l with
        record := { (s.liveItem l).record with supply := .lapsed, holdTimer := none, liveFailed := true } }).LiveSound :=
      setLiveItem_sound hs ⟨iff_of_false nofun hf, by simp, (hs l).values⟩
    split
    · exact hset
    · exact liveSound_congr hset rfl
  · exact hs

theorem risingEdge_liveSound {r : Run} {c : Channel} {high : Bool} {stamp : Nat} (hs : s.LiveSound)
    (ht : execRisingEdge r c high stamp s = .next t) : t.LiveSound := by
  refine event_keeps (fun hs => ?_) hs ht
  have hcome : (s.comeTo stamp).LiveSound := elapse_liveSound _ s hs
  dsimp only
  split
  · exact onlineEdge_liveSound r c high _ hcome
  · exact liveSound_reads.of_frame (offlineEdge_frame r c _) (by decide) hcome

theorem expirePeriod_liveSound (r : Run) : Keeps State.LiveSound (expirePeriod r) := fun s hs =>
  liveSound_congr (closePeriod_liveSound r _ false _ (liveSound_reads.of_frame (takeAtEngine_frame s r) (by decide) hs)) rfl

theorem periodExpiry_liveSound {r : Run} (hs : s.LiveSound) (ht : execPeriodExpiry r s = .next t) : t.LiveSound := by
  refine event_keeps (fun hs => ?_) hs ht
  split
  · exact expirePeriod_liveSound r s hs
  · exact hs

theorem reset_liveItem (l : LivePoint) : State.reset.liveItem l = .cold := by
  cases l with
  | run r q => cases r <;> cases q <;> rfl
  | proverTemp => rfl
  | proverPress => rfl

theorem reset_liveSound : State.reset.LiveSound := fun l => by
  rw [reset_liveItem]
  exact LiveItem.empty_sound (by simp) (by simp)

theorem restartBlocks_live (s : State) : (restartBlocks s).live = s.live.restart := by
  unfold restartBlocks resumeAtRestart
  split <;> rfl

theorem restartBlocks_liveItem (s : State) (l : LivePoint) :
    (restartBlocks s).liveItem l = (s.liveItem l).restart (s.limits (liveUnit l)).hold := by
  unfold State.liveItem State.limits
  rw [restartBlocks_live]
  cases l with
  | run r q => cases q <;> simp [Live.restart, liveUnit]
  | proverTemp => rfl
  | proverPress => rfl

theorem startPart_liveSound (intact : Bool) (s : State) : (startPart intact s).LiveSound := by
  unfold startPart
  split
  · refine runs_foldl_keeps (P := State.LiveSound) (fun t r ht => restartPeriod_liveSound r t ht) runs ?_
    refine liveSound_reads.of_frame (abortAtRestart_frame _) (by decide) fun l => ?_
    rw [restartBlocks_liveItem]
    exact LiveItem.restart_sound ..
  · exact reset_liveSound

theorem live_stepKept : StepKept [.live] State.LiveSound where
  reads := liveSound_reads
  queue := by decide
  elapse n := elapse_liveSound n
  requests := liveRequests
  exec c s t hreach hplain hs ht := by
    cases c with
    | setService => exact setService_liveSound hs ht
    | clearRunFault => exact clearRunFault_liveSound hs ht
    | reportLive => exact reportLive_liveSound hs ht
    | setLiveLimits => exact setLiveLimits_liveSound hs ht
    | risingEdge => exact risingEdge_liveSound hs ht
    | detectorActuation d stamp =>
      refine event_keeps (fun hs => ?_) hs (show execDetectorActuation d stamp s = .next t from ht)
      exact liveSound_reads.of_frame (detectorEvent_touches ..).frame (by decide) (elapse_liveSound _ s hs)
    | periodExpiry => exact periodExpiry_liveSound hs ht
    | freshnessTimerExpiry l p => exact event_keeps (staleSlot_sound l p s) hs (show event (staleSlot l p) s = .next t from ht)
    | liveHoldTimerExpiry l => exact event_keeps (lapseRecord_sound l s) hs (show event (lapseRecord l) s = .next t from ht)
    | partStart => exact partStart_keeps (fun _ => startPart_liveSound _ s) hs ht
    | refusedRequestFrame => exact absurd rfl (hplain _ _)
    | _ => exact absurd hreach Bool.false_ne_true

end Sound

/-- Settles O56: the supply state follows each change of a slot and each timer, and no notice gets qualifiers without pending. -/
theorem recordsStayInForm : Obligations.RecordsStayInForm :=
  ⟨fun _ _ => live_stepKept.keeps_step, fun _ _ => notices_stepKept.keeps_step⟩

/-- Settles O53: the reset state is sound in each of its parts. -/
theorem resetIsSound : Obligations.ResetIsSound where
  checkers := reset_checkersSound
  calculators := reset_calculatorsSound
  tables := reset_tablesSound
  live := reset_liveSound
  bank := reset_bankSound
  ring := reset_ringSound
  prove := reset_proveSound
  claims := reset_claimsSound
  notices := reset_noticesSound

end Sys2Proof.Machine

/-! REPORT LIVE, the two timers of the Live Value Table, and SET LIVE LIMITS. -/

namespace Sys2Proof.Machine

/-! ## Requests on any unit -/

section UnitRequests

variable {p : Port} {kind unit : Nat} {s t : State} {st : Status} {b : Body} {u : UnitId}

/-- A request that names a unit is answered as the block replies. -/
theorem unit_request {act : State → UnitId → Reply} (hsup : s.retention.supplied = true)
    (hact : act (renewed p [u] s) u = ⟨t, st, b⟩) :
    serve p kind (namedUnits (unitNumber u)) (fun s => withUnit (unitNumber u) s fun u => act s u) s = .next (answered p st kind b t) := by
  rw [serve_supplied hsup, namedUnits_unitNumber]
  simp only [withUnit, unitOf_unitNumber, hact]

/-- A request on a unit from its holder is answered as the block replies. -/
theorem held_request {act : State → UnitId → Reply} (hsup : s.retention.supplied = true) (hheld : s.holds p u = true)
    (hact : act (renewed p [u] s) u = ⟨t, st, b⟩) :
    serve p kind (namedUnits (unitNumber u)) (fun s => withUnit (unitNumber u) s fun u => asHolder p u s (act s u)) s
      = .next (answered p st kind b t) := by
  refine unit_request hsup ?_
  rw [asHolder, renewed_holds, if_pos hheld, hact]

/-- A unit field of no unit is refused with RANGE. -/
theorem unit_request_range {act : State → UnitId → Reply} (hsup : s.retention.supplied = true) (hunit : unitOf unit = none) :
    serve p kind (namedUnits unit) (fun s => withUnit unit s fun u => act s u) s
      = .next (answered p .range kind .empty (renewed p (namedUnits unit) s)) := by
  rw [serve_supplied hsup]
  simp only [withUnit, hunit, refuse]

theorem unitOf_eq_none (h : unit = 0 ∨ 5 < unit) : unitOf unit = none := by
  match unit, h with
  | 0, _ => rfl
  | n + 6, _ => rfl

theorem unitOf_eq_some (h1 : unit ≠ 0) (h2 : unit ≤ 5) : ∃ u, unitNumber u = unit := by
  match unit, h1, h2 with
  | 1, _, _ => exact ⟨.run .r1, rfl⟩
  | 2, _, _ => exact ⟨.run .r2, rfl⟩
  | 3, _, _ => exact ⟨.run .r3, rfl⟩
  | 4, _, _ => exact ⟨.run .r4, rfl⟩
  | 5, _, _ => exact ⟨.prover, rfl⟩

end UnitRequests

/-! ## A report -/

section Report

variable (l : LivePoint) (p : Port) (value : Int) (h : Health) (s : State)

/-- The report that R62 stores: in its range, fresh, with the terminal time. -/
def storedReport : Report where
  value := clampTo (quantityRange (liveQuantity l)) value
  health := h
  clamped := decide (clampTo (quantityRange (liveQuantity l)) value ≠ value)
  reportTime := s.terminalTime
  timer := some (Config.seconds (s.limits (liveUnit l)).staleness)

/-- The place with the report in its slot, before the supply state follows. -/
def slotted : LiveItem := { s.liveItem l with slots := (s.liveItem l).slots.set p (some (storedReport l value h s)) }

/-- The place that a report leaves. -/
def storedItem : LiveItem :=
  clearProverLatch l (s.liveItem l) (followSupply (s.limits (liveUnit l)).hold p (s.liveItem l) (slotted l p value h s))

theorem storeReport_eq : storeReport l p value h s = s.setLiveItem l (storedItem l p value h s) := rfl

theorem storedItem_slots : (storedItem l p value h s).slots = (s.liveItem l).slots.set p (some (storedReport l value h s)) := by
  rw [storedItem, clearProverLatch_slots, followSupply_slots]
  rfl

theorem slotted_get : (slotted l p value h s).slots.get p = some (storedReport l value h s) := PerPort.get_set_self ..

theorem storedItem_f : (storedItem l p value h s).f = (slotted l p value h s).f :=
  LiveItem.f_congr (storedItem_slots l p value h s)

variable {l p value h s}

/-- A GOOD report makes the record SUPPLIED. -/
theorem storedItem_good (hgood : h = .good) : (storedItem l p value h s).record = { (s.liveItem l).record with
    supply := .supplied, holdTimer := none
    liveFailed := if liveUnit l = .prover ∧ (s.liveItem l).record.supply ≠ .supplied then false
      else (s.liveItem l).record.liveFailed } := by
  have hfresh : (freshGood ((slotted l p value h s).slots.get p)).isSome = true := by
    rw [slotted_get, freshGood_good (r := storedReport l value h s) hgood rfl]
    rfl
  rw [storedItem, clearProverLatch_record, followSupply_good hfresh]
  simp [slotted]

theorem slotted_suspect (hsus : h = .suspect) : freshGood ((slotted l p value h s).slots.get p) = none := by
  rw [slotted_get]
  exact freshGood_suspect hsus

/-- A SUSPECT report that empties F starts the live hold timer. -/
theorem storedItem_emptied (hsus : h = .suspect) (hf : (s.liveItem l).f ≠ []) (hempty : (storedItem l p value h s).f = []) :
    (storedItem l p value h s).record = { (s.liveItem l).record with
      supply := .holding, holdTimer := some (Config.seconds (s.limits (liveUnit l)).hold) } := by
  rw [storedItem_f] at hempty
  rw [storedItem, clearProverLatch_record, followSupply_emptied (slotted_suspect hsus) hf hempty]
  simp [slotted]

/-- Every other SUSPECT report leaves the record. -/
theorem storedItem_stands (hsus : h = .suspect) (hf : (s.liveItem l).f = [] ∨ (storedItem l p value h s).f ≠ []) :
    (storedItem l p value h s).record = (s.liveItem l).record := by
  rw [storedItem_f] at hf
  rw [storedItem, clearProverLatch_record, followSupply_else (slotted_suspect hsus) (by tauto)]
  have hrecord : (slotted l p value h s).record = (s.liveItem l).record := rfl
  simp [hrecord]

end Report

/-! ## REPORT LIVE -/

theorem livePointOf_unit {u : UnitId} {quantity : Nat} (h : 2 < quantity ∨ (u = .prover ∧ 1 < quantity)) :
    livePointOf u quantity = none := by
  cases u with
  | run r =>
    match quantity, h with
    | n + 3, _ => rfl
    | 0, h | 1, h | 2, h => simp at h
  | prover =>
    match quantity, h with
    | n + 2, _ => rfl
    | 0, h | 1, h => simp at h

theorem healthOf_eq_none {n : Nat} (h : 1 < n) : healthOf n = none := by
  match n, h with
  | _ + 2, _ => rfl

theorem healthOf_code (h : Health) : healthOf (if h = .good then 0 else 1) = some h := by cases h <;> rfl

theorem seconds_ne_one (n : Nat) : Config.seconds n ≠ 1 := by
  unfold Config.seconds Config.ticksPerSecond
  omega

theorem staleSlot_of_not_due {l : LivePoint} {p : Port} {s : State}
    (h : ∀ r, (s.liveItem l).slots.get p = some r → r.timer ≠ some 1) : staleSlot l p s = s := by
  obtain ⟨r, hr, htimer, -⟩ | ⟨-, hstands⟩ := staleSlot_cases l p s
  · exact absurd htimer (h r hr)
  · exact hstands

/-- A report as the link gives it. -/
theorem exec_reportLive {p : Port} {l : LivePoint} {quantity : Nat} {value : Int} {h : Health} {s : State}
    (hsup : s.retention.supplied = true) (hpoint : livePointOf (liveUnit l) quantity = some l) :
    exec (.reportLive p (unitNumber (liveUnit l)) quantity value (if h = .good then 0 else 1)) s = .next (answered p
      (if clampTo (quantityRange (liveQuantity l)) value = value then .ok else .okClamped) 13 .empty
      (storeReport l p value h (renewed p [liveUnit l] s))) := by
  show execReportLive .. = _
  unfold execReportLive
  refine unit_request hsup ?_
  simp only [hpoint, healthOf_code]
  split <;> rfl

theorem exec_reportLive_range {p : Port} {unit quantity health : Nat} {value : Int} {s : State}
    (hsup : s.retention.supplied = true)
    (hfield : unit = 0 ∨ 5 < unit ∨ 2 < quantity ∨ (unit = 5 ∧ 1 < quantity) ∨ 1 < health) :
    exec (.reportLive p unit quantity value health) s = .next (answered p .range 13 .empty (renewed p (namedUnits unit) s)) := by
  show execReportLive .. = _
  unfold execReportLive
  by_cases hunit : unit = 0 ∨ 5 < unit
  · exact unit_request_range hsup (unitOf_eq_none hunit)
  · obtain ⟨u, rfl⟩ := unitOf_eq_some (unit := unit) (by omega) (by omega)
    refine (unit_request (t := renewed p [u] s) (st := .range) (b := .empty) hsup ?_).trans (by rw [namedUnits_unitNumber])
    by_cases hhealth : 1 < health
    · rw [healthOf_eq_none hhealth]
      cases livePointOf u quantity <;> rfl
    · have hprover : unitNumber u = 5 → u = .prover := by
        cases u with
        | run r => cases r <;> exact nofun
        | prover => exact fun _ => rfl
      rw [livePointOf_unit (by tauto)]
      rfl

/-- Settles O28: the report goes into its slot, and the supply state and the prover's latch follow it. -/
theorem reportIsStored : Obligations.ReportIsStored := by
  refine ⟨fun p l quantity value h s hsup hpoint => ?_, fun p unit quantity value health s hsup hfield => exec_reportLive_range hsup hfield⟩
  set n := renewed p [liveUnit l] s with hn
  have hitem (l' : LivePoint) : n.liveItem l' = s.liveItem l' := renewed_liveItem ..
  have hlimits (u : UnitId) : n.limits u = s.limits u := renewed_limits ..
  refine ⟨storeReport l p value h n, ?_⟩
  have hself : (storeReport l p value h n).liveItem l = storedItem l p value h n := setLiveItem_self ..
  have hslots : ((storeReport l p value h n).liveItem l).slots = (s.liveItem l).slots.set p (some (storedReport l value h n)) := by
    rw [hself, storedItem_slots, hitem]
  have hgood (hgood : h = .good) : ((storeReport l p value h n).liveItem l).record = { (s.liveItem l).record with
      supply := .supplied, holdTimer := none
      liveFailed := if liveUnit l = .prover ∧ (s.liveItem l).record.supply ≠ .supplied then false
        else (s.liveItem l).record.liveFailed } := by
    rw [hself, storedItem_good hgood, hitem]
  intro a
  have hanswer (l' : LivePoint) : a.liveItem l' = (storeReport l p value h n).liveItem l' := liveItem_congr l' rfl
  have hasup : a.retention.supplied = true := by
    simpa [a, answered, n] using hsup
  refine ⟨?_, ?_, fun hg => ?_, ?_, fun q hq => ?_, fun l' hl => ?_, fun u => ?_, fun r => ?_, hgood, fun hsus hf hempty => ?_,
    fun hsus hf => ?_⟩
  · rw [exec_reportLive hsup hpoint, storeReport_eq, setLiveItem_eq, clampTo_eq]
    rfl
  · have hdue : staleSlot l p a = a := staleSlot_of_not_due fun r hr htimer => by
      rw [hanswer, hslots, PerPort.get_set_self] at hr
      obtain rfl := Option.some.inj hr
      exact seconds_ne_one _ (Option.some.inj htimer)
    exact (event_supplied hasup).trans (congrArg _ hdue)
  · have hdue : lapseRecord l a = a := lapseRecord_of_not_due (by rw [hanswer, hgood hg]; simp)
    exact (event_supplied hasup).trans (congrArg _ hdue)
  · rw [hslots, PerPort.get_set_self, storedReport, clampTo_eq, hlimits]
    simp [hn, Config.seconds, Config.ticksPerSecond]
  · rw [hslots, PerPort.get_set_ne hq]
  · rw [storeReport_eq, setLiveItem_ne hl, hitem]
  · rw [storeReport_eq, setLiveItem_limits, hlimits]
  · rw [storeReport_eq, setLiveItem_tolBsw, hn, renewed_live]
  · rw [hself] at hempty ⊢
    rw [storedItem_emptied hsus (by rwa [hitem]) hempty, hitem, hlimits]
    rfl
  · rw [hself] at hf ⊢
    rw [storedItem_stands hsus (by rwa [hitem]), hitem]

/-- Settles O29: each expiry comes at its timer's last tick, and does what R63 and R65 give. -/
theorem liveTimersExpire : Obligations.LiveTimersExpire := by
  intro l p s hsup
  have hstale : exec (.freshnessTimerExpiry l p) s = .next (staleSlot l p s) := event_supplied hsup
  have hlapse : exec (.liveHoldTimerExpiry l) s = .next (lapseRecord l s) := event_supplied hsup
  refine ⟨fun r hr htimer => ?_, fun hnot => ?_, fun htimer => ?_, fun hnot => ?_⟩
  · rw [hstale]
    refine congrArg _ ?_
    obtain ⟨r', hr', -, h⟩ | ⟨hnot, -⟩ := staleSlot_cases l p s
    · obtain rfl := Option.some.inj (hr.symm.trans hr')
      rw [h]
      refine congrArg _ ?_
      have hslot : freshGood (((s.liveItem l).slots.set p (some { r with timer := none })).get p) = none := by
        rw [PerPort.get_set_self]
        exact freshGood_stopped rfl
      split
      · rename_i hempty
        rw [followSupply_emptied hslot hempty.1 hempty.2]
        rfl
      · rename_i hstands
        exact followSupply_else hslot hstands
    · exact absurd htimer (hnot r hr)
  · rw [hstale, staleSlot_of_not_due hnot]
  · rw [hlapse, lapseRecord, if_pos ((timerDue_iff _).mpr htimer)]
  · rw [hlapse, lapseRecord_of_not_due hnot]

/-! ## SET LIVE LIMITS -/

section Limits

theorem setLimits_eq (u : UnitId) (x : LiveLimits) (tol : Nat) (s : State) :
    setLimits u x tol s = { s with live := (setLimits u x tol s).live } := by
  cases u <;> rfl

theorem setLimits_limits (u : UnitId) (x : LiveLimits) (tol : Nat) (s : State) (v : UnitId) :
    (setLimits u x tol s).limits v = if v = u then x else s.limits v := by
  cases u with
  | run r =>
    cases v with
    | run q =>
      by_cases hq : q = r
      · subst hq
        simp [setLimits, State.limits]
      · simp [setLimits, State.limits, PerRun.get_set_ne hq, hq]
    | prover => rfl
  | prover => cases v <;> rfl

theorem setLimits_tolBsw (u : UnitId) (x : LiveLimits) (tol : Nat) (s : State) (r : Run) :
    ((setLimits u x tol s).live.runs.get r).tolBsw = if u = .run r then tol else (s.live.runs.get r).tolBsw := by
  cases u with
  | run q =>
    by_cases hq : r = q
    · subst hq
      simp [setLimits]
    · simp [setLimits, PerRun.get_set_ne hq, Ne.symm hq]
  | prover => rfl

theorem limitsOk_iff {u : UnitId} {st hold tolT tolP tolB pref : Nat} : limitsOk u st hold tolT tolP tolB pref = true ↔
    (1 ≤ st ∧ st ≤ 60) ∧ (10 ≤ hold ∧ hold ≤ 3600) ∧ tolT ≤ 1000 ∧ tolP ≤ 1000 ∧ (u ≠ .prover → tolB ≤ 100000)
      ∧ 1 ≤ pref ∧ pref ≤ 3 := by
  cases u <;> simp [limitsOk, within, and_assoc]

theorem portNumber_range (p : Port) : 1 ≤ portNumber p ∧ portNumber p ≤ 3 := by cases p <;> decide

/-- Settles O31: PROVING for the prover first, then the ranges, and then the limits alone. -/
theorem liveLimitsAreSet : Obligations.LiveLimitsAreSet := by
  refine ⟨fun p u st hold tolT tolP tolB pref s hsup hheld h1 h2 h3 h4 h5 h6 h7 => ⟨fun hprover hrun => ?_, fun hfree => ?_⟩,
    fun p st hold tolT tolP tolB pref s hsup hheld hrun => ?_,
    fun p u st hold tolT tolP tolB pref s hsup hheld hfree hbad => ?_⟩
  · show execSetLiveLimits .. = _
    unfold execSetLiveLimits
    refine held_request hsup hheld ?_
    simp [hprover, hrun, refuse]
  · have hok : limitsOk u st hold tolT tolP tolB (portNumber pref) = true :=
      limitsOk_iff.mpr ⟨⟨h1, h2⟩, ⟨h3, h4⟩, h5, h6, h7, portNumber_range pref⟩
    have hnot : ¬ (u = .prover ∧ s.proveRunning = true) := fun ⟨hp, hr⟩ => by simp [hfree hp] at hr
    refine ⟨setLimits u { staleness := st, hold := hold, tolT := tolT, tolP := tolP, preferred := pref } tolB (renewed p [u] s),
      ?_, ?_, fun r => ?_, fun u' hu => ?_, fun l => ?_⟩
    · show execSetLiveLimits .. = _
      unfold execSetLiveLimits
      refine held_request hsup hheld ?_
      rw [renewed_proveRunning, if_neg hnot, portOf_portNumber]
      simp only [hok, okReply, if_true]
      exact congrArg (Reply.mk · _ _) (setLimits_eq ..)
    · rw [setLimits_limits, if_pos rfl]
    · rw [setLimits_tolBsw, renewed_live]
    · rw [setLimits_limits, if_neg hu, renewed_limits]
    · rw [setLimits_liveItem, renewed_liveItem]
  · show execSetLiveLimits p (unitNumber .prover) .. = _
    unfold execSetLiveLimits
    refine held_request hsup hheld ?_
    simp [hrun, refuse]
  · have hnot : ¬ (u = .prover ∧ s.proveRunning = true) := fun ⟨hp, hr⟩ => by simp [hfree hp] at hr
    have hrange : limitsOk u st hold tolT tolP tolB pref = false := Bool.eq_false_iff.mpr fun hok => by
      obtain ⟨⟨h1, h2⟩, ⟨h3, h4⟩, h5, h6, h7, h8, h9⟩ := limitsOk_iff.mp hok
      obtain h | h | h | h | h | h | ⟨hu, h⟩ | h | h := hbad
      case inr.inr.inr.inr.inr.inr.inl => exact absurd (h7 hu) (not_le.mpr h)
      all_goals omega
    show execSetLiveLimits .. = _
    unfold execSetLiveLimits
    refine held_request hsup hheld ?_
    rw [renewed_proveRunning, if_neg hnot, hrange]
    cases portOf pref <;> rfl

end Limits

end Sys2Proof.Machine

/-! The step and the passage of time, the refusals of the interface, the response buffer, and the settings of links and clock. -/

namespace Sys2Proof.Machine

/-! ## The step (0.10) -/

theorem step_front {c : Instr} {rest : List Instr} {s : State} (h : s.pending = c :: rest) :
    step s = exec c { s with pending := rest } := by
  rw [step, h]

theorem step_idle {s : State} (h : s.pending = []) : step s = .next (if s.retention.supplied = true then s.elapse 1 else s) := by
  rw [step, h, idle]

/-- Settles O1: the front command, one tick without one, and what ticks leave of each timer. -/
theorem stepTakesFrontCommand : Obligations.StepTakesFrontCommand := by
  refine ⟨fun c rest s h => step_front h, fun s h => step_idle h, fun n stamp s => ?_⟩
  refine ⟨rfl, fun left h => ?_, fun h => ?_, fun u => elapse_claim s n u, fun l => ?_, fun u => elapse_limits s n u, fun r => ?_, rfl⟩
  · change runOut n s.clockWait = _
    rw [h, runOut_some]
  · change runOut n s.clockWait = _
    rw [h, runOut_none]
  · rw [elapse_liveItem]
    exact ⟨rfl, fun p => PerPort.get_map ..⟩
  · cases r <;> rfl

/-! ## The response buffer (R163) -/

/-- Settles O6: the frame of the response is clocked out and the buffer is empty. -/
theorem responseIsReadOutOnce : Obligations.ResponseIsReadOutOnce := by
  intro p s hsup
  have hexec : exec (.responseReadout p) s = .next (readOut p s) := event_supplied hsup
  refine ⟨fun hnone => ?_, fun r hr => ?_⟩
  · rw [hexec, readOut, hnone]
  · rw [hexec, readOut, hr]
    rfl

/-! ## The refusals of the interface (R164) -/

section Refusals

variable {p : Port} {frame : List Byte} {s : State}

theorem exec_frame (p : Port) (frame : List Byte) (s : State) :
    exec (.refusedRequestFrame p frame) s = execRefusedRequestFrame p frame s := rfl

/-- A frame whose bytes do not come whole, or whose CRC is another. -/
theorem decodeFrame_frameError (h : ¬ (5 ≤ frame.length ∧ fieldAt frame 3 2 ≤ 512 ∧ 5 + fieldAt frame 3 2 + 2 ≤ frame.length)
    ∨ fieldAt frame (5 + fieldAt frame 3 2) 2 ≠ crc (frame.take (5 + fieldAt frame 3 2))) : decodeFrame p frame = .frameError := by
  unfold decodeFrame Config.maxBody
  dsimp only
  split
  · rfl
  · split
    · rfl
    · split
      · rfl
      · rw [if_pos (h.resolve_left (by omega))]

/-- A whole frame with its CRC goes on to the checks of kind, flags and body length. -/
theorem decodeFrame_checked (h5 : 5 ≤ frame.length) (hlen : fieldAt frame 3 2 ≤ 512)
    (hwhole : 5 + fieldAt frame 3 2 + 2 ≤ frame.length)
    (hcrc : fieldAt frame (5 + fieldAt frame 3 2) 2 = crc (frame.take (5 + fieldAt frame 3 2))) :
    decodeFrame p frame = match bodyLength (fieldAt frame 0 1) (fieldAt frame 1 1) ((frame.drop 5).take (fieldAt frame 3 2)) with
      | none => .unknown (fieldAt frame 0 1)
      | some need =>
        if 4 ≤ fieldAt frame 2 1 then .range (fieldAt frame 0 1)
        else if fieldAt frame 3 2 ≠ need then .range (fieldAt frame 0 1)
        else
          match decodeBody p (fieldAt frame 0 1) (fieldAt frame 1 1) (fieldAt frame 2 1) ((frame.drop 5).take (fieldAt frame 3 2)) with
          | none => .unknown (fieldAt frame 0 1)
          | some i => .request i := by
  unfold decodeFrame Config.maxBody
  dsimp only
  rw [if_neg (by omega), if_neg (by omega), if_neg (by omega), if_neg (not_not.mpr hcrc)] <;> rfl

theorem bodyLength_eq_none {kind unit : Nat} {body : List Byte} (h : kind = 0 ∨ 38 < kind) :
    bodyLength kind unit body = none := by
  unfold bodyLength
  split <;> first | rfl | omega

theorem bodyLength_isSome {kind unit : Nat} {body : List Byte} (h1 : 1 ≤ kind) (h2 : kind ≤ 38) :
    ∃ need, bodyLength kind unit body = some need := by
  unfold bodyLength
  split <;> first | exact ⟨_, rfl⟩ | skip
  interval_cases kind <;> simp_all

/-- Settles O5: each check of R164 in its order answers the interface's own response. -/
theorem refusedFrameIsAnsweredAlone : Obligations.RefusedFrameIsAnsweredAlone := by
  intro p frame s hsup
  refine ⟨fun hpart => ?_, fun hwhole hcrc => ?_, fun hwhole hcrc hkind => ?_, fun hwhole hcrc h1 h2 hflags => ?_,
    fun hwhole hcrc h1 h2 hflags hbody => ?_⟩
  · rw [exec_frame, execRefusedRequestFrame, decodeFrame_frameError (.inl hpart)]
    exact event_supplied hsup
  · rw [exec_frame, execRefusedRequestFrame, decodeFrame_frameError (.inr hcrc)]
    exact event_supplied hsup
  · obtain ⟨h5, hlen, hall⟩ := hwhole
    rw [exec_frame, execRefusedRequestFrame, decodeFrame_checked h5 hlen hall hcrc, bodyLength_eq_none hkind]
    exact event_supplied hsup
  · obtain ⟨h5, hlen, hall⟩ := hwhole
    obtain ⟨need, hneed⟩ := bodyLength_isSome (unit := fieldAt frame 1 1) (body := (frame.drop 5).take (fieldAt frame 3 2)) h1 h2
    rw [exec_frame, execRefusedRequestFrame, decodeFrame_checked h5 hlen hall hcrc, hneed]
    dsimp only
    rw [if_pos hflags]
    exact event_supplied hsup
  · obtain ⟨h5, hlen, hall⟩ := hwhole
    obtain ⟨need, hneed⟩ := bodyLength_isSome (unit := fieldAt frame 1 1) (body := (frame.drop 5).take (fieldAt frame 3 2)) h1 h2
    have hne : fieldAt frame 3 2 ≠ need := fun h => hbody (by rw [hneed, h])
    rw [exec_frame, execRefusedRequestFrame, decodeFrame_checked h5 hlen hall hcrc, hneed]
    dsimp only
    rw [if_neg (not_le.mpr hflags), if_pos hne]
    exact event_supplied hsup

end Refusals

/-! ## Edges of an OFFLINE run (R11, R78) -/

theorem exec_risingEdge {r : Run} {c : Channel} {high : Bool} {stamp : Nat} {s : State} (hsup : s.retention.supplied = true) :
    exec (.risingEdge r c high stamp) s = .next (if (s.calcOf r).runState = .online then onlineEdge r c high (s.comeTo stamp)
      else offlineEdge r c (s.comeTo stamp)) := by
  show execRisingEdge r c high stamp s = _
  rw [execRisingEdge, event_supplied hsup]
  rfl

/-- Settles O9: the A edge is one offline pulse at the checker and at the bank. -/
theorem offlineEdges : Obligations.OfflineEdges := by
  intro r high stamp s hsup hoff
  have hnot : ¬ (s.calcOf r).runState = .online := by rw [hoff]; exact nofun
  constructor
  · rw [exec_risingEdge hsup, if_neg hnot]
    rfl
  · rw [exec_risingEdge hsup, if_neg hnot]
    rfl

/-! ## Links and clock (chapter 10) -/

section Links

variable {p : Port} {s t : State}

theorem attention_iff (hsup : s.retention.supplied = true) : s.attention p = true ↔
    ∃ k, ((s.link p).notices.get k).pending = true ∧ (s.link p).mask.getLsbD (noticeCode k) = true := by
  simp [State.attention, hsup, inKinds, mem_noticeKinds]

theorem noticeCode_lt (k : NoticeKind) : noticeCode k < 10 := by cases k <;> decide

theorem getLsbD_ofNat_mask (mask : Nat) (k : NoticeKind) :
    (BitVec.ofNat 10 mask).getLsbD (noticeCode k) = mask.testBit (noticeCode k) := by
  rw [BitVec.getLsbD_ofNat]
  simp [noticeCode_lt k]

/-- What an answer leaves of the port's own link, its buffer aside. -/
theorem attention_answered (hsup : t.retention.supplied = true) (st : Status) (kind : Nat) (b : Body) :
    (answered p st kind b t).attention p = true ↔
      ∃ k, ((t.link p).notices.get k).pending = true ∧ (t.link p).mask.getLsbD (noticeCode k) = true := by
  obtain ⟨hnotices, -, hmask, -⟩ := answered_links p p st kind b t
  rw [attention_iff (by simpa [answered] using hsup), hnotices, hmask]

theorem widthOf_code (w : Width) : widthOf (if w = .narrow then 0 else 1) = some w := by cases w <;> rfl

theorem widthOf_eq_none {w : Nat} (h : 1 < w) : widthOf w = none := by
  match w, h with
  | _ + 2, _ => rfl

theorem kindsOf_some {mask : Nat} (h : mask < 1024) : kindsOf mask = some (BitVec.ofNat 10 mask) := if_pos h

theorem kindsOf_eq_none {mask : Nat} (h : 1024 ≤ mask) : kindsOf mask = none := if_neg (not_lt.mpr h)

/-- A request whose unit field must be 0 is refused for another. -/
theorem unitZero_range {kind unit : Nat} {act : State → Reply} (hsup : s.retention.supplied = true) (hunit : unit ≠ 0) :
    serve p kind [] (fun s => unitZero unit s (act s)) s = .next (answered p .range kind .empty s) :=
  plain_request hsup (by simp [unitZero, hunit, refuse])

/-- The advance that comes a whole second after SET TIME. -/
theorem advance_after_setClock (hsup : s.retention.supplied = true) (hwait : s.clockWait = some 10000000) (n : Nat) :
    (n < 10000000 → exec .terminalTimeAdvance (s.elapse n) = .next (s.elapse n))
      ∧ (10000000 ≤ n → exec .terminalTimeAdvance (s.elapse n)
          = .next { s.elapse n with terminalTime := (s.terminalTime + 1) % 4294967296 }) := by
  have hexec : exec .terminalTimeAdvance (s.elapse n) = .next (advanceClock (s.elapse n)) :=
    event_supplied (show (s.elapse n).retention.supplied = true from hsup)
  have hclock : (s.elapse n).clockWait = if n < 10000000 then some (10000000 - n) else none := by
    change runOut n s.clockWait = _
    rw [hwait, runOut_some]
  rw [hexec]
  refine ⟨fun h => ?_, fun h => ?_⟩
  · rw [if_pos h] at hclock
    rw [advanceClock, hclock]
  · rw [if_neg (not_lt.mpr h)] at hclock
    obtain ⟨-, h⟩ | ⟨hne, -⟩ := advanceClock_cases (s.elapse n)
    · exact congrArg _ h
    · exact absurd hclock hne

/-- Settles O49: each setting reaches its own item, and the attention line follows mask and pending kinds. -/
theorem linkAndClockSettings : Obligations.LinkAndClockSettings := by
  intro p mask s hsup
  refine ⟨attention_iff hsup, fun w hmask => ?_, fun w hbad => ?_, fun hmask => ?_, fun hmask => ?_, fun time htime => ?_,
    fun unit w time hunit => ⟨?_, ?_, ?_⟩, fun hwait => ?_, fun hwait => ?_⟩
  · refine ⟨_, ?_, rfl, ?_⟩
    · show execSetPortMode .. = _
      unfold execSetPortMode
      refine plain_request hsup ?_
      simp [unitZero, widthOf_code, kindsOf_some hmask, okReply]
    · dsimp only
      rw [attention_answered (by simpa using hsup)]
      simp [getLsbD_ofNat_mask]
  · show execSetPortMode .. = _
    unfold execSetPortMode
    refine plain_request hsup ?_
    obtain hw | hmask := hbad
    · simp [unitZero, widthOf_eq_none hw, refuse]
    · cases widthOf w <;> simp [unitZero, kindsOf_eq_none hmask, refuse]
  · refine ⟨_, (s.link p).notices.ack (BitVec.ofNat 10 mask), ?_, rfl, fun k => ?_, ?_⟩
    · show execAckNotices .. = _
      unfold execAckNotices
      refine plain_request hsup ?_
      simp [unitZero, kindsOf_some hmask]
    · rw [NoticeSet.ack_get, inKinds, getLsbD_ofNat_mask]
    · dsimp only
      rw [attention_answered (by simpa using hsup)]
      simp only [setLink_self, NoticeSet.ack_get, inKinds, getLsbD_ofNat_mask]
      refine exists_congr fun k => ?_
      cases mask.testBit (noticeCode k) <;> simp
  · show execAckNotices .. = _
    unfold execAckNotices
    refine plain_request hsup ?_
    simp [unitZero, kindsOf_eq_none hmask, refuse]
  · have htime' : time % 4294967296 = time := Nat.mod_eq_of_lt htime
    refine ⟨?_, fun n hn => ?_, fun n hn => ?_⟩
    · show execSetTime .. = _
      unfold execSetTime
      refine plain_request hsup ?_
      simp [unitZero, okReply, setClock, htime', Config.seconds, Config.ticksPerSecond]
    · exact (advance_after_setClock (by simpa [answered] using hsup) rfl n).1 hn
    · exact (advance_after_setClock (by simpa [answered] using hsup) rfl n).2 hn
  · show execSetPortMode .. = _
    exact unitZero_range hsup hunit
  · show execAckNotices .. = _
    exact unitZero_range hsup hunit
  · show execSetTime .. = _
    exact unitZero_range hsup hunit
  · refine (event_supplied hsup).trans (congrArg _ ?_)
    rw [advanceClock, hwait]
  · refine (event_supplied hsup).trans (congrArg _ ?_)
    obtain ⟨h, -⟩ | ⟨-, h⟩ := advanceClock_cases s
    · exact absurd h hwait
    · exact h

end Links

end Sys2Proof.Machine

/-! Periods and the settings of a run: the period timer and its expiry, SET SERVICE ONLINE, SET PERIOD, SET
SECURITY, CLEAR RUN FAULT and
SET K-FACTOR. -/

namespace Sys2Proof.Machine

/-! ## What a close leaves (2.4 to 2.7) -/

section Close

variable (r : Run) (tMs : Nat) (restart : Bool) (s : State)

@[simp] theorem gatherPeriod_run : (gatherPeriod r tMs restart s).1.run = r := rfl
@[simp] theorem gatherPeriod_pulses : (gatherPeriod r tMs restart s).1.pulses = (s.checker r).accepted := rfl
@[simp] theorem gatherPeriod_reversePulses : (gatherPeriod r tMs restart s).1.reversePulses = (s.checker r).reverse := rfl
@[simp] theorem gatherPeriod_mark : (gatherPeriod r tMs restart s).1.mark = (s.checker r).failureMark := rfl
@[simp] theorem gatherPeriod_tMs : (gatherPeriod r tMs restart s).1.tMs = tMs := rfl
@[simp] theorem gatherPeriod_restart : (gatherPeriod r tMs restart s).1.restart = restart := rfl
@[simp] theorem gatherPeriod_kmilli : (gatherPeriod r tMs restart s).1.kmilli = (s.calcOf r).kmilli := rfl
@[simp] theorem gatherPeriod_rI : (gatherPeriod r tMs restart s).1.rI = (s.calcOf r).rI := rfl
@[simp] theorem gatherPeriod_rR : (gatherPeriod r tMs restart s).1.rR = (s.calcOf r).rR := rfl
@[simp] theorem gatherPeriod_destination : (gatherPeriod r tMs restart s).1.destination = (s.calcOf r).target := rfl
@[simp] theorem gatherPeriod_endTime : (gatherPeriod r tMs restart s).1.endTime = s.terminalTime := rfl

theorem closePeriod_toEngine_eq :
    (closePeriod r tMs restart s).toEngine = s.toEngine.set r (some (gatherPeriod r tMs restart s).1.arrival) := by
  obtain ⟨v, x, h⟩ := closePeriod_touches r tMs restart s
  rw [h]

theorem closePeriod_toBank_eq :
    (closePeriod r tMs restart s).toBank = s.toBank.set r (s.toBank.get r ++ [(gatherPeriod r tMs restart s).1.arrival]) := by
  obtain ⟨v, x, h⟩ := closePeriod_touches r tMs restart s
  rw [h]

theorem closePeriod_checker : (closePeriod r tMs restart s).checker r = (s.checker r).handOver := by
  obtain ⟨v, x, h⟩ := closePeriod_touches r tMs restart s
  rw [h]
  exact PerRun.get_set_self ..

theorem closePeriod_other {q : Run} (hq : q ≠ r) : (closePeriod r tMs restart s).calcOf q = s.calcOf q
    ∧ (closePeriod r tMs restart s).checker q = s.checker q := by
  obtain ⟨v, x, h⟩ := closePeriod_touches r tMs restart s
  rw [h]
  exact ⟨PerRun.get_set_ne hq .., PerRun.get_set_ne hq ..⟩

theorem openPeriod_calcOf : (openPeriod r s).calcOf r = { s.calcOf r with elapsed := 0, openLength := (s.calcOf r).periodLength } :=
  setCalc_self ..

theorem calculatorAfter_settings (i : PeriodInputs) (k : Calculator) : (i.calculatorAfter k).periodLength = k.periodLength
    ∧ (i.calculatorAfter k).kmilli = k.kmilli ∧ (i.calculatorAfter k).elapsed = k.elapsed := by
  unfold PeriodInputs.calculatorAfter
  generalize i.newRI = a, i.newRR = b, i.newRG = c, i.newRN = d
  generalize (if i.pulses = 0 then countUp k.quiet Config.maxQuiet else 0) = quiet
  exact ⟨rfl, rfl, rfl⟩

theorem openPeriod_closePeriod_calcOf : (openPeriod r (closePeriod r tMs restart s)).calcOf r =
    { (gatherPeriod r tMs restart s).1.calculatorAfter (s.calcOf r) with
      elapsed := 0, openLength := (s.calcOf r).periodLength } := by
  rw [openPeriod_calcOf, closePeriod_calcOf, (calculatorAfter_settings ..).1]

end Close

theorem periodFlow_eq (pulses k t : Nat) :
    periodFlow pulses k t = if t = 0 then 0 else min 999999 (pulses * 36000000000 / (k * t)) := by
  split
  case isTrue h => exact periodFlow_of_zero pulses k h
  case isFalse h => exact periodFlow_of_ne_zero pulses k h

theorem countUp_eq (n limit : Nat) : countUp n limit = if n < limit then n + 1 else n := rfl

/-! ## The period timer (R21) -/

section Timer

variable {r : Run} {s : State}

theorem takeAtEngine_of_none (h : s.toEngine.get r = none) : takeAtEngine r s = s := by rw [takeAtEngine, h]

theorem takeAtEngine_toEngine (r : Run) (s : State) : (takeAtEngine r s).toEngine = s.toEngine.set r none := by
  obtain ⟨g, c, x, h⟩ := takeAtEngine_touches r s
  rw [h]

theorem takeAtEngine_waits (r : Run) (s : State) : (takeAtEngine r s).toEngine.get r = none := by
  rw [takeAtEngine_toEngine, PerRun.get_set_self]

theorem Calculator.EngineChange.timer {k k' : Calculator} (h : k.EngineChange k') : k'.openLength = k.openLength
    ∧ k'.elapsed = k.elapsed ∧ k'.periodLength = k.periodLength ∧ k'.lastPeriod = k.lastPeriod := by
  obtain ⟨target, rfl | ⟨x, -, rfl⟩⟩ := h <;> exact ⟨rfl, rfl, rfl, rfl⟩

theorem inLastMs_iff {k : Calculator} : k.inLastMs = true ↔ k.openLength ≤ k.elapsed + 1 := by simp [Calculator.inLastMs]

theorem exec_periodExpiry (hsup : s.retention.supplied = true) : exec (.periodExpiry r) s = .next
    (if (s.calcOf r).runState = .online ∧ (s.calcOf r).inLastMs = true then expirePeriod r s else s) := by
  show execPeriodExpiry r s = _
  rw [execPeriodExpiry, event_supplied hsup]

theorem exec_periodExpiry_due (hsup : s.retention.supplied = true) (hon : (s.calcOf r).runState = .online)
    (hdue : (s.calcOf r).openLength ≤ (s.calcOf r).elapsed + 1) : exec (.periodExpiry r) s = .next (expirePeriod r s) := by
  rw [exec_periodExpiry hsup, if_pos ⟨hon, inLastMs_iff.mpr hdue⟩]

theorem expirePeriod_of_none (h : s.toEngine.get r = none) :
    expirePeriod r s = openPeriod r (closePeriod r (s.calcOf r).openLength false s) := by
  rw [expirePeriod, takeAtEngine_of_none h]

theorem not_online_iff : ¬ (s.calcOf r).runState = .online ↔ (s.calcOf r).runState = .offline := by
  cases (s.calcOf r).runState <;> simp

/-- Settles O18: short of the open length the elapsed ms advance by one. -/
theorem periodTimerAdvances : Obligations.PeriodTimerAdvances := by
  intro r s hsup
  have hexec : exec (.periodTimerAdvance r) s = .next (if (s.calcOf r).runState = .online ∧ (!(s.calcOf r).inLastMs) = true then
      s.setCalc r { s.calcOf r with elapsed := (s.calcOf r).elapsed + 1 } else s) := by
    show execPeriodTimerAdvance r s = _
    rw [execPeriodTimerAdvance, event_supplied hsup]
  have hshort : (!(s.calcOf r).inLastMs) = true ↔ (s.calcOf r).elapsed + 1 < (s.calcOf r).openLength := by
    simp [Calculator.inLastMs]
  refine ⟨fun hon hlt => ?_, fun hstands => ?_⟩
  · rw [hexec, if_pos ⟨hon, hshort.mpr hlt⟩]
  · rw [hexec, if_neg]
    rintro ⟨hon, hlt⟩
    obtain hoff | hge := hstands
    · exact nomatch hon.symm.trans hoff
    · exact absurd (hshort.mp hlt) (not_lt.mpr hge)

/-- An expiry takes the arrival that waits at the engine first (R36). -/
theorem exec_periodExpiry_takes (hsup : s.retention.supplied = true) (hon : (s.calcOf r).runState = .online)
    (hdue : (s.calcOf r).openLength ≤ (s.calcOf r).elapsed + 1) :
    exec (.periodExpiry r) s = exec (.periodExpiry r) (takeAtEngine r s) := by
  have hframe := takeAtEngine_frame s r
  have hsup' : (takeAtEngine r s).retention.supplied = true := by
    rw [show (takeAtEngine r s).retention = s.retention from hframe.same .retention (by decide)]
    exact hsup
  have hchange := (takeAtEngine_calcs r s).change r
  obtain ⟨hlength, helapsed, -, -⟩ := hchange.timer
  rw [exec_periodExpiry_due hsup hon hdue, exec_periodExpiry_due hsup' (by rw [hchange.runState, hon])
    (by rw [hlength, helapsed]; exact hdue), expirePeriod_of_none (takeAtEngine_waits r s)]
  rfl

/-- Settles O15: the close delivers its one arrival to both, and what its divisions leave is carried. -/
theorem periodExpiryDelivers : Obligations.PeriodExpiryDelivers := by
  refine ⟨fun r s hsup hon hwaits hk hdue => ?_, fun r s hsup hon hdue => ?_, fun r s hsup hnot => ?_⟩
  · have hcalc := openPeriod_closePeriod_calcOf r (s.calcOf r).openLength false s
    have hframe : Frame [.live, .links, .calcs, .checkers, .toBank, .toEngine] s
        (openPeriod r (closePeriod r (s.calcOf r).openLength false s)) :=
      (closePeriod_frame ..).andThen (setCalc_frame ..) (by decide)
    obtain ⟨hrI, hiv⟩ := (gatherPeriod r (s.calcOf r).openLength false s).1.ivInc_exact hk
    obtain ⟨hrR, hrev⟩ := (gatherPeriod r (s.calcOf r).openLength false s).1.revInc_exact hk
    obtain ⟨hstate, htarget⟩ := calculatorAfter_inService (gatherPeriod r (s.calcOf r).openLength false s).1 (s.calcOf r)
    obtain ⟨hlength, hkmilli, -⟩ := calculatorAfter_settings (gatherPeriod r (s.calcOf r).openLength false s).1 (s.calcOf r)
    have hexec : exec (.periodExpiry r) s = .next (openPeriod r (closePeriod r (s.calcOf r).openLength false s)) := by
      rw [exec_periodExpiry_due hsup hon hdue, expirePeriod_of_none hwaits]
    refine ⟨_, (gatherPeriod r (s.calcOf r).openLength false s).1.arrival, hexec, closePeriod_toEngine_eq ..,
        closePeriod_toBank_eq .., rfl, rfl, rfl, rfl, rfl, rfl, rfl, rfl, rfl, ?_, ?_, ?_, ?_, periodFlow_eq .., ?_, ?_, ?_, ?_, ?_, ?_, ?_,
      closePeriod_checker .., fun q hq => ?_, hframe.same .bank (by decide), hframe.same .ring (by decide),
      hframe.same .prove (by decide), hframe.same .curves (by decide), hframe.same .grades (by decide),
      hframe.same .claims (by decide), hframe.same .terminalTime (by decide), hframe.same .retention (by decide)⟩
    · rw [hcalc]
      exact hiv
    · rw [hcalc]
      exact hrI
    · rw [hcalc]
      exact hrev
    · rw [hcalc]
      exact hrR
    · rw [hcalc]
    · rw [hcalc]
    · rw [hcalc]
      exact hlength
    · rw [hcalc]
      exact hkmilli
    · rw [hcalc]
      exact htarget
    · rw [hcalc]
      exact hstate.trans hon
    · rw [hcalc]
      exact if_congr Iff.rfl (countUp_eq ..) rfl
    · obtain ⟨hother, hchecker⟩ := closePeriod_other r (s.calcOf r).openLength false s hq
      exact ⟨(setCalc_ne _ hq _).trans hother, hchecker⟩
  · exact ⟨takeAtEngine r s, event_supplied hsup, takeAtEngine_waits r s, exec_periodExpiry_takes hsup hon hdue⟩
  · rw [exec_periodExpiry hsup, if_neg]
    rintro ⟨hon, hlast⟩
    obtain hoff | hlt := hnot
    · exact nomatch hon.symm.trans hoff
    · exact absurd (inLastMs_iff.mp hlast) (not_le.mpr hlt)

end Timer

end Sys2Proof.Machine

/-! The settings of a run from its holder (R13, R14, R18, R19, R23, R37). -/

namespace Sys2Proof.Machine

variable {p : Port} {r : Run} {s : State}

theorem hasEnabled_eq_false {c : List CurvePoint} (h : ∀ x ∈ c, x.enabled = false) : hasEnabled c = false := by
  simpa [hasEnabled] using h

theorem hasEnabled_eq_true {c : List CurvePoint} (h : ∃ x ∈ c, x.enabled = true) : hasEnabled c = true := by
  simpa [hasEnabled] using h

theorem offeredTarget_eq (s : State) : s.offeredTarget =
    if s.ring.current = .opened ∨ s.ring.current = .topped then s.currentSlot else none := by
  simp [State.offeredTarget, State.parcelOpen]

/-- Settles O19: the checks, then the items that `goOnline` sets. -/
theorem goingOnline : Obligations.GoingOnline := by
  intro p r s hsup hheld hoff
  refine ⟨fun hnone => ?_, fun hsome => ?_⟩
  · have hcurve := hasEnabled_eq_false hnone
    show execSetService p (runNumber r) 1 s = _
    unfold execSetService
    refine run_request hsup hheld ?_
    simp [serviceOf, hoff, hcurve, refuse]
  · have hcurve := hasEnabled_eq_true hsome
    show execSetService p (runNumber r) 1 s = _
    unfold execSetService
    refine run_request hsup hheld ?_
    simp [serviceOf, hoff, hcurve, okReply, goOnline, offeredTarget_eq]

theorem serviceOf_eq_none {v : Nat} (h : 1 < v) : serviceOf v = none := by
  unfold serviceOf
  split <;> first | rfl | omega

theorem clearLiveLatches_limits (r : Run) (s : State) (u : UnitId) : (clearLiveLatches r s).limits u = s.limits u := by
  cases u with
  | run r' =>
    by_cases hr : r' = r
    · subst hr
      simp [clearLiveLatches, State.limits]
    · simp [clearLiveLatches, State.limits, PerRun.get_set_ne hr]
  | prover => rfl

theorem clearLiveLatches_tolBsw (r : Run) (s : State) (q : Run) :
    ((clearLiveLatches r s).live.runs.get q).tolBsw = (s.live.runs.get q).tolBsw := by
  by_cases hq : q = r
  · subst hq
    simp [clearLiveLatches]
  · simp [clearLiveLatches, PerRun.get_set_ne hq]

/-- Settles O21: each setting's range and the one item it sets. -/
theorem runSettings : Obligations.RunSettings := by
  refine ⟨fun p r s hsup hheld => ⟨?same, fun v hv => ?service, fun len h1 h2 => ?period, fun len hbad => ?periodRange,
    fun w e h1 h2 h3 h4 => ?security, fun w e hbad => ?securityRange⟩, fun p r s hsup hheld => ?clear⟩
  case same =>
    show execSetService p (runNumber r) _ s = _
    unfold execSetService
    refine run_request hsup hheld ?_
    cases h : (s.calcOf r).runState <;> simp [serviceOf, h, okReply]
  case service =>
    show execSetService .. = _
    unfold execSetService
    refine run_request hsup hheld ?_
    simp [serviceOf_eq_none hv, refuse]
  case period =>
    have hrange : within 100 2000 len = true := within_iff.mpr ⟨h1, h2⟩
    show execSetPeriod .. = _
    unfold execSetPeriod
    refine run_request hsup hheld ?_
    simp [hrange, okReply]
  case periodRange =>
    have hrange : within 100 2000 len = false := Bool.eq_false_iff.mpr fun h => by have := within_iff.mp h; omega
    show execSetPeriod .. = _
    unfold execSetPeriod
    refine run_request hsup hheld ?_
    simp [hrange, refuse]
  case security =>
    have hrange : (within 100 1000000 w && within 1 1000 e) = true := by
      rw [Bool.and_eq_true]
      exact ⟨within_iff.mpr ⟨h1, h2⟩, within_iff.mpr ⟨h3, h4⟩⟩
    show execSetSecurity .. = _
    unfold execSetSecurity
    refine run_request hsup hheld ?_
    rw [if_pos hrange]
    simp [okReply]
  case securityRange =>
    have hrange : ¬ (within 100 1000000 w && within 1 1000 e) = true := fun h => by
      obtain ⟨hw, he⟩ := Bool.and_eq_true_iff.mp h
      have := within_iff.mp hw
      have := within_iff.mp he
      omega
    show execSetSecurity .. = _
    unfold execSetSecurity
    refine run_request hsup hheld ?_
    rw [if_neg hrange]
    rfl
  case clear =>
    have hitem := clearLiveLatches_liveItem r ((renewed p [.run r] s).setChecker r { s.checker r with
      failed := false, windowPulses := 0, windowErrors := 0 })
    refine ⟨answered p .ok 5 .empty (clearLiveLatches r ((renewed p [.run r] s).setChecker r { s.checker r with
      failed := false, windowPulses := 0, windowErrors := 0 })), ?_, rfl, fun q => ?_, fun l hl => ?_, fun u => ?_, fun q => ?_⟩
    · show execClearRunFault .. = _
      unfold execClearRunFault
      refine run_request hsup hheld ?_
      simp [okReply]
    · exact (hitem (.run r q)).trans ((if_pos rfl).trans (congrArg LiveItem.clearLatch (renewed_liveItem ..)))
    · exact (hitem l).trans ((if_neg hl).trans (renewed_liveItem ..))
    · exact (clearLiveLatches_limits ..).trans (renewed_limits ..)
    · exact (clearLiveLatches_tolBsw ..).trans (congrArg (fun l => (l.runs.get q).tolBsw) (renewed_live ..))

/-! ## SET K-FACTOR (R37) -/

theorem portionOpen_of_none (h : (s.calcOf r).target = none) : s.portionOpen r = false := by rw [State.portionOpen, h]

theorem portionOpen_of_some {i : SlotId} (h : (s.calcOf r).target = some i)
    (hstate : (s.slot i).state = .current ∨ (s.slot i).state = .closing) : s.portionOpen r = true := by
  rw [State.portionOpen, h]
  simpa using hstate

theorem exec_setKFactor {x : Nat} {t : State} {st : Status} (hsup : s.retention.supplied = true)
    (hheld : s.holds p (.run r) = true)
    (hfree : s.provingRun r = false) (hgood : 1000 ≤ x ∧ x ≤ 99999999)
    (hput : putKFactor r x (takeAtEngine r (renewed p [.run r] s)) = ⟨t, st, .empty⟩) :
    exec (.setKFactor p (runNumber r) x) s = .next (answered p st 3 .empty t) := by
  show execSetKFactor .. = _
  unfold execSetKFactor
  refine run_request hsup hheld ?_
  rw [renewed_provingRun, hfree, if_neg (by simp), if_pos (within_iff.mpr hgood), hput]

/-- The period that closes at an expiry has the K-factor its run had. -/
theorem exec_periodExpiry_kmilli {k : Calculator} (hsup : s.retention.supplied = true) (hwaits : s.toEngine.get r = none)
    (hcalc : s.calcOf r = k) (hon : k.runState = .online) (hdue : k.openLength ≤ k.elapsed + 1) :
    ∃ v rec, exec (.periodExpiry r) s = .next v ∧ (v.calcOf r).lastPeriod = some rec ∧ rec.kmilli = k.kmilli := by
  subst hcalc
  refine ⟨_, (gatherPeriod r (s.calcOf r).openLength false s).1.record, exec_periodExpiry_due hsup hon hdue, ?_, rfl⟩
  rw [expirePeriod_of_none hwaits, openPeriod_closePeriod_calcOf]
  rfl

/-- Settles O22: the checks, then the K-factor at once or pending, by whether the run has an open portion. -/
theorem kFactorNowOrPending : Obligations.KFactorNowOrPending := by
  intro p r x s hsup hheld
  refine ⟨fun hproving => ?_, fun hfree hbad => ?_, fun hfree hgood => ?_⟩
  · show execSetKFactor .. = _
    unfold execSetKFactor
    refine run_request hsup hheld ?_
    simp [hproving, refuse]
  · have hrange : within 1000 99999999 x = false := Bool.eq_false_iff.mpr fun h => hbad (within_iff.mp h)
    show execSetKFactor .. = _
    unfold execSetKFactor
    refine run_request hsup hheld ?_
    simp [hfree, hrange, refuse]
  · have hsup' : (renewed p [.run r] s).retention.supplied = true := by rw [renewed_retention, hsup]
    refine ⟨takeAtEngine r (renewed p [.run r] s), event_supplied hsup', takeAtEngine_waits .., fun hnone => ?_, fun htarget => ?_,
      fun i htarget hstate => ?_⟩
    · exact takeAtEngine_of_none (by rw [renewed_toEngine, hnone])
    · refine exec_setKFactor hsup hheld hfree hgood ?_
      rw [putKFactor, portionOpen_of_none htarget]
      rfl
    · refine ⟨exec_setKFactor hsup hheld hfree hgood ?_, fun hon ms hdue => ?_⟩
      · rw [putKFactor, portionOpen_of_some htarget hstate]
        rfl
      · have hframe := takeAtEngine_frame (renewed p [.run r] s) r
        have hsupt : (takeAtEngine r (renewed p [.run r] s)).retention.supplied = true := by
          rw [show (takeAtEngine r (renewed p [.run r] s)).retention = (renewed p [.run r] s).retention from
            hframe.same .retention (by decide), hsup']
        have hcalc (t : State) (k : Calculator) : (answered p .okPending 3 .empty (t.setCalc r k)).calcOf r = k := setCalc_self ..
        rw [hcalc]
        exact exec_periodExpiry_kmilli
          (k := { (takeAtEngine r (renewed p [.run r] s)).calcOf r with pendingK := some x, elapsed := ms })
          hsupt (takeAtEngine_waits ..) (setCalc_self ..) hon hdue

end Sys2Proof.Machine

/-! Requests without the claim they need (R154): NOT_HOLDER, and the port joins the waiting lists. -/

namespace Sys2Proof.Machine

section Refused

variable {p : Port} {u : UnitId} {s : State}

theorem Claim.refusing_of_holder {c : Claim} (h : c.holder = some p) : c.refusing p = c := if_pos (.inr (.inl h))

theorem queuePort_refusing (p : Port) (s : State) (u : UnitId) : queuePort p s u = s.setClaim u ((s.claim u).refusing p) := by
  cases hheld : s.holds p u with
  | true =>
    have hholder := (holds_iff p u s).mp hheld
    rw [Claim.refusing_of_holder hholder, setClaim_same, queuePort, hholder]
    exact if_pos (.inl rfl)
  | false =>
    have hnot : (s.claim u).holder ≠ some p := fun h => by simp [(holds_iff p u s).mpr h] at hheld
    rw [queuePort_eq p s u hheld, Claim.refusing]
    simp [hnot]

theorem queuePort_of_holds (h : s.holds p u = true) : queuePort p s u = s := by
  rw [queuePort_refusing, Claim.refusing_of_holder ((holds_iff p u s).mp h), setClaim_same]

theorem claimView_eq (s : State) (u : UnitId) : s.claimView u = (s.claim u).seen (s.inProve u) := rfl

theorem claimView_fun (s : State) : s.claimView = fun u => (s.claim u).seen (s.inProve u) := rfl

theorem queuePort_claimView (p : Port) (s : State) (u : UnitId) :
    (queuePort p s u).claimView u = ((s.claim u).refusing p).seen (s.inProve u) := by
  rw [claimView_eq, queuePort_refusing, setClaim_self, setClaim_inProve]

theorem notHolder_eq (p : Port) (u : UnitId) (s : State) : notHolder p [u] s = ⟨s.setClaim u ((s.claim u).refusing p), .notHolder,
    .claims [((s.claim u).refusing p).seen (s.inProve u)]⟩ := by
  simp only [notHolder, List.foldl_cons, List.foldl_nil, List.map_cons, List.map_nil, queuePort_claimView, ← queuePort_refusing]

theorem renewed_of_not_holder (h : s.holds p u = false) : renewed p [u] s = s := by
  rw [renewed_cons, renew_of_not_holder h, renewed_nil]

/-- A request on a unit from another port is refused with NOT_HOLDER. -/
theorem held_request_notHolder {kind : Nat} {act : State → UnitId → Reply} (hsup : s.retention.supplied = true)
    (hheld : s.holds p u = false) :
    serve p kind (namedUnits (unitNumber u)) (fun s => withUnit (unitNumber u) s fun u => asHolder p u s (act s u)) s
      = .next (answered p .notHolder kind (.claims [((s.claim u).refusing p).seen (s.inProve u)])
          (s.setClaim u ((s.claim u).refusing p))) := by
  refine unit_request hsup ?_
  rw [renewed_of_not_holder hheld, asHolder, hheld, if_neg Bool.false_ne_true, notHolder_eq]

/-- A request on the prover from another port is refused with NOT_HOLDER. -/
theorem prover_request_notHolder {kind : Nat} {act : State → Reply} (hsup : s.retention.supplied = true)
    (hheld : s.holds p .prover = false) :
    serve p kind (namedUnits 5) (fun s => unitProver 5 s (asHolder p .prover s (act s))) s
      = .next (answered p .notHolder kind (.claims [((s.claim .prover).refusing p).seen (s.inProve .prover)])
          (s.setClaim .prover ((s.claim .prover).refusing p))) := by
  have hrenewed : renewed p (namedUnits 5) s = s := renewed_of_not_holder hheld
  rw [serve_supplied hsup, hrenewed, unitProver, if_pos rfl, asHolder, hheld, if_neg Bool.false_ne_true, notHolder_eq]

/-- A request on the prover that names another unit is refused with RANGE. -/
theorem prover_request_range {kind unit : Nat} {act : State → Reply} (hsup : s.retention.supplied = true) (hunit : unit ≠ 5) :
    serve p kind (namedUnits unit) (fun s => unitProver unit s (act s)) s
      = .next (answered p .range kind .empty (renewed p (namedUnits unit) s)) := by
  rw [serve_supplied hsup, unitProver, if_neg hunit]
  rfl

/-- The requests on a run that only its holder may have carried out are served alike. -/
theorem exec_runConfiguration {i : Instr} {unit kind : Nat} (h : runConfiguration i = some (p, unit, kind)) :
    ∃ act : State → Run → Reply, ∀ s, exec i s
      = serve p kind (namedUnits unit) (fun s => withRun unit s fun r => asHolder p (.run r) s (act s r)) s := by
  cases i <;> cases h
  case setService v => exact ⟨_, execSetService.eq_1 p unit v⟩
  case setPeriod v => exact ⟨_, execSetPeriod.eq_1 p unit v⟩
  case setKFactor v => exact ⟨_, execSetKFactor.eq_1 p unit v⟩
  case setSecurity w e => exact ⟨_, execSetSecurity.eq_1 p unit w e⟩
  case clearRunFault => exact ⟨_, execClearRunFault.eq_1 p unit⟩
  case addPoint f m e => exact ⟨_, execAddPoint.eq_1 p unit f m e⟩
  case changePoint f m e => exact ⟨_, execChangePoint.eq_1 p unit f m e⟩
  case removePoint f => exact ⟨_, execRemovePoint.eq_1 p unit f⟩
  case acceptProve force => exact ⟨_, execAcceptProve.eq_1 p unit force⟩
  case discardProve => exact ⟨_, execDiscardProve.eq_1 p unit⟩

/-- Queueing for the units a port lacks is queueing for each: for one it holds nothing changes. -/
theorem queue_lacked {v : UnitId} (huv : v ≠ u) (s : State) :
    ([u, v].filter fun x => !s.holds p x).foldl (queuePort p) s
      = (s.setClaim u ((s.claim u).refusing p)).setClaim v ((s.claim v).refusing p) := by
  have hstep : (queuePort p s u).claim v = s.claim v := by rw [queuePort_refusing, setClaim_ne _ huv]
  have hheldv : (queuePort p s u).holds p v = s.holds p v := by rw [State.holds, hstep, State.holds]
  have hboth : queuePort p (queuePort p s u) v = (s.setClaim u ((s.claim u).refusing p)).setClaim v ((s.claim v).refusing p) := by
    rw [queuePort_refusing p _ v, hstep, queuePort_refusing]
  rw [← hboth]
  cases hu : s.holds p u <;> cases hv : s.holds p v <;> simp only [List.filter, hu, hv, Bool.not_false, Bool.not_true, List.foldl]
  · rw [queuePort_of_holds (hheldv.trans hv)]
  · rw [queuePort_of_holds hu]
  · rw [queuePort_of_holds hu, queuePort_of_holds hv]

theorem unitOf_of_runOf_eq_none {unit : Nat} (h : runOf unit = none) (h5 : unit ≠ 5) : unitOf unit = none := by
  refine unitOf_eq_none ?_
  by_contra hnot
  obtain rfl | rfl | rfl | rfl : unit = 1 ∨ unit = 2 ∨ unit = 3 ∨ unit = 4 := by omega
  all_goals exact nomatch h

theorem startUnits_of_none {unit : Nat} (h : runOf unit = none) : startUnits unit = [.prover] := by
  unfold startUnits
  split
  · rfl
  · rename_i h5
    rw [namedUnits, unitOf_of_runOf_eq_none h h5]
    rfl

/-- The units among these that the port lacks (R154). -/
theorem lacked_eq (p : Port) (u v : UnitId) (s : State) : ([u, v].filter fun x => !s.holds p x) =
    (if s.holds p u = true then [] else [u]) ++ (if s.holds p v = true then [] else [v]) := by
  cases hu : s.holds p u <;> cases hv : s.holds p v <;> simp [hu, hv]

theorem startProve_notHolder {r : Run} {k m tol csp : Nat} (hsup : s.retention.supplied = true)
    (hlacks : ([UnitId.run r, .prover].filter fun x => !(renewed p [.run r, .prover] s).holds p x) ≠ []) :
    exec (.startProve p (runNumber r) k m tol csp) s = .next (answered p .notHolder 27
      (notHolder p ([UnitId.run r, .prover].filter fun x => !(renewed p [.run r, .prover] s).holds p x)
        (renewed p [.run r, .prover] s)).body
      (notHolder p ([UnitId.run r, .prover].filter fun x => !(renewed p [.run r, .prover] s).holds p x)
        (renewed p [.run r, .prover] s)).state) := by
  show execStartProve .. = _
  rw [execStartProve, serve_supplied hsup, startUnits_runNumber]
  simp only [withRun, runOf_runNumber]
  split
  · rename_i hcons
    rw [hcons]
    rfl
  · rename_i hnil
    exact absurd hnil hlacks

end Refused

/-- Settles O23: each request's checks, and the port joins the lists of the units it lacks. -/
theorem onlyTheHolderConfiguresARun : Obligations.OnlyTheHolderConfiguresARun := by
  refine ⟨fun i p unit kind s hsup hi => ?_, fun p u st hold tolT tolP tolB pref bpv timeout det acc band s hsup hheld => ⟨?_, ?_⟩,
    fun p r k m tol csp s hsup hheld => ?_,
    fun p unit st hold tolT tolP tolB pref bpv timeout det acc band k m tol csp s hsup => ⟨fun hunit => ?_, fun hunit => ⟨?_, ?_⟩,
      fun hunit => ?_⟩⟩
  · obtain ⟨act, hexec⟩ := exec_runConfiguration hi
    refine ⟨fun hrun => ?_, fun r hrun hheld => ?_⟩
    · rw [hexec, serve_run_range hsup hrun]
    · dsimp only
      rw [hexec, serve_run_notHolder hsup hrun hheld, queuePort_claimView, queuePort_refusing]
      rfl
  · show execSetLiveLimits p (unitNumber u) st hold tolT tolP tolB pref s = _
    unfold execSetLiveLimits
    exact held_request_notHolder hsup hheld
  · rintro rfl
    refine ⟨?_, ?_⟩
    · show execSetProver p 5 bpv timeout det acc band s = _
      unfold execSetProver
      exact prover_request_notHolder hsup hheld
    · show execAbortProve p 5 s = _
      unfold execAbortProve
      exact prover_request_notHolder hsup hheld
  · have hlacked := lacked_eq p (.run r) .prover s
    have hlacks : ([UnitId.run r, .prover].filter fun x => !s.holds p x) ≠ [] := by
      cases hrun : s.holds p (.run r) <;> cases hprover : s.holds p .prover <;> simp_all
    dsimp only
    rw [startProve_notHolder hsup (by simpa only [renewed_holds] using hlacks)]
    simp only [notHolder]
    rw [queue_lacked (by simp), ← hlacked]
    simp only [renewed_holds, claimView_fun, setClaim_inProve, renewed_inProve]
  · show execSetLiveLimits .. = _
    unfold execSetLiveLimits
    refine (unit_request_range hsup hunit).trans ?_
    rw [show namedUnits unit = [] by simp [namedUnits, hunit], renewed_nil]
  · show execSetProver .. = _
    unfold execSetProver
    exact prover_request_range hsup hunit
  · show execAbortProve .. = _
    unfold execAbortProve
    exact prover_request_range hsup hunit
  · show execStartProve .. = _
    rw [execStartProve, serve_supplied hsup, startUnits_of_none hunit]
    simp only [withRun, hunit, refuse]

end Sys2Proof.Machine

/-! The end of a prove and what follows an abandoned pass (R141, R143), the pass timer (R134), and the requests of chapter 8. -/

namespace Sys2Proof.Machine

variable {s t : State} {u : ProveSetup}

/-! ## The common end (R143) -/

/-- A pending notice stays pending through postings of any kind. -/
theorem pending_posted (ks : List NoticeKind) (p : Port) (k : NoticeKind) :
    PostKept ks (fun s => ((s.link p).notices.get k).pending = true) where
  same h hlinks := by rwa [State.link, hlinks]
  post {s} q j x _ h := by
    rw [post_link]
    split
    · rename_i hp
      subst hp
      rw [NoticeSet.post_get]
      split
      · rfl
      · exact h
    · exact h

theorem endProve_notice (st : ProveState) (reason : Option ProveReason) (s : State) (p : Port) :
    ((endProve st reason s).link p).notices.proveEnd.pending = true := by
  rw [endProve_eq]
  rw [postAll_link]
  exact congrArg Notice.pending (NoticeSet.post_get (k := .proveEnd) _ 0 .proveEnd)

theorem endProve_links (st : ProveState) (reason : Option ProveReason) (s : State) :
    (endProve st reason s).links = (s.postAll .proveEnd 0).links := by
  obtain ⟨c, hc⟩ := restartProveHolds_touches { s with prove := endedProve st reason s }
  rw [endProve_eq, hc]
  rfl

theorem endedProve_passes_idle (h : s.passInProgress = false) (st : ProveState) (reason : Option ProveReason) :
    (endedProve st reason s).result.passes = s.prove.result.passes := by simp [endedProve, h]

theorem endedProve_passes (h : s.passInProgress = true) (st : ProveState) (reason : Option ProveReason) :
    (endedProve st reason s).result.passes = s.prove.result.passes ++ [bareRecord s (some .ended)] := by simp [endedProve, h]

/-- The hold timers of the proved run and of the prover restart for the ports that hold them. -/
theorem endProve_claim (hsetup : s.prove.result.setup = some u) {v : UnitId} (hv : v = .run u.run ∨ v = .prover) (st : ProveState)
    (reason : Option ProveReason) : (endProve st reason s).claim v = { s.claim v with
      timer := if (s.claim v).holder = none then (s.claim v).timer else some ((s.claim v).holdTime * 10000000) } := by
  have hends : State.endsWith { s with prove := endedProve st reason s } v := by
    obtain rfl | rfl := hv
    · exact .inr ⟨u.run, by simp [State.provedRun, endedProve, hsetup], rfl⟩
    · exact .inl rfl
  have hclaim : (endProve st reason s).claim v = (restartProveHolds { s with prove := endedProve st reason s }).claim v := by
    rw [endProve_eq]
    rfl
  rw [hclaim]
  have hcase : (_ = s.claim v ∧ ((s.claim v).holder = none ∨ _)) ∨ ((s.claim v).holder ≠ none ∧
    _ = { s.claim v with timer := some ((s.claim v).holdTime * 10000000) }) :=
    restartProveHolds_claim { s with prove := endedProve st reason s } v
  obtain ⟨hw, hnone | hnot⟩ | ⟨hheld, hw⟩ := hcase
  · rw [hw, if_pos hnone]
  · exact absurd hends hnot
  · rw [hw, if_neg hheld]

/-! ## After an abandoned pass (R141) -/

theorem attemptsLeft_iff (hsetup : s.prove.result.setup = some u) :
    s.attemptsLeft = true ↔ s.prove.result.attempts < u.maxAttempts := by
  simp [State.attemptsLeft, hsetup]

theorem afterAbandon_left (h : s.attemptsLeft = true) : afterAbandon s = resetConsecutive s := if_pos h

theorem afterAbandon_last (h : s.attemptsLeft = false) :
    afterAbandon s = endProve .failed (some .repeatability) (resetConsecutive s) := if_neg (Bool.eq_false_iff.mp h)

theorem not_attemptsLeft (hsetup : s.prove.result.setup = some u) (h : u.maxAttempts ≤ s.prove.result.attempts) :
    s.attemptsLeft = false := Bool.eq_false_iff.mpr fun hleft => not_lt.mpr h ((attemptsLeft_iff hsetup).mp hleft)

theorem afterAbandon_passes (h : s.passInProgress = false) : (afterAbandon s).prove.result.passes = s.prove.result.passes := by
  cases hleft : s.attemptsLeft with
  | true => rw [afterAbandon_left hleft]; rfl
  | false =>
    rw [afterAbandon_last hleft, endProve_prove]
    exact endedProve_passes_idle (s := resetConsecutive s) h _ _

/-- With no pass in progress the prove goes on in AWAIT_D1, or ends at its last attempt. -/
theorem afterAbandon_goesOnOrFails (hsetup : s.prove.result.setup = some u) (x : PassRecord) :
    GoesOnOrFails u s (afterAbandon (appendPass x s)) := by
  have hsetup' : (appendPass x s).prove.result.setup = some u := hsetup
  by_cases hlt : s.prove.result.attempts < u.maxAttempts
  · rw [afterAbandon_left ((attemptsLeft_iff hsetup').mpr hlt)]
    exact ⟨rfl, rfl, rfl, fun _ => ⟨rfl, rfl⟩, fun hle => absurd hlt (not_lt.mpr hle)⟩
  · rw [afterAbandon_last (not_attemptsLeft hsetup' (not_lt.mp hlt)), GoesOnOrFails, endProve_prove]
    exact ⟨rfl, rfl, rfl, fun h => absurd h hlt, fun _ => ⟨rfl, rfl, rfl⟩⟩

theorem abandonPass_abandoned (reason : AbandonReason) (s : State) : PassAbandoned reason s (abandonPass reason s) :=
  afterAbandon_passes (s := appendPass (bareRecord s (some reason)) s) rfl

theorem abandonPass_goesOnOrFails (hsetup : s.prove.result.setup = some u) (reason : AbandonReason) :
    GoesOnOrFails u s (abandonPass reason s) := afterAbandon_goesOnOrFails hsetup _

/-! ## The pass timer (R134) -/

/-- Settles O14: at the timer's last tick the pass is abandoned. -/
theorem passTimerExpiry : Obligations.PassTimerExpiry := by
  intro s u hsup hsetup
  have hexec : exec .passTimerExpiry s = .next (if timerDue s.prove.passTimer && s.passInProgress then abandonPass .timeout s else s) := by
    show execPassTimerExpiry s = _
    rw [execPassTimerExpiry, event_supplied hsup]
  refine ⟨fun hdue => ?_, fun hdue hpass => ?_⟩
  · rw [hexec, show timerDue s.prove.passTimer = false from Bool.eq_false_iff.mpr fun h => hdue ((timerDue_iff _).mp h)]
    rfl
  · obtain ⟨hcons, hworking, htimer, hgoes, hfails⟩ := abandonPass_goesOnOrFails hsetup .timeout
    refine ⟨abandonPass .timeout s, _, ?_, abandonPass_abandoned .timeout s, rfl, rfl, rfl, rfl, rfl, hcons, htimer, hworking,
      fun hlt => ⟨(hgoes hlt).1, ?_⟩, hfails⟩
    · rw [hexec, hdue, hpass]
      rfl
    · rw [abandonPass, afterAbandon_left (s := appendPass (bareRecord s (some .timeout)) s)
        ((attemptsLeft_iff (s := appendPass _ s) hsetup).mpr hlt)]
      exact ⟨rfl, rfl⟩

/-! ## Requests (8.1, 8.2, 8.7) -/

/-- A request on the prover from its holder is answered as the block replies. -/
theorem prover_request {p : Port} {kind : Nat} {act : State → Reply} {st : Status} {b : Body} (hsup : s.retention.supplied = true)
    (hheld : s.holds p .prover = true) (hact : act (renewed p [.prover] s) = ⟨t, st, b⟩) :
    serve p kind (namedUnits 5) (fun s => unitProver 5 s (asHolder p .prover s (act s))) s = .next (answered p st kind b t) := by
  rw [serve_supplied hsup, unitProver, if_pos rfl, asHolder, renewed_holds, if_pos hheld]
  show Host.Outcome.next (answered p (act (renewed p [.prover] s)).status kind (act (renewed p [.prover] s)).body
    (act (renewed p [.prover] s)).state) = _
  rw [hact]

theorem endProve_endedProve (st : ProveState) (reason : Option ProveReason) (s : State) :
    (endProve st reason s).prove.engine = .idle ∧ (endProve st reason s).prove.passTimer = none
      ∧ (endProve st reason s).prove.working = none ∧ (endProve st reason s).prove.result.state = st
      ∧ (endProve st reason s).prove.result.reason = reason
      ∧ (endProve st reason s).prove.result.endTime = some s.terminalTime := by
  rw [endProve_prove]
  exact ⟨rfl, rfl, rfl, rfl, rfl, rfl⟩

theorem renewed_passInProgress (p : Port) (us : List UnitId) (s : State) :
    (renewed p us s).passInProgress = s.passInProgress := by
  rw [State.passInProgress, renewed_prove, State.passInProgress]

/-- Settles O45: a RUNNING prove ends by the common end. -/
theorem proveIsAborted : Obligations.ProveIsAborted := by
  intro p r u s hsup hheld
  refine ⟨fun hidle => ?_, fun hrun hsetup hr => ?_⟩
  · show execAbortProve p 5 s = _
    unfold execAbortProve
    refine prover_request hsup hheld ?_
    simp [hidle, refuse]
  · subst hr
    have hrunning : s.proveRunning = true := decide_eq_true hrun
    have hsetup' : (renewed p [.prover] s).prove.result.setup = some u := by rw [renewed_prove, hsetup]
    obtain ⟨hengine, htimer, hworking, hstate, hreason, hend⟩ := endProve_endedProve .aborted (some .request) (renewed p [.prover] s)
    have hframe : Frame [.prove, .claims, .links] s (endProve .aborted (some .request) (renewed p [.prover] s)) :=
      ((renewed_frame ..).mono (by decide)).trans (ProveChange.frame (endProve_touches ..))
    refine ⟨endProve .aborted (some .request) (renewed p [.prover] s), ?_, hengine, htimer, hworking, hstate, hreason,
      by rw [hend, renewed_terminalTime], ?_, fun hpass => ?_, fun hpass => ?_, ?_, fun v hv => ?_, hframe.same .calcs (by decide),
      hframe.same .checkers (by decide), hframe.same .curves (by decide), hframe.same .ring (by decide), hframe.same .bank (by decide)⟩
    · show execAbortProve p 5 s = _
      unfold execAbortProve
      refine prover_request hsup hheld ?_
      simp [hrunning, okReply]
    · rw [endProve_prove]
      show (renewed p [.prover] s).prove.result.mf = _
      rw [renewed_prove]
    · rw [endProve_prove, endedProve_passes_idle (by rw [renewed_passInProgress, hpass]), renewed_prove]
    · refine ⟨bareRecord (renewed p [.prover] s) (some .ended), ?_, rfl, ?_⟩
      · rw [endProve_prove, endedProve_passes (by rw [renewed_passInProgress, hpass]), renewed_prove]
      · exact congrArg (fun q : Prove => q.result.attempts) (renewed_prove ..)
    · rw [endProve_links]
      obtain ⟨c, hc⟩ := renewed_claims p [.prover] s
      rw [hc]
      rfl
    · obtain ⟨hholder, -, hhold⟩ := renewed_claim p [.prover] v s
      rw [endProve_claim hsetup' hv, ← hholder, ← hhold]
      exact ⟨rfl, fun hne => if_neg hne⟩

theorem proverConfigOk_iff {bpv timeout det acc band : Nat} : proverConfigOk bpv timeout det acc band = true ↔
    10000 ≤ bpv ∧ bpv ≤ 500000000 ∧ 1 ≤ timeout ∧ timeout ≤ 600 ∧ 1 ≤ det ∧ det ≤ 10 ∧ 100 ≤ acc ∧ acc ≤ 20000
      ∧ 1000 ≤ band ∧ band ≤ 200000 := by
  simp only [proverConfigOk, Bool.and_eq_true, within_iff, and_assoc]

/-- START PROVE of a port that holds both units is answered by its checks. -/
theorem exec_startProve {p : Port} {r : Run} {k m tol csp : Nat} {st : Status} {b : Body} (hsup : s.retention.supplied = true)
    (hrun : s.holds p (.run r) = true) (hprover : s.holds p .prover = true)
    (hreply : (if (renewed p [.run r, .prover] s).proveRunning then refuse (renewed p [.run r, .prover] s) .state
        else if (renewed p [.run r, .prover] s).prove.result.state = .complete then refuse (renewed p [.run r, .prover] s) .resultPending
        else if !startOk k m tol csp then refuse (renewed p [.run r, .prover] s) .range
        else if ((renewed p [.run r, .prover] s).calcOf r).runState = .offline then refuse (renewed p [.run r, .prover] s) .offline
        else if ((renewed p [.run r, .prover] s).checker r).failed then refuse (renewed p [.run r, .prover] s) .pulseFailed
        else okReply (startProve r p k m tol csp (renewed p [.run r, .prover] s))) = ⟨t, st, b⟩) :
    exec (.startProve p (runNumber r) k m tol csp) s = .next (answered p st 27 b t) := by
  have hlacked : ([UnitId.run r, .prover].filter fun x => !(renewed p [.run r, .prover] s).holds p x) = [] := by
    simp [hrun, hprover]
  show execStartProve .. = _
  rw [execStartProve, serve_supplied hsup, startUnits_runNumber]
  simp only [withRun, runOf_runNumber]
  rw [hlacked]
  dsimp only
  rw [hreply]

/-- The renewal of two units does not show where both their timers are stopped after it. -/
theorem startProve_renewed (p : Port) (r : Run) (k m tol csp : Nat) (s : State) :
    startProve r p k m tol csp (renewed p [.run r, .prover] s) = { s with
      claims := (s.claims.set (.run r) { s.claim (.run r) with timer := none }).set .prover { s.claim .prover with timer := none }
      prove := { s.prove with
        engine := .awaitD1, passTimer := none, working := none
        result := { ProveResult.cold with
          state := .running
          setup := some { run := r, port := p, n := k, maxAttempts := m, tolerance := tol, csp := csp, startTime :=
            s.terminalTime } } } } := by
  obtain ⟨tr, htr⟩ := renew_eq p (.run r) s
  obtain ⟨tp, htp⟩ := renew_eq p .prover (renew p s (.run r))
  rw [renewed_cons, renewed_cons, renewed_nil, htp, htr]
  cases r <;> rfl

/-- Settles O44: the checks in their order, and what a start sets up. -/
theorem proveIsSetUp : Obligations.ProveIsSetUp := by
  refine ⟨fun p bpv timeout det acc band s hsup hheld => ⟨fun hrun => ?_, fun hidle hbad => ?_, fun hidle hgood => ?_⟩,
    fun p r k m tol csp s hsup hrun hprover => ⟨fun hstate => ?_, fun hstate => ?_, fun hnot hpending => ?_⟩⟩
  · show execSetProver p 5 bpv timeout det acc band s = _
    unfold execSetProver
    refine prover_request hsup hheld ?_
    simp [hrun, refuse]
  · have hrange : proverConfigOk bpv timeout det acc band = false := Bool.eq_false_iff.mpr fun h => hbad (proverConfigOk_iff.mp h)
    show execSetProver p 5 bpv timeout det acc band s = _
    unfold execSetProver
    refine prover_request hsup hheld ?_
    simp [hidle, hrange, refuse]
  · have hrange := proverConfigOk_iff.mpr hgood
    show execSetProver p 5 bpv timeout det acc band s = _
    unfold execSetProver
    refine prover_request hsup hheld ?_
    simp [hidle, hrange, okReply]
  · refine exec_startProve hsup hrun hprover ?_
    simp [State.proveRunning, hstate, refuse]
  · refine exec_startProve hsup hrun hprover ?_
    simp [State.proveRunning, hstate, refuse]
  · have hidle : s.proveRunning = false := by simp [State.proveRunning, hnot]
    have hok : startOk k m tol csp = true ↔ 2 ≤ k ∧ k ≤ 10 ∧ k ≤ m ∧ m ≤ 20 ∧ 50 ≤ tol ∧ tol ≤ 5000 ∧ 990000 ≤ csp ∧ csp ≤ 1010000 := by
      rw [startOk_iff]
      simp only [and_assoc]
    refine ⟨fun hbad => ?_, fun hgood hoff => ?_, fun hgood hon hfailed => ?_, fun hgood hon hfailed => ?_⟩
    · refine exec_startProve hsup hrun hprover ?_
      simp [hidle, hpending, Bool.eq_false_iff.mpr (mt hok.mp hbad), refuse]
    · refine exec_startProve hsup hrun hprover ?_
      simp [hidle, hpending, hok.mpr hgood, hoff, refuse]
    · refine exec_startProve hsup hrun hprover ?_
      simp [hidle, hpending, hok.mpr hgood, hon, hfailed, refuse]
    · refine exec_startProve hsup hrun hprover ?_
      rw [startProve_renewed]
      simp [hidle, hpending, hok.mpr hgood, hon, hfailed, okReply, ProveResult.cold]

end Sys2Proof.Machine

/-! Detector events (R131, R132). -/

namespace Sys2Proof.Machine

variable {s : State} {u : ProveSetup} {d : Detector}

theorem detectorEvent_idle (h : s.prove.engine = .idle) (d : Detector) : detectorEvent d s = s := by
  simp [detectorEvent, h]

theorem detectorEvent_begins (h : s.prove.engine = .awaitD1) : detectorEvent .d1 s = beginPass s := by
  simp [detectorEvent, h]

theorem detectorEvent_d2 (h : s.prove.engine = .inPass) : detectorEvent .d2 s = { s with prove := { s.prove with
    engine := .awaitEnd, working := s.prove.working.map (fun w => { w with d2 := some s.prove.timebase }) } } := by
  simp [detectorEvent, h]

theorem detectorEvent_strayD1 (h : s.passInProgress = true) : detectorEvent .d1 s = strayD1 s := by
  obtain hengine | hengine := passInProgress_iff.mp h <;> simp [detectorEvent, hengine]

theorem detectorEvent_strayD2 (hidle : s.prove.engine ≠ .idle) (hpass : s.prove.engine ≠ .inPass) :
    detectorEvent .d2 s = strayD2 s := by
  cases hengine : s.prove.engine with
  | idle => exact absurd hengine hidle
  | inPass => exact absurd hengine hpass
  | awaitD1 => simp [detectorEvent, hengine]
  | awaitEnd => simp [detectorEvent, hengine]

/-- The state in which a stray D1 has been counted and its pass abandoned. -/
def strayPass (s : State) : State := resetConsecutive (appendPass (bareRecord s (some .detector)) (countDetectorError s))

theorem strayD2_eq (s : State) : strayD2 s = if s.prove.config.detectorLimit ≤ s.prove.result.detectorErrors + 1 then
    endProve .failed (some .detector) (countDetectorError s) else countDetectorError s :=
  if_congr decide_eq_true_iff rfl rfl

theorem strayD1_eq (s : State) : strayD1 s = if s.prove.config.detectorLimit ≤ s.prove.result.detectorErrors + 1 then
      endProve .failed (some .detector) (strayPass s)
    else if (strayPass s).attemptsLeft then beginPass (strayPass s) else endProve .failed (some .repeatability) (strayPass s) :=
  if_congr decide_eq_true_iff rfl rfl

theorem strayPass_passes (s : State) :
    (strayPass s).prove.result.passes = s.prove.result.passes ++ [bareRecord s (some .detector)] := rfl

theorem endProve_detectorErrors (st : ProveState) (reason : Option ProveReason) (s : State) :
    (endProve st reason s).prove.result.detectorErrors = s.prove.result.detectorErrors := by
  rw [endProve_prove]
  rfl

/-- A stray D2 below the limit is counted alone, and at the limit it ends the prove. -/
theorem strayD2_outcome (s : State) : (strayD2 s).prove.result.detectorErrors = s.prove.result.detectorErrors + 1
    ∧ (s.prove.result.detectorErrors + 1 < s.prove.config.detectorLimit → strayD2 s = countDetectorError s)
    ∧ (s.prove.config.detectorLimit ≤ s.prove.result.detectorErrors + 1 →
      strayD2 s = endProve .failed (some .detector) (countDetectorError s)) := by
  rw [strayD2_eq]
  refine ⟨?_, fun h => if_neg (not_le.mpr h), fun h => if_pos h⟩
  split
  · exact endProve_detectorErrors _ _ (countDetectorError s)
  · rfl

/-- A stray D1 below the limit abandons its pass and begins the next attempt where one is left. -/
theorem strayD1_outcome (hsetup : s.prove.result.setup = some u) :
    (strayD1 s).prove.result.detectorErrors = s.prove.result.detectorErrors + 1
    ∧ (s.prove.result.detectorErrors + 1 < s.prove.config.detectorLimit → s.prove.result.attempts < u.maxAttempts →
      strayD1 s = beginPass (strayPass s))
    ∧ (s.prove.result.detectorErrors + 1 < s.prove.config.detectorLimit → u.maxAttempts ≤ s.prove.result.attempts →
      strayD1 s = endProve .failed (some .repeatability) (strayPass s))
    ∧ (s.prove.config.detectorLimit ≤ s.prove.result.detectorErrors + 1 → strayD1 s = endProve .failed (some .detector) (strayPass s)) := by
  have hsetup' : (strayPass s).prove.result.setup = some u := hsetup
  rw [strayD1_eq]
  refine ⟨?_, fun h hlt => ?_, fun h hle => ?_, fun h => if_pos h⟩
  · split
    · exact endProve_detectorErrors _ _ (strayPass s)
    · split
      · rfl
      · exact endProve_detectorErrors _ _ (strayPass s)
  · rw [if_neg (not_le.mpr h), if_pos ((attemptsLeft_iff hsetup').mpr hlt)]
  · rw [if_neg (not_le.mpr h), if_neg (Bool.eq_false_iff.mp (not_attemptsLeft hsetup' hle))]

theorem exec_detectorActuation (hsup : s.retention.supplied = true) (stamp : Nat) :
    exec (.detectorActuation d stamp) s = .next (detectorEvent d (s.comeTo stamp)) := by
  show execDetectorActuation d stamp s = _
  rw [execDetectorActuation, event_supplied hsup]

theorem endProve_failed (reason : ProveReason) (s : State) : (endProve .failed (some reason) s).prove.engine = .idle
    ∧ (endProve .failed (some reason) s).prove.result.state = .failed
    ∧ (endProve .failed (some reason) s).prove.result.reason = some reason := by
  obtain ⟨hengine, -, -, hstate, hreason, -⟩ := endProve_endedProve .failed (some reason) s
  exact ⟨hengine, hstate, hreason⟩

/-- Settles O13: events in order, and the error count of those out of order. -/
theorem detectorActuations : Obligations.DetectorActuations := by
  refine ⟨fun d stamp s hsup => ⟨fun hidle => ?_, fun hawait hd => ?_, fun hpass hd w hw => ?_⟩,
    fun d stamp s u hsup hs hrun hsetup => ?_⟩
  · rw [exec_detectorActuation hsup, detectorEvent_idle (s := s.comeTo stamp) hidle]
  · subst hd
    rw [exec_detectorActuation hsup, detectorEvent_begins (s := s.comeTo stamp) hawait, beginPass, comeTo_timebase]
    rfl
  · subst hd
    rw [exec_detectorActuation hsup, detectorEvent_d2 (s := s.comeTo stamp) hpass, comeTo_timebase, comeTo_working, hw]
    rfl
  · have hidle : s.prove.engine ≠ .idle := fun h => absurd hrun (hs.idle.mp h)
    intro x errors hevent
    obtain ⟨rfl, hpass⟩ | ⟨rfl, hpass⟩ := hevent
    · obtain ⟨herrors, hbelow, hlimit⟩ := strayD2_outcome (s.comeTo stamp)
      refine ⟨_, by rw [exec_detectorActuation hsup, detectorEvent_strayD2 (s := s.comeTo stamp) hidle hpass], herrors,
        fun hlt _ => by rw [hbelow hlt]; rfl, fun _ h => (nomatch h), fun _ h => (nomatch h), fun hle => ?_⟩
      rw [hlimit hle]
      exact endProve_failed ..
    · obtain ⟨herrors, hnext, hlast, hlimit⟩ := strayD1_outcome (s := s.comeTo stamp) hsetup
      refine ⟨_, by rw [exec_detectorActuation hsup, detectorEvent_strayD1 (s := s.comeTo stamp) hpass], herrors,
        fun _ h => (nomatch h), fun hlt _ hleft => ?_, fun hlt _ hle => ?_, fun hle => ?_⟩
      · rw [hnext hlt hleft]
        exact ⟨rfl, rfl, rfl, hrun, _, strayPass_passes _, rfl, rfl⟩
      · rw [hlast hlt hle]
        exact endProve_failed ..
      · rw [hlimit hle]
        exact endProve_failed ..

end Sys2Proof.Machine

/-! Edges of an ONLINE run (R2 to R10): forward and reverse pulses and missing events, counted by the checker and
handed to the prove. -/

namespace Sys2Proof.Machine

variable {r : Run} {s t : State} {u : ProveSetup} {c : Checker}

/-! ## What the checker counts -/

theorem countUp_maxChannel (n : Nat) : countUp n Config.maxChannel = if n < 40000 then n + 1 else n := rfl

theorem Checker.pulse_eq (c : Checker) : c.pulse = { c with
    accepted := if c.accepted < 80000 then c.accepted + 1 else c.accepted
    windowPulses := if c.windowLength ≤ c.windowPulses + 1 then 0 else c.windowPulses + 1
    windowErrors := if c.windowLength ≤ c.windowPulses + 1 then 0 else c.windowErrors } := by
  unfold Checker.pulse
  dsimp only
  split
  · rfl
  · rfl

theorem Checker.latches_missing (c : Checker) (ch : Channel) :
    (c.missing ch).latches = true ↔ c.failed = false ∧ c.windowErrors + 1 = c.errorLimit := by
  cases ch <;> simp [Checker.latches, Checker.missing] <;> exact fun _ => decide_eq_true_iff

/-- A missing event and the pulse substituted for it. -/
theorem Checker.missed_pulse (c : Checker) (ch : Channel) : (c.missed ch).pulse = { c with
    accepted := if c.accepted < 80000 then c.accepted + 1 else c.accepted
    missingA := if ch = .a then (if c.missingA < 40000 then c.missingA + 1 else c.missingA) else c.missingA
    missingB := if ch = .b then (if c.missingB < 40000 then c.missingB + 1 else c.missingB) else c.missingB
    windowPulses := if c.windowLength ≤ c.windowPulses + 1 then 0 else c.windowPulses + 1
    windowErrors := if c.windowLength ≤ c.windowPulses + 1 then 0 else c.windowErrors + 1
    failed := if c.failed = false ∧ c.windowErrors + 1 = c.errorLimit then true else c.failed
    failureMark := if c.failed = false ∧ c.windowErrors + 1 = c.errorLimit then true else c.failureMark } := by
  rw [Checker.pulse_eq]
  unfold Checker.missed
  by_cases hlatch : c.failed = false ∧ c.windowErrors + 1 = c.errorLimit
  · rw [if_pos ((Checker.latches_missing c ch).mpr hlatch), if_pos hlatch, if_pos hlatch]
    cases ch <;> rfl
  · rw [if_neg (mt (Checker.latches_missing c ch).mp hlatch), if_neg hlatch, if_neg hlatch]
    cases ch <;> rfl

/-! ## Items handed to the prove (R10) -/

theorem hand_idle (h : s.provingRun r = false) (x : Handed) : hand r x s = s := if_neg (Bool.eq_false_iff.mp h)

theorem hand_proving (h : s.provingRun r = true) (x : Handed) : hand r x s = proveItem x s := if_pos h

theorem provingRun_of (hstate : s.prove.result.state = .running) (hsetup : s.prove.result.setup = some u) (hr : u.run = r) :
    s.provingRun r = true := by
  simp [State.provingRun, State.proveRunning, State.provedRun, hstate, hsetup, hr]

theorem provingRun_of_state (h : s.prove.result.state ≠ .running) : s.provingRun r = false := by
  simp [State.provingRun, State.proveRunning, h]

/-- A pulse before D2 touches the prove alone. -/
theorem provePulse_early (h : s.prove.engine ≠ .awaitEnd) : ∃ p, provePulse s = { s with prove := p } := by
  unfold provePulse
  split
  · exact ⟨_, rfl⟩
  · rename_i hend _ _
    exact absurd hend h
  · exact ⟨s.prove, rfl⟩

/-- Between passes a pulse is ignored. -/
theorem provePulse_idle (h : s.passInProgress = false) : provePulse s = s := by
  unfold provePulse
  split
  · rename_i _ hengine _
    simp [State.passInProgress, hengine] at h
  · rename_i _ hengine _ _
    simp [State.passInProgress, hengine] at h
  · rfl

theorem provePulse_inPass {w : WorkingPass} (hengine : s.prove.engine = .inPass) (hw : s.prove.working = some w) :
    provePulse s = { s with prove := { s.prove with working := some (if w.first.isSome then { w with n := w.n + 1 }
      else { w with first := some s.prove.timebase }) } } := by
  simp only [provePulse, hengine, hw]
  cases w.first <;> rfl

theorem hand_pulse_idle (h : s.passInProgress = false) : hand r .pulse s = s := by
  unfold hand
  split
  · exact provePulse_idle h
  · rfl

/-- What an abandoned pass leaves reads the result record, the working pass and the clock alone. -/
theorem PassAbandoned.congr {v : State} {reason : AbandonReason} (h : PassAbandoned reason v t)
    (hprove : v.prove = s.prove) (htime : v.terminalTime = s.terminalTime) : PassAbandoned reason s t := by
  unfold PassAbandoned at h ⊢
  rwa [hprove, htime] at h

theorem GoesOnOrFails.congr {v : State} (h : GoesOnOrFails u v t) (hprove : v.prove = s.prove) : GoesOnOrFails u s t := by
  unfold GoesOnOrFails at h ⊢
  rwa [hprove] at h

/-! ## The edges -/

theorem onlineEdge_eq (r : Run) (ch : Channel) (high : Bool) (s : State) : onlineEdge r ch high s
    = countItem r (classify ch high (s.checker r).expectation).1
      (s.setChecker r { s.checker r with expectation := (classify ch high (s.checker r).expectation).2 }) := rfl

theorem exec_onlineEdge {ch : Channel} {high : Bool} {stamp : Nat} (hsup : s.retention.supplied = true)
    (hon : (s.calcOf r).runState = .online) : exec (.risingEdge r ch high stamp) s = .next (onlineEdge r ch high (s.comeTo stamp)) := by
  rw [exec_risingEdge hsup, if_pos hon]

theorem classify_forward {e : Expectation} (h : e ≠ .bNext) : classify .a false e = (.forward, .bNext) := by
  cases e <;> first | rfl | exact absurd rfl h

theorem classify_second {e : Expectation} (h : e ≠ .aNext) : classify .b true e = (.nothing, .aNext) := by
  cases e <;> first | rfl | exact absurd rfl h

theorem onlineEdge_forward (h : (s.checker r).expectation ≠ .bNext) : onlineEdge r .a false s
    = hand r .pulse (s.setChecker r ({ s.checker r with expectation := .bNext } : Checker).pulse) := by
  rw [onlineEdge_eq, classify_forward h]
  dsimp only [countItem, countPulse]
  rw [setChecker_self]
  exact congrArg (fun v => hand r .pulse { s with checkers := v }) (PerRun.set_set ..)

theorem onlineEdge_second (h : (s.checker r).expectation ≠ .aNext) :
    onlineEdge r .b true s = s.setChecker r { s.checker r with expectation := .aNext } := by
  rw [onlineEdge_eq, classify_second h]
  rfl

/-- The reverse pulse counted, before it is handed. -/
def reverseCounted (r : Run) (s : State) : State :=
  let c := s.checker r
  State.setChecker (if c.reverse = 0 then s.postAll .reverseFlow (unitBit (.run r)) else s) r
    { c with expectation := .either, reverse := if c.reverse < 40000 then c.reverse + 1 else c.reverse }

theorem onlineEdge_reverse (r : Run) (s : State) : onlineEdge r .a true s = hand r .reverse (reverseCounted r s) := by
  rw [onlineEdge_eq]
  dsimp only [classify, countItem, countReverse, reverseCounted]
  rw [setChecker_self]
  dsimp only
  rw [countUp_maxChannel]
  split
  · exact congrArg (fun v => hand r .reverse (State.postAll { s with checkers := v } .reverseFlow (unitBit (.run r)))) (PerRun.set_set ..)
  · exact congrArg (fun v => hand r .reverse { s with checkers := v }) (PerRun.set_set ..)

theorem reverseCounted_frame (r : Run) (s : State) : Frame [.checkers, .links] s (reverseCounted r s) := by
  unfold reverseCounted
  dsimp only
  split
  · exact Frame.trans ((links_frame ..).mono (by decide)) ((setChecker_frame ..).mono (by decide))
  · exact (setChecker_frame ..).mono (by decide)

theorem reverseCounted_checker (r : Run) (s : State) : (reverseCounted r s).checker r = { s.checker r with
    expectation := .either
    reverse := if (s.checker r).reverse < 40000 then (s.checker r).reverse + 1 else (s.checker r).reverse } := setChecker_self ..

theorem reverseCounted_notice (h : (s.checker r).reverse = 0) (p : Port) :
    (((reverseCounted r s).link p).notices.get .reverseFlow).pending = true := by
  have hlinks : (reverseCounted r s).link p = (s.postAll .reverseFlow (unitBit (.run r))).link p := by
    unfold reverseCounted
    dsimp only
    rw [if_pos h]
    rfl
  rw [hlinks, postAll_link, NoticeSet.post_get, if_pos rfl]

/-- Settles O7: the pulse forward and in reverse, and what the prove makes of a reverse pulse. -/
theorem classifiedEdges : Obligations.ClassifiedEdges := by
  refine ⟨fun r stamp s hsup hon hidle => ⟨fun he => ?_, fun he => ?_, ?_⟩, fun r stamp s hsup hon hidle => ?_,
    fun r stamp s u hsup hon hrun hsetup hr => ⟨?_, fun he => ?_, ?_⟩⟩
  · rw [exec_onlineEdge hsup hon, onlineEdge_forward (s := s.comeTo stamp) he,
      hand_idle (s := (s.comeTo stamp).setChecker r _) hidle, Checker.pulse_eq]
    rfl
  · rw [exec_onlineEdge hsup hon, onlineEdge_second (s := s.comeTo stamp) he]
    rfl
  · rw [exec_onlineEdge hsup hon]
    rfl
  · have hframe := reverseCounted_frame r (s.comeTo stamp)
    have hnot : (reverseCounted r (s.comeTo stamp)).provingRun r = false := by
      rw [State.provingRun, State.proveRunning, State.provedRun,
        show (reverseCounted r (s.comeTo stamp)).prove = (s.comeTo stamp).prove from hframe.same .prove (by decide)]
      exact hidle
    rw [exec_onlineEdge hsup hon, onlineEdge_reverse, hand_idle hnot]
    rfl
  · rw [exec_onlineEdge hsup hon]
    rfl
  · rw [exec_onlineEdge hsup hon, onlineEdge_second (s := s.comeTo stamp) he]
    rfl
  · have hframe := reverseCounted_frame r (s.comeTo stamp)
    have hprove : (reverseCounted r (s.comeTo stamp)).prove = (s.comeTo stamp).prove := hframe.same .prove (by decide)
    have hresult : (reverseCounted r (s.comeTo stamp)).prove.result = s.prove.result := by rw [hprove]; rfl
    have hpassing : (reverseCounted r (s.comeTo stamp)).passInProgress = s.passInProgress := by
      rw [State.passInProgress, hprove]
      rfl
    have hproving : (reverseCounted r (s.comeTo stamp)).provingRun r = true :=
      provingRun_of (by rw [hresult, hrun]) (by rw [hresult, hsetup]) hr
    refine ⟨_, by rw [exec_onlineEdge hsup hon, onlineEdge_reverse], ?_, fun hzero p => ?_, fun hpass => ⟨?_, ?_⟩, fun hpass => ?_⟩
    · rw [checker_congr (hand_checkers ..), reverseCounted_checker]
      rfl
    · exact (pending_posted _ p .reverseFlow).hand r .reverse _ (reverseCounted_notice (s := s.comeTo stamp) hzero p)
    · rw [hand_proving hproving, proveItem, hpassing, if_pos hpass]
      exact ((abandonPass_abandoned ..).congr (s := s.comeTo stamp) hprove (hframe.same .terminalTime (by decide)))
    · rw [hand_proving hproving, proveItem, hpassing, if_pos hpass]
      exact (abandonPass_goesOnOrFails (by rw [hresult, hsetup]) .reverse).congr (s := s.comeTo stamp) hprove
    · rw [hand_proving hproving, proveItem, hpassing, hpass, if_neg Bool.false_ne_true]
      exact ⟨hprove, hframe.same .claims (by decide)⟩

/-- Settles O10: before D2 a pulse touches the working pass alone. -/
theorem pulseDuringPass : Obligations.PulseDuringPass := by
  intro r stamp s hsup hon hproving he hend
  set v := (s.comeTo stamp).setChecker r ({ s.checker r with expectation := .bNext } : Checker).pulse with hv
  have hexec : exec (.risingEdge r .a false stamp) s = .next (provePulse v) := by
    rw [exec_onlineEdge hsup hon, onlineEdge_forward (s := s.comeTo stamp) he]
    exact congrArg _ (hand_proving (s := v) hproving .pulse)
  have hchecker : v.checker r = ({ s.checker r with expectation := .bNext } : Checker).pulse := setChecker_self ..
  obtain ⟨p, hp⟩ := provePulse_early (s := v) hend
  refine ⟨provePulse v, hexec, ?_, ?_, ?_, ?_, ?_, fun hawait => ?_, fun hpass w hw => ?_⟩
  · rw [hp]
    show (v.checker r).accepted = _
    rw [hchecker, Checker.pulse_eq]
  · rw [hp]; rfl
  · rw [hp]; rfl
  · rw [hp]; rfl
  · rw [hp]; rfl
  · rw [provePulse_idle (s := v) (by simp [hv, State.passInProgress, hawait])]
    rfl
  · rw [provePulse_inPass (s := v) hpass hw]
    show _ = _
    rw [← comeTo_timebase]
    rfl

/-! ## A missing pulse (R7, R8) -/

/-- The missing event counted and tested, before it is handed. -/
def missingCounted (r : Run) (ch : Channel) (s : State) : State :=
  if ((s.checker r).missing ch).latches then (s.setChecker r ((s.checker r).missed ch)).postAll .runFault (unitBit (.run r))
  else s.setChecker r ((s.checker r).missed ch)

theorem countMissing_eq (r : Run) (ch : Channel) (s : State) : countMissing r ch s =
    if ((s.checker r).missing ch).latches then hand r .latchSet (hand r .missing (missingCounted r ch s))
    else hand r .missing (missingCounted r ch s) := by
  unfold countMissing missingCounted Checker.missed
  dsimp only
  split
  · rfl
  · rfl

theorem missingCounted_frame (r : Run) (ch : Channel) (s : State) : Frame [.checkers, .links] s (missingCounted r ch s) := by
  unfold missingCounted
  split
  · exact ((setChecker_frame ..).mono (by decide)).trans ((links_frame ..).mono (by decide))
  · exact (setChecker_frame ..).mono (by decide)

/-- The channel whose pulse an edge of the channel finds missing. -/
def missingAt : Channel → Channel
  | .a => .b
  | .b => .a

/-- The expectation that finds a pulse missing at an edge of the channel. -/
def finding : Channel → Expectation
  | .a => .bNext
  | .b => .aNext

theorem onlineEdge_missing {ch : Channel} (h : (s.checker r).expectation = finding ch) :
    onlineEdge r ch (decide (ch = .b)) s = countPulse r (countMissing r (missingAt ch) s) := by
  have hsame : s.setChecker r { s.checker r with expectation := finding ch } = s := by
    rw [← h]
    exact setChecker_same ..
  rw [onlineEdge_eq, h]
  cases ch with
  | a => exact congrArg (fun v => countPulse r (countMissing r .b v)) hsame
  | b => exact congrArg (fun v => countPulse r (countMissing r .a v)) hsame

theorem countMissing_checker (r : Run) (ch : Channel) (s : State) :
    (countMissing r ch s).checker r = (s.checker r).missed ch := by
  rw [checker_congr (countMissing_checkers ..), setChecker_self]

/-- The pulse substituted for the missing one is handed after the error, when no pass is in progress any more. -/
theorem countPulse_eq (h : s.passInProgress = false) : countPulse r s = s.setChecker r (s.checker r).pulse :=
  hand_pulse_idle (s := s.setChecker r (s.checker r).pulse) h

theorem abandonPass_left (hsetup : s.prove.result.setup = some u) (h : s.prove.result.attempts < u.maxAttempts)
    (reason : AbandonReason) :
    abandonPass reason s = resetConsecutive (appendPass (bareRecord s (some reason)) s) :=
  afterAbandon_left ((attemptsLeft_iff (s := appendPass _ s) hsetup).mpr h)

theorem abandonPass_last (hsetup : s.prove.result.setup = some u) (h : u.maxAttempts ≤ s.prove.result.attempts)
    (reason : AbandonReason) :
    abandonPass reason s = endProve .failed (some .repeatability) (resetConsecutive (appendPass (bareRecord s (some reason)) s)) :=
  afterAbandon_last (not_attemptsLeft (s := appendPass _ s) hsetup h)

theorem abandonPass_idle (hsetup : s.prove.result.setup = some u) (reason : AbandonReason) :
    (abandonPass reason s).passInProgress = false := by
  obtain ⟨-, -, -, hgoes, hfails⟩ := abandonPass_goesOnOrFails hsetup reason
  by_cases hlt : s.prove.result.attempts < u.maxAttempts
  · simp [State.passInProgress, (hgoes hlt).1]
  · simp [State.passInProgress, (hfails (not_lt.mp hlt)).1]

end Sys2Proof.Machine

/-! A missing pulse (R7, R8) on a run without and with a prove. -/

namespace Sys2Proof.Machine

variable {r : Run} {s v x : State} {u : ProveSetup}

/-- The pulse counted after a missing event replaces the checker that the event left. -/
theorem missingCounted_setChecker (r : Run) (ch : Channel) (c : Checker) (s : State) : (missingCounted r ch s).setChecker r c =
    State.setChecker (if (s.checker r).failed = false ∧ (s.checker r).windowErrors + 1 = (s.checker r).errorLimit then
      s.postAll .runFault (unitBit (.run r)) else s) r c := by
  unfold missingCounted
  by_cases h : (s.checker r).failed = false ∧ (s.checker r).windowErrors + 1 = (s.checker r).errorLimit
  · rw [if_pos h, if_pos ((Checker.latches_missing ..).mpr h)]
    exact congrArg (fun y => State.postAll { s with checkers := y } .runFault (unitBit (.run r))) (PerRun.set_set ..)
  · rw [if_neg h, if_neg (mt (Checker.latches_missing ..).mp h)]
    exact congrArg (fun y => { s with checkers := y }) (PerRun.set_set ..)

theorem missingCounted_idle (ch : Channel) (h : s.provingRun r = false) (y : Handed) :
    hand r y (missingCounted r ch s) = missingCounted r ch s := by
  refine hand_idle ?_ y
  rw [State.provingRun, State.proveRunning, State.provedRun,
    show (missingCounted r ch s).prove = s.prove from (missingCounted_frame r ch s).same .prove (by decide)]
  exact h

theorem countMissing_idle (ch : Channel) (h : s.provingRun r = false) : countMissing r ch s = missingCounted r ch s := by
  rw [countMissing_eq, missingCounted_idle ch h, missingCounted_idle ch h, ite_self]

theorem countPulse_missing_idle (ch : Channel) (h : s.provingRun r = false) : countPulse r (countMissing r ch s) =
    State.setChecker (if (s.checker r).failed = false ∧ (s.checker r).windowErrors + 1 = (s.checker r).errorLimit then
      s.postAll .runFault (unitBit (.run r)) else s) r ((s.checker r).missed ch).pulse := by
  have hnot : (missingCounted r ch s).provingRun r = false := by
    rw [State.provingRun, State.proveRunning, State.provedRun,
      show (missingCounted r ch s).prove = s.prove from (missingCounted_frame r ch s).same .prove (by decide)]
    exact h
  unfold countPulse
  rw [countMissing_checker, countMissing_idle ch h, missingCounted_setChecker, hand_idle]
  split
  · exact h
  · exact h

/-! ## On the run of a prove -/

theorem abandonPass_setup (reason : AbandonReason) (s : State) :
    (abandonPass reason s).prove.result.setup = s.prove.result.setup := by
  unfold abandonPass
  cases hleft : (appendPass (bareRecord s (some reason)) s).attemptsLeft with
  | true => rw [afterAbandon_left hleft]; rfl
  | false => rw [afterAbandon_last hleft, endProve_prove]; rfl

/-- A missing event handed to the prove of the run: the pass in progress is abandoned with PULSE. -/
theorem missing_handed (hproving : v.provingRun r = true) (hsetup : v.prove.result.setup = some u) :
    (hand r .missing v).prove.result.setup = some u ∧ (hand r .missing v).passInProgress = false
      ∧ (v.passInProgress = true → hand r .missing v = abandonPass .pulse v) ∧ (v.passInProgress = false → hand r .missing v = v) := by
  rw [hand_proving hproving]
  dsimp only [proveItem]
  split
  · rename_i hpass
    exact ⟨(abandonPass_setup ..).trans hsetup, abandonPass_idle hsetup .pulse, fun _ => rfl, fun h => absurd hpass (by simp [h])⟩
  · rename_i hpass
    exact ⟨hsetup, Bool.eq_false_iff.mpr hpass, fun h => absurd h hpass, fun _ => rfl⟩

/-- The setting of the latch handed to a prove ends it while it is RUNNING. -/
theorem hand_latchSet (hsetup : x.prove.result.setup = some u) (hr : u.run = r) : hand r .latchSet x =
    if x.prove.result.state = .running then endProve .failed (some .pulse) x else x := by
  split
  · rename_i hrun
    exact hand_proving (provingRun_of hrun hsetup hr) _
  · rename_i hnot
    exact hand_idle (provingRun_of_state hnot) _

theorem endProve_passInProgress (st : ProveState) (reason : Option ProveReason) (s : State) :
    (endProve st reason s).passInProgress = false := by
  rw [State.passInProgress, endProve_prove]
  rfl

/-- After the latch no pass is in progress, and the pass list stands. -/
theorem latch_handed (hsetup : x.prove.result.setup = some u) (hr : u.run = r) (hpass : x.passInProgress = false) :
    (hand r .latchSet x).passInProgress = false ∧ (hand r .latchSet x).prove.result.passes = x.prove.result.passes := by
  rw [hand_latchSet hsetup hr]
  split
  · exact ⟨endProve_passInProgress .., by rw [endProve_prove]; exact endedProve_passes_idle hpass _ _⟩
  · exact ⟨hpass, rfl⟩

/-- The latch ends a RUNNING prove FAILED with PULSE, unless the abandonment of its last attempt has ended it. -/
theorem latch_ends {st : Nat} (hproving : v.provingRun r = true) (hrun : v.prove.result.state = .running)
    (hsetup : v.prove.result.setup = some u) (hr : u.run = r) (hst : v.terminalTime = st) :
    let m := hand r .latchSet (hand r .missing v)
    m.prove.engine = .idle ∧ m.prove.passTimer = none ∧ m.prove.working = none ∧ m.prove.result.state = .failed
      ∧ m.prove.result.endTime = some st
      ∧ m.prove.result.reason = some (if v.passInProgress = true ∧ u.maxAttempts ≤ v.prove.result.attempts then .repeatability else .pulse)
      ∧ ∀ p, (m.link p).notices.proveEnd.pending = true := by
  obtain ⟨hsetup', -, habandon, hstands⟩ := missing_handed hproving hsetup
  intro m
  have hm : m = _ := hand_latchSet hsetup' hr
  by_cases hlast : v.passInProgress = true ∧ u.maxAttempts ≤ v.prove.result.attempts
  · obtain ⟨hpass, hle⟩ := hlast
    have hended : hand r .missing v = endProve .failed (some .repeatability) _ := (habandon hpass).trans (abandonPass_last hsetup hle .pulse)
    have hfailed : (hand r .missing v).prove.result.state ≠ .running := by
      rw [hended, endProve_prove]
      exact nofun
    rw [hm, if_neg hfailed, hended, if_pos ⟨hpass, hle⟩]
    obtain ⟨hengine, htimer, hworking, hstate, hreason, hend⟩ := endProve_endedProve .failed (some .repeatability)
      (resetConsecutive (appendPass (bareRecord v (some .pulse)) v))
    exact ⟨hengine, htimer, hworking, hstate, hend.trans (congrArg some hst), hreason, endProve_notice _ _ _⟩
  · have hrunning : (hand r .missing v).prove.result.state = .running ∧ (hand r .missing v).terminalTime = v.terminalTime := by
      cases hpass : v.passInProgress with
      | false => rw [hstands hpass]; exact ⟨hrun, rfl⟩
      | true =>
        have hlt : v.prove.result.attempts < u.maxAttempts := not_le.mp fun hle => hlast ⟨hpass, hle⟩
        rw [habandon hpass, abandonPass_left hsetup hlt]
        exact ⟨hrun, rfl⟩
    rw [hm, if_pos hrunning.1, if_neg hlast]
    obtain ⟨hengine, htimer, hworking, hstate, hreason, hend⟩ := endProve_endedProve .failed (some .pulse) (hand r .missing v)
    exact ⟨hengine, htimer, hworking, hstate, hend.trans (congrArg some (hrunning.2.trans hst)), hreason, endProve_notice _ _ _⟩

theorem missingCounted_notice (ch : Channel) (h : (s.checker r).failed = false ∧ (s.checker r).windowErrors + 1 = (s.checker r).errorLimit)
    (p : Port) : (((missingCounted r ch s).link p).notices.get .runFault).pending = true := by
  rw [missingCounted, if_pos ((Checker.latches_missing ..).mpr h), postAll_link, NoticeSet.post_get, if_pos rfl]

/-- Settles O8: the error first, then the substituted pulse, and the prove's part between them. -/
theorem missingPulseIsSubstituted : Obligations.MissingPulseIsSubstituted := by
  refine ⟨fun r ch stamp s hsup hon hidle => ?_, fun r ch stamp s u hsup hon hrun hsetup hr hengine => ?_⟩
  · intro c latch full up t he
    have hfinding : (s.checker r).expectation = finding ch := by cases ch <;> exact he
    rw [exec_onlineEdge hsup hon, onlineEdge_missing (s := s.comeTo stamp) hfinding,
      countPulse_missing_idle (s := s.comeTo stamp) (missingAt ch) hidle, Checker.missed_pulse]
    cases ch <;> rfl
  · intro c latch full up lastAttempt he
    have hfinding : (s.checker r).expectation = finding ch := by cases ch <;> exact he
    have hframe := missingCounted_frame r (missingAt ch) (s.comeTo stamp)
    have hprove : (missingCounted r (missingAt ch) (s.comeTo stamp)).prove = (s.comeTo stamp).prove := hframe.same .prove (by decide)
    have htime : (missingCounted r (missingAt ch) (s.comeTo stamp)).terminalTime = s.terminalTime :=
      hframe.same .terminalTime (by decide)
    have hresult : (missingCounted r (missingAt ch) (s.comeTo stamp)).prove.result = s.prove.result := by rw [hprove]; rfl
    have hpassing : (missingCounted r (missingAt ch) (s.comeTo stamp)).passInProgress = s.passInProgress := by
      rw [State.passInProgress, hprove]
      rfl
    have hcount := countMissing_eq r (missingAt ch) (s.comeTo stamp)
    generalize hv : missingCounted r (missingAt ch) (s.comeTo stamp) = v at *
    have hsetup' : v.prove.result.setup = some u := by rw [hresult, hsetup]
    have hrun' : v.prove.result.state = .running := by rw [hresult, hrun]
    have hproving := provingRun_of hrun' hsetup' hr
    obtain ⟨hsetupx, hidle, habandon, hstands⟩ := missing_handed hproving hsetup'
    obtain ⟨hidlem, hpasses⟩ := latch_handed hsetupx hr hidle
    have hlatch : ((s.comeTo stamp).checker r |>.missing (missingAt ch)).latches = true ↔ latch := Checker.latches_missing ..
    have hidlec : (countMissing r (missingAt ch) (s.comeTo stamp)).passInProgress = false := by
      rw [hcount]
      split
      · exact hidlem
      · exact hidle
    have hpassesc : (countMissing r (missingAt ch) (s.comeTo stamp)).prove.result.passes = (hand r .missing v).prove.result.passes := by
      rw [hcount]
      split
      · exact hpasses
      · rfl
    have hexec : exec (.risingEdge r ch (decide (ch = .b)) stamp) s = .next
        ((countMissing r (missingAt ch) (s.comeTo stamp)).setChecker r ((s.checker r).missed (missingAt ch)).pulse) := by
      rw [exec_onlineEdge hsup hon, onlineEdge_missing (s := s.comeTo stamp) hfinding, countPulse_eq hidlec, countMissing_checker]
      rfl
    refine ⟨_, hexec, ?_, fun hpass => ?_, fun hpass => ?_, fun hnot hpass => ?_, fun hnot hpass => ?_, fun hset => ?_⟩
    · rw [setChecker_self, Checker.missed_pulse]
      cases ch <;> rfl
    · rw [← hpassing] at hpass
      have habandoned : PassAbandoned .pulse v (hand r .missing v) := by
        rw [habandon hpass]
        exact abandonPass_abandoned ..
      exact hpassesc.trans (habandoned.congr (s := s.comeTo stamp) hprove htime)
    · rw [← hpassing] at hpass
      refine hpassesc.trans ?_
      rw [hstands hpass, hresult]
    · rw [← hpassing] at hpass
      rw [hcount, if_neg (mt hlatch.mp hnot), habandon hpass]
      exact (abandonPass_goesOnOrFails hsetup' .pulse).congr (s := s.comeTo stamp) hprove
    · rw [← hpassing] at hpass
      rw [hcount, if_neg (mt hlatch.mp hnot), hstands hpass]
      exact hprove
    · obtain ⟨hengine, htimer, hworking, hstate, hend, hreason, hnotice⟩ := latch_ends hproving hrun' hsetup' hr htime
      have hfault (p : Port) : ((v.link p).notices.get .runFault).pending = true := by
        rw [← hv]
        exact missingCounted_notice (s := s.comeTo stamp) _ hset p
      rw [hcount, if_pos (hlatch.mpr hset)]
      refine ⟨hengine, htimer, hworking, hstate, hend, ?_, fun p => ⟨?_, hnotice p⟩⟩
      · refine hreason.trans ?_
        rw [hpassing, hresult]
      · exact (pending_posted _ p .runFault).hand r .latchSet _ ((pending_posted _ p .runFault).hand r .missing _ (hfault p))

end Sys2Proof.Machine

/-! The end of a pass (R136 to R142): its figures, its record and the outcome of the prove. -/

namespace Sys2Proof.Machine

variable {s t : State} {u : ProveSetup}

/-! ## The figures (R137 to R139) -/

/-- Half-up is the nearest integer, a half going up, by the bounds of a division. -/
theorem halfUp_bounds (x : Nat) {d : Nat} (hd : 0 < d) :
    2 * halfUp x d * d ≤ 2 * x + d ∧ 2 * x + d < (2 * halfUp x d + 2) * d := by
  obtain ⟨hlow, hhigh⟩ := halfUp_nearest x hd
  exact ⟨hlow, by linarith⟩

theorem halfUp_eq {x d m : Nat} (hlow : 2 * m * d ≤ 2 * x + d) (hhigh : 2 * x + d < (2 * m + 2) * d) : halfUp x d = m := by
  refine Nat.div_eq_of_lt_le ?_ ?_
  · linarith
  · linarith

theorem byFactor_bounds (x f : Nat) :
    2 * byFactor x f * 1000000 ≤ 2 * (x * f) + 1000000 ∧ 2 * (x * f) + 1000000 < (2 * byFactor x f + 2) * 1000000 :=
  halfUp_bounds (x * f) (d := Config.ppm) (by decide)

theorem passFlow_stopped (ivm : Nat) {tD : Nat} (h : tD = 0) : passFlow ivm tD = 0 := if_pos h

theorem passFlow_running (ivm : Nat) {tD : Nat} (h : tD ≠ 0) : passFlow ivm tD = min 999999 (ivm * 36000 / tD) := if_neg h

theorem passFlow_le (ivm tD : Nat) : passFlow ivm tD ≤ 999999 := by
  by_cases h : tD = 0
  · simp [passFlow_stopped ivm h]
  · rw [passFlow_running ivm h]
    exact min_le_left ..

section Figures

variable (bpv csp tD : Nat) (g : Grade) (i : PassInputs)

theorem passFigures_ns : (passFigures bpv csp tD g i).ns = halfUp (i.n * tD * 10000) i.tP := rfl

theorem passFigures_ivm :
    (passFigures bpv csp tD g i).ivm = halfUp ((passFigures bpv csp tD g i).ns * 1000000) i.kmilli := rfl

theorem passFigures_q : (passFigures bpv csp tD g i).q = passFlow (passFigures bpv csp tD g i).ivm tD := rfl

theorem passFigures_ccfM : (passFigures bpv csp tD g i).ccfM
    = byFactor (passFigures bpv csp tD g i).ctlM (passFigures bpv csp tD g i).cplM := rfl

theorem passFigures_cmv : (passFigures bpv csp tD g i).cmv
    = byFactor (passFigures bpv csp tD g i).ivm (passFigures bpv csp tD g i).ccfM := rfl

theorem passFigures_ccfP : (passFigures bpv csp tD g i).ccfP
    = byFactor (byFactor csp (passFigures bpv csp tD g i).ctlP) (passFigures bpv csp tD g i).cplP := rfl

theorem passFigures_cpv : (passFigures bpv csp tD g i).cpv = byFactor bpv (passFigures bpv csp tD g i).ccfP := rfl

theorem passFigures_mfPass : (passFigures bpv csp tD g i).mfPass = if (passFigures bpv csp tD g i).cmv = 0 then none
    else some (halfUp ((passFigures bpv csp tD g i).cpv * 1000000) (passFigures bpv csp tD g i).cmv) := rfl

end Figures

theorem figuresValid_iff {f : PassFigures} : figuresValid f = true ↔ f.q ≠ 0 ∧ ∃ m, f.mfPass = some m ∧ 800000 ≤ m ∧ m ≤ 1200000 := by
  unfold figuresValid
  cases h : f.mfPass with
  | none => simp
  | some m => simp [mfOk_iff]

/-- Settles O12: each figure is its rounded quotient, and a VALID pass is one whose figures are in range. -/
theorem validPassFigures : Obligations.ValidPassFigures := by
  refine ⟨fun bpv csp tD g i => ?_, fun bpv csp tD g i hvalid => ?_, fun bpv csp tD m g i hcmv hq1 hq2 hlow hhigh h1 h2 => ?_⟩
  · have hns := passFigures_ns bpv csp tD g i
    have hivm := passFigures_ivm bpv csp tD g i
    have hq := passFigures_q bpv csp tD g i
    have hccfM := passFigures_ccfM bpv csp tD g i
    have hcmv := passFigures_cmv bpv csp tD g i
    have hccfP := passFigures_ccfP bpv csp tD g i
    have hcpv := passFigures_cpv bpv csp tD g i
    have hmf := passFigures_mfPass bpv csp tD g i
    dsimp only
    refine ⟨fun h => ?_, fun h => ?_, fun h => ?_, fun h hle => ?_, fun h hlt => ?_, rfl, rfl, ?_, ?_, rfl, rfl, ⟨_, byFactor_bounds .., ?_⟩,
      ?_, fun h => ?_, fun h => ⟨_, ?_, halfUp_bounds _ (Nat.pos_of_ne_zero h)⟩⟩
    · rw [hns]
      exact halfUp_bounds _ (Nat.pos_of_ne_zero h)
    · rw [hivm]
      exact halfUp_bounds _ (Nat.pos_of_ne_zero h)
    · rw [hq, passFlow_stopped _ h]
    · rw [hq, passFlow_running _ h, min_eq_right hle]
      exact ⟨Nat.div_mul_le_self .., by rw [mul_comm (_ + 1)]; exact Nat.lt_mul_div_succ _ (Nat.pos_of_ne_zero h)⟩
    · rw [hq, passFlow_running _ h, min_eq_left hlt.le]
    · rw [hccfM]
      exact byFactor_bounds ..
    · rw [hcmv]
      exact byFactor_bounds ..
    · rw [hccfP]
      exact byFactor_bounds ..
    · rw [hcpv]
      exact byFactor_bounds ..
    · rw [hmf, if_pos h]
    · rw [hmf, if_neg h]
  · have hmf := passFigures_mfPass bpv csp tD g i
    obtain ⟨hq, m, hm, h1, h2⟩ := figuresValid_iff.mp hvalid
    have hcmv : (passFigures bpv csp tD g i).cmv ≠ 0 := fun h => by
      rw [hmf, if_pos h] at hm
      exact nomatch hm
    rw [hmf, if_neg hcmv] at hm
    have hpos := Nat.pos_of_ne_zero hcmv
    obtain ⟨hlow, hhigh⟩ := halfUp_nearest ((passFigures bpv csp tD g i).cpv * 1000000) hpos
    rw [Option.some.inj hm] at hlow hhigh
    refine ⟨Nat.one_le_iff_ne_zero.mpr hq, passFlow_le _ _, hpos, m, by rw [hmf, if_neg hcmv, hm], h1, h2, hhigh, hlow⟩
  · have hm : (passFigures bpv csp tD g i).mfPass = some m := by
      rw [passFigures_mfPass, if_neg (Nat.ne_of_gt hcmv), halfUp_eq hlow hhigh]
    exact ⟨hm, figuresValid_iff.mpr ⟨Nat.one_le_iff_ne_zero.mp hq1, m, hm, h1, h2⟩⟩

/-! ## The repeatability test (R142) -/

theorem foldl_min_le (l : List Nat) (x : Nat) : l.foldl min x ≤ x ∧ ∀ y ∈ l, l.foldl min x ≤ y := by
  induction l generalizing x with
  | nil => exact ⟨le_refl _, nofun⟩
  | cons y l ih =>
    obtain ⟨hx, hl⟩ := ih (min x y)
    refine ⟨hx.trans (min_le_left ..), fun z hz => ?_⟩
    obtain rfl | hz := List.mem_cons.mp hz
    · exact hx.trans (min_le_right ..)
    · exact hl z hz

theorem le_foldl_max (l : List Nat) (x : Nat) : x ≤ l.foldl max x ∧ ∀ y ∈ l, y ≤ l.foldl max x := by
  induction l generalizing x with
  | nil => exact ⟨le_refl _, nofun⟩
  | cons y l ih =>
    obtain ⟨hx, hl⟩ := ih (max x y)
    refine ⟨(le_max_left ..).trans hx, fun z hz => ?_⟩
    obtain rfl | hz := List.mem_cons.mp hz
    · exact (le_max_right ..).trans hx
    · exact hl z hz

theorem foldl_min_mem (l : List Nat) (x : Nat) : l.foldl min x ∈ x :: l := by
  induction l generalizing x with
  | nil => exact List.mem_cons_self
  | cons y l ih =>
    have h := ih (min x y)
    rcases min_choice x y with hm | hm <;> rw [hm] at h <;> simp only [List.foldl_cons, hm, List.mem_cons] at h ⊢ <;> tauto

theorem foldl_max_mem (l : List Nat) (x : Nat) : l.foldl max x ∈ x :: l := by
  induction l generalizing x with
  | nil => exact List.mem_cons_self
  | cons y l ih =>
    have h := ih (max x y)
    rcases max_choice x y with hm | hm <;> rw [hm] at h <;> simp only [List.foldl_cons, hm, List.mem_cons] at h ⊢ <;> tauto

/-- The spread of the factors is within the tolerance exactly when that of each two of them is. -/
theorem repeatable_iff (tol : Nat) (l : List Nat) :
    repeatable tol l = true ↔ ∀ a ∈ l, ∀ b ∈ l, (a - b) * 1000000 ≤ tol * b := by
  cases l with
  | nil => simp [repeatable, largest, smallest]
  | cons x l =>
    obtain ⟨hminx, hminl⟩ := foldl_min_le l x
    obtain ⟨hmaxx, hmaxl⟩ := le_foldl_max l x
    have hmin (b : Nat) (hb : b ∈ x :: l) : smallest (x :: l) ≤ b := by
      obtain rfl | hb := List.mem_cons.mp hb
      · exact hminx
      · exact hminl b hb
    have hmax (a : Nat) (ha : a ∈ x :: l) : a ≤ largest (x :: l) := by
      obtain rfl | ha := List.mem_cons.mp ha
      · exact hmaxx
      · exact hmaxl a ha
    rw [repeatable, decide_eq_true_iff]
    refine ⟨fun h a ha b hb => ?_, fun h => h _ (foldl_max_mem l x) _ (foldl_min_mem l x)⟩
    calc (a - b) * 1000000 ≤ (largest (x :: l) - smallest (x :: l)) * 1000000 :=
          Nat.mul_le_mul_right _ (tsub_le_tsub (hmax a ha) (hmin b hb))
      _ ≤ tol * smallest (x :: l) := h
      _ ≤ tol * b := Nat.mul_le_mul_left tol (hmin b hb)

/-! ## The record of a pass (R136, R140) -/

theorem gradeOfDestination_congr (hring : t.ring = s.ring) (d : Option SlotId) :
    t.gradeOfDestination d = s.gradeOfDestination d := by
  simp [State.gradeOfDestination, State.slot, hring]

/-- What a pass end gathers rests on the live values, the grades, the calculators and the ring alone. -/
theorem gatherPass_congr (hlive : t.live = s.live) (hgrades : t.grades = s.grades) (hcalcs : t.calcs = s.calcs)
    (hring : t.ring = s.ring)
    (r : Run) (n tP : Nat) :
    (gatherPass r n tP t).1 = (gatherPass r n tP s).1 ∧ (gatherPass r n tP t).2.live = (gatherPass r n tP s).2.live := by
  have hcalc : t.calcOf r = s.calcOf r := by simp [State.calcOf, hcalcs]
  simp only [gatherPass, hcalc, gradeOfDestination_congr hring]
  generalize s.gradeOfDestination (s.calcOf r).target = g
  obtain ⟨h1, hlive1⟩ := select_congr (.run r .temp) g hlive hgrades
  have hgrades1 : (select (.run r .temp) g t).2.grades = (select (.run r .temp) g s).2.grades := by simp only [select_grades, hgrades]
  obtain ⟨h2, hlive2⟩ := select_congr (.run r .press) g hlive1 hgrades1
  obtain ⟨h3, hlive3⟩ := select_congr .proverTemp g hlive2 (by simp only [select_grades, hgrades])
  obtain ⟨h4, hlive4⟩ := select_congr .proverPress g hlive3 (by simp only [select_grades, hgrades])
  exact ⟨by rw [h1, h2, h3, h4], hlive4⟩

/-- A pass end appends one record, VALID or abandoned, and the prove goes on from there. -/
theorem passEnd_record (u : ProveSetup) (n tP : Nat) (s : State) : ∃ x, x.number = s.prove.result.attempts
    ∧ x.endTime = s.terminalTime ∧ x.tD = s.prove.working.bind WorkingPass.tD ∧ x.inputs = some (gatherPass u.run n tP s).1
    ∧ ((n = 0 ∨ tP = 0) → x.abandoned = some .noPulses ∧ x.figures = none)
    ∧ (¬ (n = 0 ∨ tP = 0) → ∃ f, f = passFigures s.prove.config.bpv u.csp ((s.prove.working.bind WorkingPass.tD).getD 0)
          (s.grade (gatherPass u.run n tP s).1.grade) (gatherPass u.run n tP s).1
        ∧ x.figures = some f ∧ x.abandoned = (if figuresValid f = true then none else some .range))
    ∧ (x.abandoned = none → passEnd u n tP s = afterValid (appendPass x (gatherPass u.run n tP s).2))
    ∧ (x.abandoned ≠ none → passEnd u n tP s = afterAbandon (appendPass x (gatherPass u.run n tP s).2)) := by
  obtain ⟨v, y, hg⟩ := gatherPass_touches u.run n tP s
  unfold passEnd
  dsimp only
  rw [hg]
  by_cases hnone : n = 0 ∨ tP = 0
  · rw [if_pos hnone]
    refine ⟨_, rfl, rfl, rfl, rfl, fun _ => ⟨rfl, rfl⟩, fun h => absurd hnone h, ?_, fun _ => rfl⟩
    exact nofun
  · rw [if_neg hnone]
    split
    · rename_i hvalid
      exact ⟨_, rfl, rfl, rfl, rfl, fun h => absurd h hnone, fun _ => ⟨_, rfl, rfl, (if_pos hvalid).symm⟩, fun _ => rfl, fun h =>
        absurd rfl h⟩
    · rename_i hvalid
      refine ⟨_, rfl, rfl, rfl, rfl, fun h => absurd h hnone, fun _ => ⟨_, rfl, rfl, (if_neg hvalid).symm⟩, ?_, fun _ => rfl⟩
      exact nofun

/-! ## After a VALID pass (R141, R142) -/

/-- What follows a VALID pass: the prove is COMPLETE once the last n passes repeat, or goes on, or fails at its last attempt. -/
theorem afterValid_outcome (hsetup : s.prove.result.setup = some u) (hbetween : s.prove.engine = .awaitD1)
    (htimer : s.prove.passTimer = none) (hworking : s.prove.working = none) :
    let window := s.prove.result.passes.drop (s.prove.result.passes.length - u.n)
    let repeats := ∀ a ∈ window, ∀ b ∈ window, (a.mfOf - b.mfOf) * 1000000 ≤ u.tolerance * b.mfOf
    let k := s.prove.result.consecutive + 1
    (afterValid s).prove.result.passes = s.prove.result.passes ∧ (afterValid s).prove.result.consecutive = k
      ∧ (afterValid s).prove.working = none ∧ (afterValid s).prove.passTimer = none
      ∧ (u.n ≤ k → repeats → (afterValid s).prove.engine = .idle ∧ (afterValid s).prove.result.state = .complete
          ∧ (afterValid s).prove.result.reason = none
          ∧ (afterValid s).prove.result.mf = some (halfUp (window.map (·.mfOf)).sum u.n)
          ∧ (afterValid s).prove.result.q = some (halfUp (window.map (·.qOf)).sum u.n)
          ∧ ∀ p, ((afterValid s).link p).notices.proveEnd.pending = true)
      ∧ (¬ (u.n ≤ k ∧ repeats) → (afterValid s).prove.result.mf = s.prove.result.mf
          ∧ (s.prove.result.attempts < u.maxAttempts → (afterValid s).prove.engine = .awaitD1
              ∧ (afterValid s).prove.result.state = s.prove.result.state ∧ (afterValid s).claims = s.claims)
          ∧ (u.maxAttempts ≤ s.prove.result.attempts → (afterValid s).prove.engine = .idle
              ∧ (afterValid s).prove.result.state = .failed ∧ (afterValid s).prove.result.reason = some .repeatability)) := by
  intro window repeats k
  have hidle : s.passInProgress = false := by simp [State.passInProgress, hbetween]
  set v := s.setResult { s.prove.result with consecutive := k } with hv
  have hleft : v.attemptsLeft = true ↔ s.prove.result.attempts < u.maxAttempts := attemptsLeft_iff (s := v) hsetup
  have hrepeats : repeatable u.tolerance (window.map PassRecord.mfOf) = true ↔ repeats := by
    rw [repeatable_iff]
    simp only [List.forall_mem_map]
    exact Iff.rfl
  have hcases : afterValid s = if u.n ≤ k ∧ repeatable u.tolerance (window.map PassRecord.mfOf) = true then
      endProve .complete none (v.setResult { v.prove.result with
        mf := some (halfUp (window.map (·.mfOf)).sum u.n), q := some (halfUp (window.map (·.qOf)).sum u.n) })
      else if v.attemptsLeft then v else endProve .failed (some .repeatability) v := by
    unfold afterValid
    dsimp only
    split
    · rename_i hnone
      exact nomatch hsetup.symm.trans hnone
    · rename_i u' hu'
      obtain rfl := Option.some.inj (hsetup.symm.trans hu')
      rfl
  by_cases hdone : u.n ≤ k ∧ repeats
  · rw [hcases, if_pos ⟨hdone.1, hrepeats.mpr hdone.2⟩]
    refine ⟨?_, ?_, ?_, ?_, fun _ _ => ⟨?_, ?_, ?_, ?_, ?_, endProve_notice _ _ _⟩, fun h => absurd hdone h⟩
    · rw [endProve_prove]
      exact endedProve_passes_idle (s := v.setResult _) hidle .complete none
    all_goals
      rw [endProve_prove]
      rfl
  · rw [hcases, if_neg fun h => hdone ⟨h.1, hrepeats.mp h.2⟩]
    split
    · rename_i hl
      exact ⟨rfl, rfl, hworking, htimer, fun h1 h2 => absurd ⟨h1, h2⟩ hdone, fun _ => ⟨rfl, fun _ => ⟨hbetween, rfl, rfl⟩,
        fun hle => absurd (hleft.mp hl) (not_lt.mpr hle)⟩⟩
    · rename_i hl
      refine ⟨?_, ?_, ?_, ?_, fun h1 h2 => absurd ⟨h1, h2⟩ hdone, fun _ => ⟨?_, fun hlt => absurd (hleft.mpr hlt) hl,
        fun _ => endProve_failed ..⟩⟩
      · rw [endProve_prove, endedProve_passes_idle (s := v) hidle]
        rfl
      all_goals
        rw [endProve_prove]
        rfl

theorem provePulse_awaitEnd {w : WorkingPass} (hengine : s.prove.engine = .awaitEnd) (hw : s.prove.working = some w)
    (hsetup : s.prove.result.setup = some u) : provePulse s = passEnd u (if w.first.isSome = true then w.n + 1 else 0)
      ((w.first.map (fun first => s.prove.timebase - first)).getD 0) s := by
  simp only [provePulse, hengine, hw, hsetup]
  cases w.first <;> rfl

/-- Settles O11: the pulse after D2 appends the pass's record, and the prove goes on from it. -/
theorem passEndIsRecorded : Obligations.PassEndIsRecorded := by
  intro r stamp s u w d2 hsup hon hrun hsetup hr hend hw hd2 he n tP g runT runP proverT proverP
  set v := (s.comeTo stamp).setChecker r ({ s.checker r with expectation := .bNext } : Checker).pulse with hv
  have hproving : v.provingRun r = true := provingRun_of (s := v) hrun hsetup hr
  have hexec : exec (.risingEdge r .a false stamp) s = .next (passEnd u n tP v) := by
    rw [exec_onlineEdge hsup hon, onlineEdge_forward (s := s.comeTo stamp) he]
    refine congrArg _ ((hand_proving hproving .pulse).trans ?_)
    refine (provePulse_awaitEnd (s := v) hend hw hsetup).trans ?_
    rw [show v.prove.timebase = max s.prove.timebase stamp from comeTo_timebase ..]
  obtain ⟨x, hnumber, htime, htD, hinputs, hnone, hsome, hvalid, hnot⟩ := passEnd_record u n tP v
  obtain ⟨hgather, hlive⟩ := gatherPass_congr (s := s.comeTo stamp) (t := v) rfl rfl rfl rfl u.run n tP
  obtain ⟨l, y, hg⟩ := gatherPass_touches u.run n tP v
  subst hr
  have hbind : v.prove.working.bind WorkingPass.tD = some (d2 - w.d1) := by
    rw [show v.prove.working = some w from hw]
    exact congrArg (Option.map (· - w.d1)) hd2
  have hpasses : (passEnd u n tP v).prove.result.passes = s.prove.result.passes ++ [x] ∧ (passEnd u n tP v).live = proverP.2.live := by
    have hl : l = proverP.2.live := by
      have h := hlive
      rw [hg] at h
      exact h
    by_cases hx : x.abandoned = none
    · rw [hvalid hx, hg]
      obtain ⟨hkept, -⟩ := afterValid_outcome (s := appendPass x { v with live := l, links := y }) hsetup rfl rfl rfl
      refine ⟨hkept, ?_⟩
      rw [show (afterValid (appendPass x { v with live := l, links := y })).live = l from
        (ProveChange.frame (afterValid_touches _)).same .live (by decide), hl]
    · rw [hnot hx, hg]
      refine ⟨afterAbandon_passes (s := appendPass x { v with live := l, links := y }) rfl, ?_⟩
      rw [show (afterAbandon (appendPass x { v with live := l, links := y })).live = l from
        (ProveChange.frame (afterAbandon_touches _)).same .live (by decide), hl]
  refine ⟨passEnd u n tP v, x, (gatherPass u.run n tP v).1, hexec, hpasses.1, hnumber, htime, htD.trans hbind, hinputs, rfl, rfl, rfl,
    rfl, ?_, ?_, ?_, ?_, hpasses.2, hnone, fun hn ht => ?_, fun hx => ?_, fun hx => ?_⟩
  · rw [hgather]; rfl
  · rw [hgather]; rfl
  · rw [hgather]; rfl
  · rw [hgather]; rfl
  · obtain ⟨f, hf, hfigures, habandoned⟩ := hsome (not_or.mpr ⟨hn, ht⟩)
    rw [hbind] at hf
    exact ⟨f, hf, hfigures, habandoned⟩
  · rw [hnot hx, hg]
    exact afterAbandon_goesOnOrFails (s := { v with live := l, links := y }) hsetup x
  · obtain ⟨hkept, hcons, hworking, htimer, hdone, hon⟩ :=
      afterValid_outcome (s := appendPass x { v with live := l, links := y }) hsetup rfl rfl rfl
    rw [hvalid hx, hg]
    refine ⟨hcons, hworking, htimer, hdone, fun hmore => ?_⟩
    obtain ⟨hmf, hleft, hlast⟩ := hon hmore
    exact ⟨hmf, fun hlt => ⟨(hleft hlt).1, (hleft hlt).2.1.trans hrun, (hleft hlt).2.2⟩, hlast⟩

end Sys2Proof.Machine

/-! SET SERVICE OFFLINE (R20): the partial period is delivered, and then the run leaves the closing parcel, its prove and the
service. -/

namespace Sys2Proof.Machine

variable {p : Port} {r : Run} {s : State} {u : ProveSetup}

/-! ## The partial period (R36) -/

/-- The state in which the partial period of the run is closed and every arrival of the run taken. -/
def deliverPeriod (r : Run) (s : State) : State :=
  takeArrivals r (closePeriod r ((takeAtEngine r s).calcOf r).elapsed false (takeAtEngine r s))

/-- What the close of the partial period gathers. -/
def partialPeriod (r : Run) (s : State) : PeriodInputs :=
  (gatherPeriod r ((takeAtEngine r s).calcOf r).elapsed false (takeAtEngine r s)).1

theorem deliverPeriod_frame (r : Run) (s : State) :
    Frame [.ring, .calcs, .links, .live, .checkers, .bank, .toBank, .toEngine] s (deliverPeriod r s) :=
  ((takeAtEngine_frame s r).mono (by decide)).trans
    (((closePeriod_frame ..).mono (by decide)).trans ((takeArrivals_frame ..).mono (by decide)))

theorem takeAtEngine_checker (r q : Run) (s : State) : (takeAtEngine r s).checker q = s.checker q :=
  checker_congr ((takeAtEngine_frame s r).same .checkers (by decide)) q

theorem partialPeriod_tMs (r : Run) (s : State) : (partialPeriod r s).tMs = (s.calcOf r).elapsed := by
  obtain ⟨-, helapsed, -, -⟩ := ((takeAtEngine_calcs r s).change r).timer
  exact helapsed

theorem partialPeriod_pulses (r : Run) (s : State) : (partialPeriod r s).pulses = (s.checker r).accepted :=
  congrArg Checker.accepted (takeAtEngine_checker r r s)

theorem deliverPeriod_queues (r : Run) (s : State) : (deliverPeriod r s).toBank = s.toBank.set r []
    ∧ (deliverPeriod r s).toEngine = s.toEngine.set r none
    ∧ (deliverPeriod r s).bank = (s.toBank.get r ++ [(partialPeriod r s).arrival]).foldl Bank.add s.bank := by
  have hbank : (takeAtEngine r s).bank = s.bank := (takeAtEngine_frame s r).same .bank (by decide)
  have hqueue : (takeAtEngine r s).toBank = s.toBank := (takeAtEngine_frame s r).same .toBank (by decide)
  have hclosed : (closePeriod r ((takeAtEngine r s).calcOf r).elapsed false (takeAtEngine r s)).bank = (takeAtEngine r s).bank :=
    (closePeriod_frame ..).same .bank (by decide)
  refine ⟨?_, ?_, ?_⟩
  · obtain ⟨g, c, x, b, h⟩ := takeArrivals_touches r (closePeriod r ((takeAtEngine r s).calcOf r).elapsed false (takeAtEngine r s))
    rw [deliverPeriod, h]
    show (closePeriod r ((takeAtEngine r s).calcOf r).elapsed false (takeAtEngine r s)).toBank.set r [] = _
    rw [closePeriod_toBank_eq, PerRun.set_set, hqueue]
  · obtain ⟨g, c, x, b, h⟩ := takeArrivals_touches r (closePeriod r ((takeAtEngine r s).calcOf r).elapsed false (takeAtEngine r s))
    rw [deliverPeriod, h]
    show (closePeriod r ((takeAtEngine r s).calcOf r).elapsed false (takeAtEngine r s)).toEngine.set r none = _
    rw [closePeriod_toEngine_eq, PerRun.set_set, takeAtEngine_toEngine, PerRun.set_set]
  · rw [deliverPeriod, takeArrivals_bank, hclosed, hbank, closePeriod_toBank_eq, PerRun.get_set_self, hqueue]
    rfl

theorem deliverPeriod_checker (r q : Run) (s : State) :
    (deliverPeriod r s).checker q = if q = r then (s.checker r).handOver else s.checker q := by
  have hkept : (deliverPeriod r s).checker q = (closePeriod r ((takeAtEngine r s).calcOf r).elapsed false (takeAtEngine r s)).checker q :=
    checker_congr ((takeArrivals_frame ..).same .checkers (by decide)) q
  rw [hkept]
  split
  · rename_i hq
    rw [hq, closePeriod_checker, takeAtEngine_checker]
  · rename_i hq
    rw [(closePeriod_other r _ false _ hq).2, takeAtEngine_checker]

theorem deliverPeriod_calc (r : Run) (s : State) : ((deliverPeriod r s).calcOf r).elapsed = (s.calcOf r).elapsed
    ∧ ((deliverPeriod r s).calcOf r).periodLength = (s.calcOf r).periodLength
    ∧ ((deliverPeriod r s).calcOf r).lastPeriod = some (partialPeriod r s).record := by
  obtain ⟨-, helapsed, hlength, -⟩ := ((takeAtEngine_calcs r s).change r).timer
  obtain ⟨-, helapsed', hlength', hlast⟩ := ((takeArrivals_calcs r
    (closePeriod r ((takeAtEngine r s).calcOf r).elapsed false (takeAtEngine r s))).change r).timer
  obtain ⟨hkept, -, hkept'⟩ := calculatorAfter_settings (partialPeriod r s) ((takeAtEngine r s).calcOf r)
  rw [closePeriod_calcOf] at helapsed' hlength' hlast
  exact ⟨(helapsed'.trans hkept').trans helapsed, (hlength'.trans hkept).trans hlength, hlast⟩

/-! ## The run leaves the closing parcel, its prove and the service -/

/-- The steps of R20 after the delivery. -/
def leaveService (r : Run) (s : State) : State :=
  takeOffline r (applyPendingK r (abortIf ((closeIfOwing r s).provingRun r) .offline (closeIfOwing r s)))

theorem goOffline_eq (r : Run) (s : State) : goOffline r s = leaveService r (deliverPeriod r s) := rfl

theorem leaveService_frame (r : Run) (s : State) :
    Frame [.ring, .calcs, .links, .prove, .claims, .checkers] s (leaveService r s) :=
  ((closeIfOwing_frame ..).mono (by decide)).trans (((abortIf_frame ..).mono (by decide)).trans
    (((applyPendingK_frame ..).mono (by decide)).trans ((takeOffline_frame ..).mono (by decide))))

theorem applyPendingK_pendingK (r : Run) (s : State) : ((applyPendingK r s).calcOf r).pendingK = none := by
  unfold applyPendingK
  split
  · assumption
  · rw [setCalc_self]
    rfl

theorem leaveService_calc (r : Run) (s : State) : ((leaveService r s).calcOf r).runState = .offline
    ∧ ((leaveService r s).calcOf r).target = none ∧ ((leaveService r s).calcOf r).pendingK = none
    ∧ ((leaveService r s).calcOf r).elapsed = (s.calcOf r).elapsed
    ∧ ((leaveService r s).calcOf r).periodLength = (s.calcOf r).periodLength
    ∧ ((leaveService r s).calcOf r).lastPeriod = (s.calcOf r).lastPeriod := by
  have hchain := ((closeIfOwing_calcs r s).trans (.of_calcs (abortIf_calcs ((closeIfOwing r s).provingRun r) .offline _))).trans
    (applyPendingK_calcs r _)
  obtain ⟨-, helapsed, hlength, hlast⟩ := (hchain.change r).timer
  have hcalc : (leaveService r s).calcOf r = { (applyPendingK r (abortIf ((closeIfOwing r s).provingRun r) .offline
      (closeIfOwing r s))).calcOf r with target := none, runState := .offline } := setCalc_self ..
  rw [hcalc]
  exact ⟨rfl, rfl, applyPendingK_pendingK .., helapsed, hlength, hlast⟩

theorem leaveService_checker (r q : Run) (s : State) : (leaveService r s).checker q =
    if q = r then { s.checker r with offlinePulses := 0 } else s.checker q := by
  have hkept (q : Run) : (applyPendingK r (abortIf ((closeIfOwing r s).provingRun r) .offline (closeIfOwing r s))).checker q
      = s.checker q :=
    checker_congr ((((closeIfOwing_frame r s).mono (by decide)).trans (((abortIf_frame ((closeIfOwing r s).provingRun r) .offline _).mono
      (by decide)).trans ((applyPendingK_frame ..).mono (by decide))) : Frame [.ring, .calcs, .links, .prove, .claims] s _).same
      .checkers (by decide)) q
  unfold leaveService takeOffline
  split
  · rename_i hq
    rw [hq, setChecker_self, hkept]
  · rename_i hq
    rw [setChecker_ne _ hq]
    exact hkept q

theorem closeIfOwing_notOwing (r : Run) (s : State) : (closeIfOwing r s).NotOwing r := by
  unfold closeIfOwing
  split
  · rename_i hc
    exact fun c hc' => by simp [hc] at hc'
  · rename_i c hc
    split
    · exact closePortion_notOwing r s
    · rename_i hnot
      intro c' hc'
      obtain rfl := Option.some.inj (hc.symm.trans hc')
      simpa using hnot

theorem leaveService_notOwing (r : Run) (s : State) : (leaveService r s).NotOwing r := by
  intro c hc
  refine closeIfOwing_notOwing r s c ?_
  have hring : (leaveService r s).ring = (closeIfOwing r s).ring :=
    (((abortIf_frame ((closeIfOwing r s).provingRun r) .offline (closeIfOwing r s)).mono (by decide)).trans
      (((applyPendingK_frame ..).mono (by decide)).trans ((takeOffline_frame ..).mono (by decide))) :
      Frame [.prove, .claims, .links, .calcs, .checkers] _ _).same .ring (by decide)
  rwa [hring] at hc

/-- The state in which a prove on the run has ended, or the one before. -/
theorem leaveService_ends (r : Run) (s : State) :
    Frame [.calcs, .checkers] (abortIf (s.provingRun r) .offline (closeIfOwing r s)) (leaveService r s) := by
  have hproving : (closeIfOwing r s).provingRun r = s.provingRun r := by
    rw [State.provingRun, State.proveRunning, State.provedRun,
      show (closeIfOwing r s).prove = s.prove from (closeIfOwing_frame r s).same .prove (by decide)]
    rfl
  rw [leaveService, hproving]
  exact ((applyPendingK_frame ..).mono (by decide)).trans (takeOffline_frame ..)

theorem provingRun_setup (h : s.provingRun r = true) :
    s.prove.result.state = .running ∧ ∃ u, s.prove.result.setup = some u ∧ u.run = r := by
  obtain ⟨hrun, hr⟩ := Bool.and_eq_true_iff.mp h
  obtain ⟨u, hu, hur⟩ := Option.map_eq_some_iff.mp (of_decide_eq_true hr)
  exact ⟨of_decide_eq_true hrun, u, hu, hur⟩

theorem leaveService_idle (h : s.provingRun r = false) : (leaveService r s).prove = s.prove := by
  have hends : (leaveService r s).prove = (abortIf (s.provingRun r) .offline (closeIfOwing r s)).prove :=
    (leaveService_ends r s).same .prove (by decide)
  rw [hends, h]
  exact (closeIfOwing_frame r s).same .prove (by decide)

/-- A prove on the run ends ABORTED with OFFLINE (R145). -/
theorem leaveService_aborts (h : s.provingRun r = true) :
    (leaveService r s).prove = endedProve .aborted (some .offline) s
      ∧ (∀ q, ((leaveService r s).link q).notices.proveEnd.pending = true)
      ∧ ∀ v, v = .run r ∨ v = .prover → (leaveService r s).claim v = { s.claim v with
          timer := if (s.claim v).holder = none then (s.claim v).timer else some ((s.claim v).holdTime * 10000000) } := by
  obtain ⟨-, u, hsetup, hr⟩ := provingRun_setup h
  have hends := leaveService_ends r s
  rw [h] at hends
  have hframe := closeIfOwing_frame r s
  have hprove : (closeIfOwing r s).prove = s.prove := hframe.same .prove (by decide)
  have hclaims : (closeIfOwing r s).claims = s.claims := hframe.same .claims (by decide)
  have htime : (closeIfOwing r s).terminalTime = s.terminalTime := hframe.same .terminalTime (by decide)
  have hsetup' : (closeIfOwing r s).prove.result.setup = some u := by rw [hprove, hsetup]
  refine ⟨?_, fun q => ?_, fun v hv => ?_⟩
  · rw [show (leaveService r s).prove = _ from hends.same .prove (by decide)]
    refine (endProve_prove ..).trans ?_
    unfold endedProve bareRecord State.passInProgress
    rw [hprove, htime]
  · rw [State.link, show (leaveService r s).links = _ from hends.same .links (by decide)]
    exact endProve_notice _ _ _ q
  · subst hr
    rw [State.claim, show (leaveService u.run s).claims = _ from hends.same .claims (by decide)]
    refine (endProve_claim hsetup' hv .aborted (some .offline)).trans ?_
    rw [State.claim, hclaims]
    rfl

/-! ## The request -/

/-- The renewal of the holder's unit does not show in a claim whose timer restarts. -/
theorem renewed_restarted (hheld : s.holds p (.run r) = true) (v : UnitId) :
    ({ (renewed p [.run r] s).claim v with
      timer := if ((renewed p [.run r] s).claim v).holder = none then ((renewed p [.run r] s).claim v).timer
        else some (((renewed p [.run r] s).claim v).holdTime * 10000000) } : Claim)
      = { s.claim v with timer := if (s.claim v).holder = none then (s.claim v).timer else some ((s.claim v).holdTime * 10000000) } := by
  obtain ⟨t, ht⟩ := renew_eq p (.run r) s
  rw [renewed_cons, renewed_nil, ht]
  by_cases hv : v = .run r
  · subst hv
    simp [(holds_iff p (.run r) s).mp hheld]
  · rw [setClaim_ne _ hv]

/-- Settles O20: the delivery of the partial period, and then the run leaves. -/
theorem goingOffline : Obligations.GoingOffline := by
  intro p r s hsup hheld hon
  set n := renewed p [.run r] s with hn
  have hprove : n.prove = s.prove := renewed_prove ..
  have hproving : n.provingRun r = s.provingRun r := renewed_provingRun ..
  have hexec : exec (.setService p (runNumber r) 0) s = .next (answered p .ok 1 .empty (goOffline r n)) := by
    show execSetService p (runNumber r) 0 s = _
    unfold execSetService
    refine run_request hsup hheld ?_
    simp [serviceOf, hon, okReply, hn]
  have hdframe := deliverPeriod_frame r n
  have hdprove : (deliverPeriod r n).prove = s.prove := (show _ = n.prove from hdframe.same .prove (by decide)).trans hprove
  have hdtime : (deliverPeriod r n).terminalTime = s.terminalTime :=
    (show _ = n.terminalTime from hdframe.same .terminalTime (by decide)).trans (renewed_terminalTime ..)
  have hdproving : (deliverPeriod r n).provingRun r = s.provingRun r := by
    rw [State.provingRun, State.proveRunning, State.provedRun, hdprove]
    rfl
  have hlframe := leaveService_frame r (deliverPeriod r n)
  have hframe : Frame [.ring, .calcs, .links, .prove, .claims, .checkers, .live, .bank, .toBank, .toEngine] n (goOffline r n) :=
    (hdframe.mono (by decide)).trans (hlframe.mono (by decide))
  obtain ⟨hstate, htarget, hpending, helapsed, hlength, hlast⟩ := leaveService_calc r (deliverPeriod r n)
  obtain ⟨hdelapsed, hdlength, hdlast⟩ := deliverPeriod_calc r n
  obtain ⟨htoBank, htoEngine, hbank⟩ := deliverPeriod_queues r n
  have htoBank' : (goOffline r n).toBank = s.toBank.set r [] :=
    ((show _ = (deliverPeriod r n).toBank from hlframe.same .toBank (by decide)).trans htoBank).trans (by rw [hn, renewed_toBank])
  have htoEngine' : (goOffline r n).toEngine = s.toEngine.set r none :=
    ((show _ = (deliverPeriod r n).toEngine from hlframe.same .toEngine (by decide)).trans htoEngine).trans (by rw [hn, renewed_toEngine])
  have hchecker (q : Run) : (goOffline r n).checker q
      = if q = r then { (s.checker r).handOver with offlinePulses := 0 } else s.checker q := by
    rw [goOffline_eq, leaveService_checker, deliverPeriod_checker, deliverPeriod_checker, if_pos rfl, hn, renewed_checker, renewed_checker]
    split <;> rfl
  have hself : (goOffline r n).checker r = { (s.checker r).handOver with offlinePulses := 0 } := (hchecker r).trans (if_pos rfl)
  refine ⟨_, (partialPeriod r n).arrival, (partialPeriod r n).record, hexec, hstate, htarget, hpending, ?_, ?_, hlast.trans hdlast, ?_, ?_,
    ?_, ?_, ?_, rfl, rfl, rfl, rfl, rfl, rfl, rfl, rfl, fun q hq => ⟨?_, ?_⟩, congrArg Checker.accepted hself,
    congrArg Checker.offlinePulses hself, (congrArg Checker.failed hself).trans rfl,
    (congrArg Checker.windowPulses hself).trans rfl, ?_,
    leaveService_notOwing r _, fun hidle => ?_, fun hrun => ?_, answered_response .., ?_, ?_, ?_, fun q hq => ?_⟩
  · exact (hlength.trans hdlength).trans (by rw [hn, renewed_calcOf])
  · exact (helapsed.trans hdelapsed).trans (by rw [hn, renewed_calcOf])
  · exact (partialPeriod_tMs r n).trans (by rw [hn, renewed_calcOf])
  · exact (partialPeriod_pulses r n).trans (by rw [hn, renewed_checker])
  · exact (congrArg (PerRun.get · r) htoEngine').trans (PerRun.get_set_self ..)
  · exact (congrArg (PerRun.get · r) htoBank').trans (PerRun.get_set_self ..)
  · exact ((show _ = (deliverPeriod r n).bank from hlframe.same .bank (by decide)).trans hbank).trans (by rw [hn, renewed_toBank,
      renewed_bank])
  · exact (congrArg (PerRun.get · q) htoBank').trans (PerRun.get_set_ne hq ..)
  · exact (congrArg (PerRun.get · q) htoEngine').trans (PerRun.get_set_ne hq ..)
  · show (goOffline r n).provingRun r = false
    cases hrun : s.provingRun r with
    | true =>
      refine provingRun_of_state ?_
      rw [goOffline_eq, (leaveService_aborts (hdproving.trans hrun)).1]
      exact nofun
    | false =>
      rw [State.provingRun, State.proveRunning, State.provedRun, goOffline_eq, leaveService_idle (hdproving.trans hrun), hdprove]
      exact hrun
  · exact (leaveService_idle (hdproving.trans hidle)).trans hdprove
  · obtain ⟨hended, hnotice, hclaim⟩ := leaveService_aborts (hdproving.trans hrun)
    have hended' : (goOffline r n).prove = endedProve .aborted (some .offline) s := by
      refine hended.trans ?_
      unfold endedProve bareRecord State.passInProgress
      rw [hdprove, hdtime]
    refine ⟨congrArg Prove.engine hended', congrArg Prove.passTimer hended', congrArg Prove.working hended',
      congrArg (·.result.state) hended', congrArg (·.result.reason) hended', congrArg (·.result.endTime) hended', fun hpass => ?_,
      fun hpass => ?_, fun q => ?_, fun v hv => ?_⟩
    · exact (congrArg (·.result.passes) hended').trans (endedProve_passes hpass ..)
    · exact (congrArg (·.result.passes) hended').trans (endedProve_passes_idle hpass ..)
    · obtain ⟨hsame, -⟩ := answered_links p q .ok 1 .empty (goOffline r n)
      rw [hsame]
      exact hnotice q
    · refine ((hclaim v hv).trans ?_).trans (renewed_restarted hheld v)
      rw [State.claim, show (deliverPeriod r n).claims = n.claims from hdframe.same .claims (by decide)]
      rfl
  · exact (show _ = n.curves from hframe.same .curves (by decide)).trans (renewed_curves ..)
  · exact (show _ = n.grades from hframe.same .grades (by decide)).trans (renewed_grades ..)
  · exact (show _ = n.terminalTime from hframe.same .terminalTime (by decide)).trans (renewed_terminalTime ..)
  · exact (hchecker q).trans (if_neg hq)

end Sys2Proof.Machine

/-! The readings of chapters 5, 8 and 10: what they answer, and that they change nothing. -/

namespace Sys2Proof.Machine

section Readings

variable {p : Port} {s t : State} {kind unit : Nat} {st : Status} {b : Body}

/-! ## Requests that need no claim -/

/-- A request that names a run is answered as the block replies, whoever holds the run. -/
theorem named_run_request {act : State → Run → Reply} {r : Run} (hsup : s.retention.supplied = true)
    (hact : act (renewed p [.run r] s) r = ⟨t, st, b⟩) :
    serve p kind (namedUnits (runNumber r)) (fun s => withRun (runNumber r) s fun r => act s r) s = .next (answered p st kind b t) := by
  rw [serve_supplied hsup, namedUnits_runNumber]
  simp only [withRun, runOf_runNumber, hact]

theorem named_run_range {act : State → Run → Reply} (hsup : s.retention.supplied = true) (hunit : runOf unit = none) :
    serve p kind (namedUnits unit) (fun s => withRun unit s fun r => act s r) s
      = .next (answered p .range kind .empty (renewed p (namedUnits unit) s)) := by
  rw [serve_supplied hsup]
  simp only [withRun, hunit, refuse]

theorem runOf_eq_none (h : unit = 0 ∨ 4 < unit) : runOf unit = none := by
  unfold runOf
  split <;> first | rfl | omega

/-- Settles O34: each reading answers from the state it finds. -/
theorem readingsChangeNothing : Obligations.ReadingsChangeNothing := by
  refine ⟨fun p r g i s hsup => ⟨?run, ?curve, ?grade, ?runLive, ?proverLive, ?notices, ?slot⟩,
    fun p unit grade s hsup => ⟨fun h => ⟨?runRange, ?curveRange⟩, fun h => ?liveRange, fun h => ?gradeRange, fun h => ?noticesRange⟩⟩
  case run =>
    show execReadRun .. = _
    unfold execReadRun
    refine named_run_request hsup ?_
    simp
  case curve =>
    show execReadCurve .. = _
    unfold execReadCurve
    refine named_run_request hsup ?_
    simp
  case grade =>
    show execReadGrade p 0 (g.val + 1) s = _
    unfold execReadGrade
    refine plain_request hsup ?_
    simp [unitZero]
  case runLive =>
    show execReadLive .. = _
    unfold execReadLive
    refine (unit_request (u := .run r) hsup ?_ : serve p 15 (namedUnits (unitNumber (.run r))) _ s = _)
    simp
  case proverLive =>
    show execReadLive p 5 s = _
    unfold execReadLive
    refine (unit_request (u := .prover) hsup ?_ : serve p 15 (namedUnits (unitNumber .prover)) _ s = _)
    simp
  case notices =>
    show execReadNotices p 0 s = _
    unfold execReadNotices
    exact plain_request hsup rfl
  case slot =>
    refine ⟨(s.slot i).shown, ?_, rfl, rfl, rfl, rfl, rfl, fun h => if_pos h⟩
    show execReadSlot p 0 i.val s = _
    unfold execReadSlot
    refine plain_request hsup ?_
    simp [withSlot, unitZero]
  case runRange =>
    show execReadRun .. = _
    unfold execReadRun
    exact named_run_range hsup (runOf_eq_none h)
  case curveRange =>
    show execReadCurve .. = _
    unfold execReadCurve
    exact named_run_range hsup (runOf_eq_none h)
  case liveRange =>
    have hunit := unitOf_eq_none h
    show execReadLive .. = _
    unfold execReadLive
    refine (unit_request_range hsup hunit).trans ?_
    rw [show namedUnits unit = [] by simp [namedUnits, hunit], renewed_nil]
  case gradeRange =>
    show execReadGrade .. = _
    unfold execReadGrade
    refine plain_request hsup ?_
    by_cases hunit : unit = 0
    · simp [unitZero, hunit, gradeOf_eq_none (h.resolve_left (not_not_intro hunit)), refuse]
    · simp [unitZero, hunit, refuse]
  case noticesRange =>
    show execReadNotices .. = _
    unfold execReadNotices
    exact unitZero_range hsup h

/-! ## READ TOTALS (R79 to R83) -/

theorem effectiveWidth_eq (w : Width) (flag : Bool) :
    effectiveWidth w flag = if w = .narrow ↔ flag = true then .wide else .narrow := by
  cases w <;> cases flag <;> rfl

theorem inWidth_eq (w : Width) (n : Nat) : inWidth w n = if w = .narrow then n % 100000000 else n := by
  cases w <;> simp [inWidth, Config.narrowModulus]

theorem portionSum_eq (ps : PerRun (Option Portion)) (f : Portion → Nat) :
    portionSum ps f = ((runs.filterMap ps.get).map f).sum := by
  have hsum (l : List Run) : ((l.filterMap ps.get).map f).sum = (l.map fun r => ((ps.get r).map f).getD 0).sum := by
    induction l with
    | nil => rfl
    | cons r l ih => cases h : ps.get r <;> simp [h, ih]
  rw [hsum]
  simp only [runs, List.map_cons, List.map_nil, List.sum_cons, List.sum_nil]
  exact Nat.add_assoc .. ▸ Nat.add_assoc .. ▸ rfl

theorem currentSlot_none (h : s.currentSlot = none) (i : SlotId) : (s.slot i).state ≠ .current := by
  intro hi
  exact currentSlot_ne_none (fun hall => hall i hi) h

section Groups

variable {flag : Bool}

/-- What each group of READ TOTALS serves (R79). -/
theorem exec_runTotals : exec (.readTotals p unit flag 1) s = serve p 16 (namedUnits unit) (fun s => withRun unit s fun r =>
    ⟨s, .ok, .runTotals r (s.calcOf r).runState (effectiveWidth (s.link p).width flag)
      ((s.totals r).inWidth (effectiveWidth (s.link p).width flag))⟩) s := rfl

theorem exec_stationTotals : exec (.readTotals p unit flag 2) s = serve p 16 [] (fun s => unitZero unit s
    ⟨s, .ok, s.stationTotals (effectiveWidth (s.link p).width flag)⟩) s := rfl

theorem exec_lastPeriod : exec (.readTotals p unit flag 3) s = serve p 16 (namedUnits unit) (fun s => withRun unit s fun r =>
    ⟨s, .ok, .lastPeriod (s.calcOf r).lastPeriod⟩) s := rfl

theorem exec_parcelProgress : exec (.readTotals p unit flag 4) s = serve p 16 [] (fun s => unitZero unit s
    ⟨s, .ok, .progress s.progress⟩) s := rfl

theorem groupOf_eq_none {group : Nat} (h : group = 0 ∨ 4 < group) : groupOf group = none := by
  unfold groupOf
  split <;> first | rfl | omega

theorem exec_readTotals_range {group : Nat} (hsup : s.retention.supplied = true) (h : groupOf group = none) :
    exec (.readTotals p unit flag group) s = .next (answered p .range 16 .empty s) := by
  show execReadTotals .. = _
  rw [execReadTotals, totalsUnits, h]
  exact plain_request hsup rfl

end Groups

/-- The form of the CURRENT slot as PARCEL PROGRESS gives it. -/
theorem progress_form {i : SlotId} {f : ControlForm} (hslot : s.progress.slot = some i) (hform : (s.slot i).form = some f) :
    s.progress.kind = some (formKind f)
      ∧ s.progress.parcelNsv = (if formKind f = .hold then none else some (s.slot i).parcelNsv)
      ∧ s.progress.target = formTarget f
      ∧ s.progress.remaining = (formTarget f).map (fun target => (target : Int) - (s.slot i).parcelNsv) := by
  have hslot : s.currentSlot = some i := hslot
  refine ⟨by simp [State.progress, hslot, hform], by simp [State.progress, hslot, hform], by simp [State.progress, hslot, hform], ?_⟩
  simp only [State.progress, hslot, hform, Option.bind_some, Option.map_some, Option.getD_some]
  cases formTarget f <;> rfl

theorem progress_none (hslot : s.progress.slot = none) : s.progress.kind = none ∧ s.progress.parcelNsv = none
    ∧ s.progress.target = none ∧ s.progress.remaining = none := by
  have hslot : s.currentSlot = none := hslot
  simp [State.progress, hslot]

/-- Settles O33: each group in its width, and the refusals. -/
theorem totalsAreRead : Obligations.TotalsAreRead := by
  intro p r flag s hsup w give x b n nsv
  have hw : effectiveWidth (s.link p).width flag = w := effectiveWidth_eq ..
  have hgive (k : Nat) : inWidth w k = give k := inWidth_eq w k
  have hnsv (i : SlotId) : (s.slot i).parcelNsv = nsv i := portionSum_eq ..
  refine ⟨?_, ?_, ?_, ⟨s.progress, ?_, fun i hi => currentSlot_some hi, fun hnone i => currentSlot_none hnone i, rfl, rfl, rfl, rfl,
    progress_none, fun i f hi hf => ?_⟩, fun unit group hgroup => exec_readTotals_range hsup (groupOf_eq_none hgroup),
    fun unit hunit => ⟨?_, ?_⟩, fun unit hunit => ⟨?_, ?_⟩⟩
  · rw [exec_runTotals]
    refine named_run_request hsup ?_
    simp only [renewed_calcOf, renewed_link, renewed_totals, hw, RunTotals.inWidth, hgive]
    rfl
  · rw [exec_stationTotals]
    refine plain_request hsup ?_
    simp only [unitZero, if_true, State.stationTotals, hw, hgive]
    rfl
  · rw [exec_lastPeriod]
    refine named_run_request hsup ?_
    rw [renewed_calcOf]
  · rw [exec_parcelProgress]
    exact plain_request hsup rfl
  · rw [← hnsv]
    exact progress_form hi hf
  · rw [exec_stationTotals]
    exact unitZero_range hsup hunit
  · rw [exec_parcelProgress]
    exact unitZero_range hsup hunit
  · rw [exec_runTotals]
    exact named_run_range hsup hunit
  · rw [exec_lastPeriod]
    exact named_run_range hsup hunit

/-! ## READ PROVE (R148) -/

theorem passBytes_pos (x : PassRecord) : 0 < (passBytes x).length := by
  unfold passBytes
  simp only [List.length_append]
  have : (b1 x.number).length = 1 := rfl
  omega

/-- The page is the longest beginning of the records whose bytes fit. -/
theorem fitRecords_spec (room : Nat) (l : List PassRecord) : ∃ rest, l = fitRecords room l ++ rest
    ∧ ((fitRecords room l).flatMap passBytes).length ≤ room
    ∧ ∀ y rest', rest = y :: rest' → room < ((fitRecords room l).flatMap passBytes).length + (passBytes y).length := by
  induction l generalizing room with
  | nil => exact ⟨[], rfl, Nat.zero_le _, fun y rest' h => nomatch h⟩
  | cons x l ih =>
    rw [fitRecords]
    split
    · rename_i hfits
      obtain ⟨rest, hl, hsum, hnext⟩ := ih (room - (passBytes x).length)
      refine ⟨rest, by rw [List.cons_append, ← hl], ?_, fun y rest' hy => ?_⟩
      · rw [List.flatMap_cons, List.length_append]
        omega
      · have := hnext y rest' hy
        rw [List.flatMap_cons, List.length_append]
        omega
    · rename_i hfull
      refine ⟨x :: l, rfl, Nat.zero_le _, fun y rest' hy => ?_⟩
      obtain ⟨rfl, -⟩ := List.cons.inj hy
      simpa using hfull

/-- Settles O35: the page fills the body with whole records. -/
theorem proveIsRead : Obligations.ProveIsRead := by
  refine ⟨fun p first s hsup => ⟨fun hbad => ?_, fun h1 h2 => ?_⟩, fun p unit first s hsup hunit => ?_⟩
  · have hrange : within 1 20 first = false := Bool.eq_false_iff.mpr fun h => by have := within_iff.mp h; omega
    show execReadProve p 5 first s = _
    unfold execReadProve
    rw [serve_supplied hsup]
    simp only [unitProver, hrange]
    rfl
  · obtain ⟨rest, hwanted, hsum, hnext⟩ := fitRecords_spec (Config.maxBody - (proveHeadBytes s.prove.config s.prove.engine
      s.prove.passTimer s.prove.working s.prove.result).length - 1) (s.prove.result.passes.filter (fun x => decide (first ≤ x.number)))
    have hlength : (bodyBytes (.prove {
        config := s.prove.config, engine := s.prove.engine, passTimer := s.prove.passTimer, working := s.prove.working, result :=
          s.prove.result, page := provePage s first })).length
        = (proveHeadBytes s.prove.config s.prove.engine s.prove.passTimer s.prove.working s.prove.result).length + 1
          + ((provePage s first).flatMap passBytes).length := by
      rw [bodyBytes, List.length_append, List.length_append, b1_length]
    change ((provePage s first).flatMap passBytes).length ≤ 512 - _ - 1 at hsum
    have hnext (y : PassRecord) (rest' : List PassRecord) (hy : rest = y :: rest') : 512 -
        (proveHeadBytes s.prove.config s.prove.engine s.prove.passTimer s.prove.working s.prove.result).length - 1
        < ((provePage s first).flatMap passBytes).length + (passBytes y).length := hnext y rest' hy
    refine ⟨provePage s first, rest, ?_, hwanted, fun hpage => ?_, fun y rest' hy => ?_⟩
    · have hrange : within 1 20 first = true := within_iff.mpr ⟨h1, h2⟩
      have hpage : provePage (renewed p [.prover] s) first = provePage s first := by rw [provePage, renewed_prove, provePage]
      show execReadProve p 5 first s = _
      unfold execReadProve
      rw [serve_supplied hsup, show namedUnits 5 = [.prover] from rfl]
      simp only [unitProver, hrange, if_true, hpage, renewed_prove]
    · have hpos : 0 < ((provePage s first).flatMap passBytes).length := by
        obtain ⟨x, l, hx⟩ := List.exists_cons_of_ne_nil hpage
        rw [hx, List.flatMap_cons, List.length_append]
        exact Nat.lt_add_right _ (passBytes_pos x)
      dsimp only
      rw [hlength]
      omega
    · have hlt := hnext y rest' hy
      have hpos := passBytes_pos y
      dsimp only
      rw [hlength]
      omega
  · show execReadProve .. = _
    unfold execReadProve
    exact prover_request_range hsup hunit

end Readings

end Sys2Proof.Machine

/-! Takes (R98) and the requests on slots before them: RESERVE, WRITE, ARM and CANCEL SLOT, RELEASE HOLD and RESUME LOADING. -/

namespace Sys2Proof.Machine

section Takes

variable {s t : State} {n : Nat}

/-! ## The table of R98 -/

theorem takeLooks_void (h : (s.slot s.ring.head).state = .void) : takeLooks (n + 1) s = takeLooks n (passVoid s) := by
  rw [takeLooks, h]
  rfl

theorem takeLooks_parcel {f : ControlForm} (h : (s.slot s.ring.head).state = .armed) (hform : (s.slot s.ring.head).form = some f)
    (hkind : formKind f ≠ .hold) : takeLooks (n + 1) s = giveTarget s.ring.head (openHead .opened .full s) := by
  rw [takeLooks, h, hform]
  cases hf : formKind f with
  | normal => simp [hf]
  | standing => simp [hf]
  | hold => exact absurd hf hkind

theorem takeLooks_hold {f : ControlForm} (h : (s.slot s.ring.head).state = .armed) (hform : (s.slot s.ring.head).form = some f)
    (hkind : formKind f = .hold) : takeLooks (n + 1) s = (openHead .held .stop s).postAll .parcelStage stageHeld := by
  rw [takeLooks, h, hform]
  simp [hkind]

theorem takeLooks_formless (h : (s.slot s.ring.head).state = .armed) (hform : (s.slot s.ring.head).form = none) :
    takeLooks (n + 1) s = goIdle s := by
  rw [takeLooks, h, hform]
  rfl

theorem takeLooks_idle (hvoid : (s.slot s.ring.head).state ≠ .void) (harmed : (s.slot s.ring.head).state ≠ .armed) :
    takeLooks (n + 1) s = goIdle s := by
  rw [takeLooks]
  cases h : (s.slot s.ring.head).state with
  | void => exact absurd h hvoid
  | armed => exact absurd h harmed
  | reserved => rfl
  | free => rfl
  | complete => rfl
  | closing => rfl
  | current => rfl

/-- A look at a slot that is not VOID ends the take. -/
theorem takeLooks_ends (h : (s.slot s.ring.head).state ≠ .void) (m : Nat) : takeLooks (n + 1) s = takeLooks (m + 1) s := by
  by_cases harmed : (s.slot s.ring.head).state = .armed
  · cases hform : (s.slot s.ring.head).form with
    | none => rw [takeLooks_formless harmed hform, takeLooks_formless harmed hform]
    | some f =>
      by_cases hkind : formKind f = .hold
      · rw [takeLooks_hold harmed hform hkind, takeLooks_hold harmed hform hkind]
      · rw [takeLooks_parcel harmed hform hkind, takeLooks_parcel harmed hform hkind]
  · rw [takeLooks_idle h harmed, takeLooks_idle h harmed]

/-- The slots that are VOID. -/
def State.voidSlots (s : State) : Finset SlotId := Finset.univ.filter fun i => (s.slot i).state = .void

theorem passVoid_voidSlots (s : State) : (passVoid s).voidSlots = s.voidSlots.erase s.ring.head := by
  ext i
  simp only [State.voidSlots, Finset.mem_filter, Finset.mem_univ, true_and, Finset.mem_erase, passVoid_slot]
  by_cases h : i = s.ring.head
  · simp [h, RingSlot.empty]
  · simp [h]

/-- More looks than the VOID slots need change nothing. -/
theorem takeLooks_succ (h : s.voidSlots.card ≤ n) : takeLooks (n + 1) s = takeLooks (n + 2) s := by
  induction n generalizing s with
  | zero =>
    refine takeLooks_ends (fun hvoid => ?_) 1
    have hmem : s.ring.head ∈ s.voidSlots := by simp [State.voidSlots, hvoid]
    simp [Finset.card_eq_zero.mp (Nat.le_zero.mp h)] at hmem
  | succ n ih =>
    by_cases hvoid : (s.slot s.ring.head).state = .void
    · rw [takeLooks_void hvoid, takeLooks_void hvoid]
      refine ih ?_
      have hmem : s.ring.head ∈ s.voidSlots := by simp [State.voidSlots, hvoid]
      rw [passVoid_voidSlots, Finset.card_erase_of_mem hmem]
      omega
    · exact takeLooks_ends hvoid _

theorem takeNext_void (h : (s.slot s.ring.head).state = .void) : takeNext s = takeNext (passVoid s) := by
  have hmem : s.ring.head ∈ s.voidSlots := by simp [State.voidSlots, h]
  have hcard : (passVoid s).voidSlots.card ≤ 7 := by
    have hle : s.voidSlots.card ≤ 8 := (Finset.card_le_univ _).trans_eq (Fintype.card_fin 8)
    rw [passVoid_voidSlots, Finset.card_erase_of_mem hmem]
    omega
  exact (takeLooks_void (n := 8) h).trans (takeLooks_succ hcard)

/-! ## Slot requests -/

variable {p : Port} {kind : Nat} {st : Status} {b : Body} {i : SlotId} {unit slot : Nat}

/-- A slot request is answered as the block replies for the slot. -/
theorem slot_request {act : State → SlotId → Reply} (hsup : s.retention.supplied = true) (hact : act s i = ⟨t, st, b⟩) :
    serve p kind [] (fun s => withSlot 0 i.val s fun i => act s i) s = .next (answered p st kind b t) := by
  refine plain_request hsup ?_
  simp only [withSlot, unitZero, if_true, slotOf_val, hact]

theorem slotOf_eq_none (h : 7 < slot) : slotOf slot = none := dif_neg (by omega)

theorem slot_request_range {act : State → SlotId → Reply} (hsup : s.retention.supplied = true) (h : unit ≠ 0 ∨ 7 < slot) :
    serve p kind [] (fun s => withSlot unit slot s fun i => act s i) s = .next (answered p .range kind .empty s) := by
  refine plain_request hsup ?_
  by_cases hunit : unit = 0
  · simp [withSlot, unitZero, hunit, slotOf_eq_none (h.resolve_left (not_not_intro hunit)), refuse]
  · simp [withSlot, unitZero, hunit, refuse]

theorem ifReservedBy_state {k : Reply} (h : (s.slot i).state ≠ .reserved) : ifReservedBy p i s k = refuse s .state := if_pos h

theorem ifReservedBy_notOwner {k : Reply} (h : (s.slot i).state = .reserved) (hp : (s.slot i).reserver ≠ some p) :
    ifReservedBy p i s k = refuse s .notOwner := (if_neg (not_not_intro h)).trans (if_pos hp)

theorem ifReservedBy_owner {k : Reply} (h : (s.slot i).state = .reserved) (hp : (s.slot i).reserver = some p) :
    ifReservedBy p i s k = k := (if_neg (not_not_intro h)).trans (if_neg (not_not_intro hp))

theorem takeIfHead_awaits (h : s.ring.head ≠ i ∨ s.ring.current ≠ .idle) : takeIfHead i s = s :=
  if_neg fun hc => h.elim (fun h => h hc.1) fun h => h hc.2

theorem takeIfHead_takes (h : ¬ (s.ring.head ≠ i ∨ s.ring.current ≠ .idle)) : takeIfHead i s = takeNext s := by
  rw [not_or, not_not, not_not] at h
  exact if_pos h

/-- ARM SLOT of the reserver, for a slot whose form fits. -/
theorem exec_armSlot {f : ControlForm} (hsup : s.retention.supplied = true) (hstate : (s.slot i).state = .reserved)
    (howner : (s.slot i).reserver = some p) (hform : (s.slot i).form = some f) (hfits : marginsOk f = true) :
    exec (.armSlot p 0 i.val) s
      = .next (answered p .ok 19 .empty (takeIfHead i (s.setSlot i { s.slot i with state := .armed }))) := by
  show execArmSlot .. = _
  unfold execArmSlot
  refine slot_request hsup ?_
  rw [ifReservedBy_owner hstate howner, hform]
  simp only [hfits, if_true]
  rfl

theorem exec_cancelSlot (hsup : s.retention.supplied = true) (hstate : (s.slot i).state = .reserved ∨ (s.slot i).state = .armed)
    (howner : (s.slot i).reserver = some p) : exec (.cancelSlot p 0 i.val) s
      = .next (answered p .ok 20 .empty (takeIfHead i (s.setSlot i { s.slot i with state := .void }))) := by
  show execCancelSlot .. = _
  unfold execCancelSlot
  refine slot_request hsup ?_
  rw [if_neg (by tauto), if_neg (not_not_intro howner)]
  rfl

/-! ## The forms of a WRITE SLOT -/

theorem gradeOf_of_eq {n : Nat} {g : GradeId} (h : n = g.val + 1) : gradeOf n = some g := by
  subst h
  exact (dif_pos (by omega)).trans rfl

theorem witnessOf_eq_none {n : Nat} (h : n < 1 ∨ 7 < n) : witnessOf n = none := if_neg (by omega)

theorem resumeOf_of_le {n : Nat} (h : n ≤ 1) : resumeOf n = some (if n = 0 then .auto else .manual) := by
  interval_cases n <;> rfl

theorem resumeOf_eq_none {n : Nat} (h : 1 < n) : resumeOf n = none := by
  obtain ⟨m, rfl⟩ := Nat.exists_eq_add_of_le' h
  rfl

/-- The fields that NORMAL and STANDING share: grade, witness set and resume mode. -/
theorem formOf_common_eq_none {f : RawForm} (hkind : f.kind = 0 ∨ f.kind = 1)
    (h : f.grade < 1 ∨ 8 < f.grade ∨ f.witness < 1 ∨ 7 < f.witness ∨ 1 < f.resume) : formOf f = none := by
  have hnone : gradeOf f.grade = none ∨ witnessOf f.witness = none ∨ resumeOf f.resume = none := by
    rcases h with h | h | h | h | h
    · exact .inl (gradeOf_eq_none (.inl (by omega)))
    · exact .inl (gradeOf_eq_none (.inr h))
    · exact .inr (.inl (witnessOf_eq_none (.inl h)))
    · exact .inr (.inl (witnessOf_eq_none (.inr h)))
    · exact .inr (.inr (resumeOf_eq_none h))
  rcases hkind with hkind | hkind
  · simp only [formOf, hkind]
    split
    · simp_all
    · rfl
  · simp only [formOf, hkind]
    split
    · simp_all
    · rfl

theorem formOf_normal_eq_none {f : RawForm} (hkind : f.kind = 0) (h : f.target < 1 ∨ 10000000000 < f.target
    ∨ 10000000000 < f.trim ∨ 10000000000 < f.stop ∨ f.quiet < 1 ∨ 255 < f.quiet) : formOf f = none := by
  simp only [formOf, hkind]
  split
  · refine if_neg ?_
    simp only [Bool.and_eq_true, within_iff]
    omega
  · rfl

theorem formOf_eq_none {f : RawForm} (h : 2 < f.kind) : formOf f = none := by
  unfold formOf
  split
  case h_1 hkind => omega
  case h_2 hkind => omega
  case h_3 hkind => omega
  case h_4 => rfl

/-- WRITE SLOT of the reserver is answered as the form reads. -/
theorem exec_writeSlot {f : RawForm} (hsup : s.retention.supplied = true) (hstate : (s.slot i).state = .reserved)
    (howner : (s.slot i).reserver = some p) : exec (.writeSlot p 0 i.val f) s = .next (match formOf f with
      | none => answered p .range 18 .empty s
      | some form => answered p .ok 18 .empty (s.setSlot i { s.slot i with form := some form })) := by
  show execWriteSlot .. = _
  unfold execWriteSlot
  cases hform : formOf f with
  | none =>
    refine slot_request hsup ?_
    rw [ifReservedBy_owner hstate howner]
    rfl
  | some form =>
    refine slot_request hsup ?_
    rw [ifReservedBy_owner hstate howner]
    rfl

theorem exec_writeSlot_form {f : RawForm} {form : ControlForm} (hsup : s.retention.supplied = true)
    (hstate : (s.slot i).state = .reserved) (howner : (s.slot i).reserver = some p) (hform : formOf f = some form) :
    exec (.writeSlot p 0 i.val f) s = .next (answered p .ok 18 .empty (s.setSlot i { s.slot i with form := some form })) := by
  rw [exec_writeSlot hsup hstate howner, hform]

/-- WRITE SLOT and ARM SLOT of a slot that is not RESERVED, or of another reserver, are refused alike. -/
theorem exec_writeSlot_refused {f : RawForm} {why : Status} (hsup : s.retention.supplied = true)
    (h : ∀ k, ifReservedBy p i s k = refuse s why) :
    exec (.writeSlot p 0 i.val f) s = .next (answered p why 18 .empty s)
      ∧ exec (.armSlot p 0 i.val) s = .next (answered p why 19 .empty s) := by
  constructor
  · show execWriteSlot .. = _
    unfold execWriteSlot
    exact slot_request hsup (h _)
  · show execArmSlot .. = _
    unfold execArmSlot
    exact slot_request hsup (h _)

theorem exec_reserveSlot (hsup : s.retention.supplied = true) : exec (.reserveSlot p 0) s = .next (
    if (s.slot s.ring.tail).state = .free then answered p .ok 17 (.slotNumber s.ring.tail) { s with
      ring := {
        s.ring with
        tail := s.ring.tail + 1
        slots := s.ring.slots.set s.ring.tail { RingSlot.empty with state := .reserved, reserver := some p } } }
    else answered p .ringFull 17 .empty s) := by
  show execReserveSlot .. = _
  unfold execReserveSlot
  split
  case isTrue hfree =>
    refine plain_request hsup ?_
    rw [unitZero, if_pos rfl]
    exact if_pos hfree
  case isFalse hfull =>
    refine plain_request hsup ?_
    rw [unitZero, if_pos rfl]
    exact if_neg hfull

theorem exec_cancelSlot_state (hsup : s.retention.supplied = true) (hres : (s.slot i).state ≠ .reserved)
    (harm : (s.slot i).state ≠ .armed) : exec (.cancelSlot p 0 i.val) s = .next (answered p .state 20 .empty s) := by
  show execCancelSlot .. = _
  unfold execCancelSlot
  exact slot_request hsup (if_pos ⟨hres, harm⟩)

theorem exec_cancelSlot_notOwner (hsup : s.retention.supplied = true)
    (hstate : (s.slot i).state = .reserved ∨ (s.slot i).state = .armed) (howner : (s.slot i).reserver ≠ some p) :
    exec (.cancelSlot p 0 i.val) s = .next (answered p .notOwner 20 .empty s) := by
  show execCancelSlot .. = _
  unfold execCancelSlot
  refine slot_request hsup ?_
  rw [if_neg (by tauto), if_pos howner]
  rfl

/-- ARM SLOT of the reserver of a slot without a form, or with margins out of order. -/
theorem exec_armSlot_formless (hsup : s.retention.supplied = true) (hstate : (s.slot i).state = .reserved)
    (howner : (s.slot i).reserver = some p) (hform : (s.slot i).form = none) :
    exec (.armSlot p 0 i.val) s = .next (answered p .range 19 .empty s) := by
  show execArmSlot .. = _
  unfold execArmSlot
  refine slot_request hsup ?_
  rw [ifReservedBy_owner hstate howner, hform]
  rfl

theorem exec_armSlot_order {f : ControlForm} (hsup : s.retention.supplied = true) (hstate : (s.slot i).state = .reserved)
    (howner : (s.slot i).reserver = some p) (hform : (s.slot i).form = some f) (hfits : marginsOk f ≠ true) :
    exec (.armSlot p 0 i.val) s = .next (answered p .order 19 .empty s) := by
  show execArmSlot .. = _
  unfold execArmSlot
  refine slot_request hsup ?_
  rw [ifReservedBy_owner hstate howner, hform]
  exact if_neg hfits

theorem marginsOk_iff (f : ControlForm) : marginsOk f = true
    ↔ match f with | .normal _ _ target trim stop _ _ _ => stop ≤ trim ∧ trim ≤ target | _ => True := by
  cases f with
  | normal n g target trim stop quiet w m => simp [marginsOk]
  | standing n g w m => simp [marginsOk]
  | hold n => simp [marginsOk]

/-- What a port may do with a slot that it has reserved, and what it may not. -/
theorem slots_reserved_written (hsup : s.retention.supplied = true) (hstate : (s.slot i).state = .reserved)
    (howner : (s.slot i).reserver = some p) {f : RawForm} {g : GradeId} (hparcel : f.parcel ≤ 4294967295) :
    let wit : PortSet := ⟨decide (f.witness % 2 = 1), decide (f.witness / 2 % 2 = 1), decide (f.witness / 4 % 2 = 1)⟩
    let mode : ResumeMode := if f.resume = 0 then .auto else .manual
    let put (form : ControlForm) : Prop :=
      exec (.writeSlot p 0 i.val f) s = .next (answered p .ok 18 .empty (s.setSlot i { s.slot i with form := some form }))
    let common := f.grade = g.val + 1 ∧ 1 ≤ f.witness ∧ f.witness ≤ 7 ∧ f.resume ≤ 1
    (f.kind = 0 → common → 1 ≤ f.target → f.target ≤ 10000000000 → f.trim ≤ 10000000000 → f.stop ≤ 10000000000 →
        1 ≤ f.quiet → f.quiet ≤ 255 → put (.normal f.parcel g f.target f.trim f.stop f.quiet wit mode))
      ∧ (f.kind = 1 → common → put (.standing f.parcel g wit mode))
      ∧ (f.kind = 2 → put (.hold f.parcel)) := by
  dsimp only
  have hp : within 0 4294967295 f.parcel = true := within_iff.mpr ⟨Nat.zero_le _, hparcel⟩
  refine ⟨fun hk ⟨hg, hw1, hw7, hr⟩ h1 h2 h3 h4 h5 h6 => exec_writeSlot_form hsup hstate howner ?_,
    fun hk ⟨hg, hw1, hw7, hr⟩ => exec_writeSlot_form hsup hstate howner ?_, fun hk => exec_writeSlot_form hsup hstate howner ?_⟩
  · unfold formOf
    rw [hk, gradeOf_of_eq hg, witnessOf, if_pos ⟨hw1, hw7⟩, resumeOf_of_le hr]
    refine if_pos ?_
    simp only [Bool.and_eq_true, within_iff]
    omega
  · unfold formOf
    rw [hk, gradeOf_of_eq hg, witnessOf, if_pos ⟨hw1, hw7⟩, resumeOf_of_le hr]
    exact if_pos hp
  · unfold formOf
    rw [hk]
    exact if_pos hp

theorem exec_writeSlot_range {f : RawForm} (hsup : s.retention.supplied = true) (hstate : (s.slot i).state = .reserved)
    (howner : (s.slot i).reserver = some p) (hform : formOf f = none) :
    exec (.writeSlot p 0 i.val f) s = .next (answered p .range 18 .empty s) := by
  rw [exec_writeSlot hsup hstate howner, hform]

/-- The unit field of RESERVE SLOT, RELEASE HOLD and RESUME LOADING. -/
theorem ring_requests_range (hsup : s.retention.supplied = true) (hunit : unit ≠ 0) :
    exec (.reserveSlot p unit) s = .next (answered p .range 17 .empty s)
      ∧ exec (.releaseHold p unit) s = .next (answered p .range 22 .empty s)
      ∧ exec (.resumeLoading p unit) s = .next (answered p .range 23 .empty s) :=
  ⟨by show execReserveSlot .. = _; exact unitZero_range hsup hunit,
    by show execReleaseHold .. = _; exact unitZero_range hsup hunit,
    by show execResumeLoading .. = _; exact unitZero_range hsup hunit⟩

/-- The unit field and the slot number of the requests that name a slot. -/
theorem slot_requests_range {f : RawForm} (hsup : s.retention.supplied = true) (h : unit ≠ 0 ∨ 7 < slot) :
    exec (.writeSlot p unit slot f) s = .next (answered p .range 18 .empty s)
      ∧ exec (.armSlot p unit slot) s = .next (answered p .range 19 .empty s)
      ∧ exec (.cancelSlot p unit slot) s = .next (answered p .range 20 .empty s)
      ∧ exec (.readSlot p unit slot) s = .next (answered p .range 21 .empty s)
      ∧ exec (.cutParcel p unit slot) s = .next (answered p .range 24 .empty s)
      ∧ exec (.readTicket p unit slot) s = .next (answered p .range 25 .empty s) := by
  refine ⟨?_, ?_, ?_, ?_, ?_, ?_⟩
  · show execWriteSlot .. = _
    exact slot_request_range hsup h
  · show execArmSlot .. = _
    exact slot_request_range hsup h
  · show execCancelSlot .. = _
    exact slot_request_range hsup h
  · show execReadSlot .. = _
    exact slot_request_range hsup h
  · show execCutParcel .. = _
    exact slot_request_range hsup h
  · show execReadTicket .. = _
    exact slot_request_range hsup h

/-- Settles O36: each request goes through the checks of its slot, and the take follows where the slot is the head slot of an
IDLE engine. -/
theorem slotsBeforeTheTake : Obligations.SlotsBeforeTheTake := by
  refine ⟨fun p i s hsup => ⟨fun hfree => ?_, fun hfull => ?_, fun hstate howner f g hparcel =>
      slots_reserved_written hsup hstate howner hparcel, fun hstate howner f hbad => ?_,
      fun hstate f => exec_writeSlot_refused hsup fun k => ifReservedBy_state hstate,
      fun hstate howner f => exec_writeSlot_refused hsup fun k => ifReservedBy_notOwner hstate howner,
      fun hres harm => exec_cancelSlot_state hsup hres harm, fun hstate howner => exec_cancelSlot_notOwner hsup hstate howner⟩,
    fun p i f s hsup => ?_, fun p unit n f s hsup => ⟨ring_requests_range hsup, slot_requests_range hsup⟩⟩
  · rw [exec_reserveSlot hsup, if_pos hfree]
    rfl
  · rw [exec_reserveSlot hsup, if_neg hfull]
  · refine exec_writeSlot_range hsup hstate howner ?_
    rcases hbad with hkind | ⟨hkind, hcommon⟩ | ⟨hkind, hnormal⟩
    · exact formOf_eq_none hkind
    · exact formOf_common_eq_none (by omega) hcommon
    · exact formOf_normal_eq_none hkind hnormal
  · intro x howner awaits armed void fits
    have hfits : marginsOk f = true ↔ fits := marginsOk_iff f
    refine ⟨fun hstate hform hf hawait => ?_, fun hstate hform hf hawait => ?_, fun hstate hform hf =>
      exec_armSlot_order hsup hstate howner hform (mt hfits.mp hf), fun hstate hform =>
      exec_armSlot_formless hsup hstate howner hform, fun hstate hawait => ?_, fun hstate hawait => ?_⟩
    · rw [exec_armSlot hsup hstate howner hform (hfits.mpr hf), takeIfHead_awaits (s := armed) hawait]
    · rw [exec_armSlot hsup hstate howner hform (hfits.mpr hf), takeIfHead_takes (s := armed) hawait]
    · rw [exec_cancelSlot hsup hstate howner, takeIfHead_awaits (s := void) hawait]
    · rw [exec_cancelSlot hsup hstate howner, takeIfHead_takes (s := void) hawait]

/-- Settles O37: an armed head slot is taken at once, by the table of R98. -/
theorem takeOpensTheHeadSlot : Obligations.TakeOpensTheHeadSlot := by
  refine ⟨fun p f s hsup => ?_, fun s => ⟨fun hvoid => ?_, fun harmed f hform hkind => ?_, fun harmed f hform hkind => ?_,
    fun hvoid harmed => ?_⟩⟩
  · intro i x hstate howner hform hfits hidle taken
    have htakes : takeIfHead i (s.setSlot i { s.slot i with state := .armed }) = _ :=
      takeIfHead_takes (not_or.mpr ⟨not_not_intro rfl, not_not_intro hidle⟩)
    have hexec := (exec_armSlot hsup hstate howner hform hfits).trans 
      (congrArg (fun t => Host.Outcome.next (answered p .ok 19 .empty t)) htakes)
    have harmed : ((s.setSlot i { s.slot i with state := .armed }).slot i) = { s.slot i with state := .armed } := Eight.get_set_self ..
    have hother (j : SlotId) (hj : j ≠ i) : (s.setSlot i { s.slot i with state := .armed }).slot j = s.slot j := Eight.get_set_ne hj ..
    set v := s.setSlot i { s.slot i with state := .armed } with hv
    have hform' : (v.slot i).form = some f := by rw [harmed]; exact hform
    have hstate' : (v.slot i).state = .armed := by rw [harmed]
    have hopen (c : CurrentState) (l : Permissive) : (openHead c l v).slot i = taken ∧ ∀ j, j ≠ i → (openHead c l v).slot j = s.slot j := by
      refine ⟨?_, fun j hj => ?_⟩
      · rw [openHead_slot]
        refine (if_pos (show i = v.ring.head from rfl)).trans ?_
        show ({ v.slot i with state := _, openTime := _, portions := _ } : RingSlot) = _
        rw [harmed]
        rfl
      · rw [openHead_slot]
        exact (if_neg (show j ≠ v.ring.head from hj)).trans (hother j hj)
    by_cases hkind : formKind f = .hold
    · refine ⟨_, hexec, ?_⟩
      rw [show takeNext v = _ from takeLooks_hold (n := 8) hstate' hform' hkind]
      exact ⟨(hopen _ _).1, (hopen _ _).2, rfl, rfl, rfl, rfl, rfl, rfl, rfl, fun h => absurd hkind h, fun _ => ⟨rfl, rfl, rfl, rfl⟩⟩
    · refine ⟨_, hexec, ?_⟩
      rw [show takeNext v = _ from takeLooks_parcel (n := 8) hstate' hform' hkind]
      exact ⟨(hopen _ _).1, (hopen _ _).2, rfl, rfl, rfl, rfl, rfl, rfl, rfl,
        fun _ => ⟨rfl, rfl, rfl, fun r => PerRun.get_map ..⟩, fun h => absurd h hkind⟩
  · exact takeNext_void hvoid
  · exact takeLooks_parcel (n := 8) harmed hform hkind
  · exact takeLooks_hold (n := 8) harmed hform hkind
  · exact takeLooks_idle (n := 8) hvoid harmed

/-- RELEASE HOLD of the slot that is held. -/
theorem exec_releaseHold (hsup : s.retention.supplied = true) (hheld : s.ring.current = .held) (hi : s.currentSlot = some i) :
    exec (.releaseHold p 0) s = .next (answered p .ok 22 .empty (takeNext (s.setSlot i .empty))) := by
  show execReleaseHold .. = _
  unfold execReleaseHold
  refine plain_request hsup ?_
  rw [unitZero, if_pos rfl, if_pos hheld, freeHold, hi]
  rfl

/-- Settles O38: the hold slot is freed and the take follows; the outputs follow the level once no resume is pending. -/
theorem holdAndResume : Obligations.HoldAndResume := by
  refine fun p s hsup => ⟨fun hheld => ?_, fun i hheld hi => exec_releaseHold hsup hheld hi, fun i hheld hi hhead => ?_,
    fun hclear => ?_, fun hpending => ?_⟩
  · show execReleaseHold .. = _
    unfold execReleaseHold
    exact plain_request hsup (if_neg hheld)
  · rw [exec_releaseHold hsup hheld hi]
    have hslot : ((s.setSlot i .empty).slot s.ring.head).state ≠ .void ∧ ((s.setSlot i .empty).slot s.ring.head).state ≠ .armed := by
      rw [slot_setSlot]
      by_cases h : s.ring.head = i
      · rw [if_pos h]
        exact ⟨nofun, nofun⟩
      · rw [if_neg h]
        exact hhead h
    rw [show takeNext (s.setSlot i .empty) = _ from takeLooks_idle (n := 8) hslot.1 hslot.2]
    rfl
  · show execResumeLoading .. = _
    unfold execResumeLoading
    exact plain_request hsup (by simp [unitZero, hclear, refuse])
  · refine ⟨{ s with ring := { s.ring with resumePending := false } }, ?_, rfl, ?_, ?_, ?_, ?_⟩
    · show execResumeLoading .. = _
      unfold execResumeLoading
      exact plain_request hsup (by simp [unitZero, hpending, okReply])
    · simp [State.fullPermit, State.drivenLevel, hsup]
    · simp [State.trimPermit, State.drivenLevel, hsup]
    · simp [State.fullPermit, State.drivenLevel, hpending]
    · simp [State.trimPermit, State.drivenLevel, hpending]

end Takes

end Sys2Proof.Machine

/-! What takes, tickets and closings change (R98, R115 to R122): CUT PARCEL, the ticket and READ TICKET. -/

namespace Sys2Proof.Machine

section Closings

variable {s t : State} {n : Nat} {i j : SlotId} {p : Port}

/-! ## What a take changes -/

/-- A slot that is neither VOID nor ARMED is not changed by a take. -/
theorem takeLooks_slot (n : Nat) (hvoid : (s.slot j).state ≠ .void) (harmed : (s.slot j).state ≠ .armed) :
    (takeLooks n s).slot j = s.slot j := by
  induction n generalizing s with
  | zero => rfl
  | succ n ih =>
    by_cases hv : (s.slot s.ring.head).state = .void
    · have hj : j ≠ s.ring.head := fun h => hvoid (h ▸ hv)
      have hslot : (passVoid s).slot j = s.slot j := (passVoid_slot j).trans (if_neg hj)
      rw [takeLooks_void hv, ih (hslot ▸ hvoid) (hslot ▸ harmed), hslot]
    · by_cases ha : (s.slot s.ring.head).state = .armed
      · have hj : j ≠ s.ring.head := fun h => harmed (h ▸ ha)
        have hopen (c : CurrentState) (l : Permissive) : (openHead c l s).slot j = s.slot j :=
          (openHead_slot c l j).trans (if_neg hj)
        cases hform : (s.slot s.ring.head).form with
        | none => rw [takeLooks_formless ha hform]; rfl
        | some f =>
          by_cases hkind : formKind f = .hold
          · rw [takeLooks_hold ha hform hkind]
            exact hopen ..
          · rw [takeLooks_parcel ha hform hkind]
            exact hopen ..
      · rw [takeLooks_idle hv ha]
        rfl

theorem takeNext_slot (hvoid : (s.slot j).state ≠ .void) (harmed : (s.slot j).state ≠ .armed) :
    (takeNext s).slot j = s.slot j := takeLooks_slot 9 hvoid harmed

/-- Of the ring a take changes the slots, the head, the current state and the level. -/
def TakeKeeps (g g' : Ring) : Prop :=
  g'.tail = g.tail ∧ g'.resumePending = g.resumePending ∧ g'.standingGrade = g.standingGrade ∧ g'.watch = g.watch
    ∧ g'.closing = g.closing

theorem TakeKeeps.trans {g g' g'' : Ring} (h : TakeKeeps g g') (h' : TakeKeeps g' g'') : TakeKeeps g g'' :=
  ⟨h'.1.trans h.1, h'.2.1.trans h.2.1, h'.2.2.1.trans h.2.2.1, h'.2.2.2.1.trans h.2.2.2.1, h'.2.2.2.2.trans h.2.2.2.2⟩

theorem takeLooks_ring (n : Nat) (s : State) : TakeKeeps s.ring (takeLooks n s).ring := by
  induction n generalizing s with
  | zero => exact ⟨rfl, rfl, rfl, rfl, rfl⟩
  | succ n ih =>
    by_cases hv : (s.slot s.ring.head).state = .void
    · rw [takeLooks_void hv]
      exact TakeKeeps.trans ⟨rfl, rfl, rfl, rfl, rfl⟩ (ih (passVoid s))
    · by_cases ha : (s.slot s.ring.head).state = .armed
      · cases hform : (s.slot s.ring.head).form with
        | none => rw [takeLooks_formless ha hform]; exact ⟨rfl, rfl, rfl, rfl, rfl⟩
        | some f =>
          by_cases hkind : formKind f = .hold
          · rw [takeLooks_hold ha hform hkind]
            exact ⟨rfl, rfl, rfl, rfl, rfl⟩
          · rw [takeLooks_parcel ha hform hkind]
            exact ⟨rfl, rfl, rfl, rfl, rfl⟩
      · rw [takeLooks_idle hv ha]
        exact ⟨rfl, rfl, rfl, rfl, rfl⟩

theorem takeNext_ring (s : State) : TakeKeeps s.ring (takeNext s).ring := takeLooks_ring 9 s

/-- The take of an ARMED head slot. -/
theorem takeNext_armed {f : ControlForm} (harmed : (s.slot s.ring.head).state = .armed)
    (hform : (s.slot s.ring.head).form = some f) :
    ((takeNext s).slot s.ring.head).state = .current ∧ (takeNext s).ring.head = s.ring.head + 1
      ∧ (takeNext s).ring.current = (if formKind f = .hold then .held else .opened)
      ∧ (takeNext s).ring.level = (if formKind f = .hold then .stop else .full)
      ∧ (formKind f ≠ .hold → takeNext s = giveTarget s.ring.head (openHead .opened .full s)) := by
  have hopen (c : CurrentState) (l : Permissive) : ((openHead c l s).slot s.ring.head).state = .current := by
    rw [openHead_slot, if_pos rfl]
  by_cases hkind : formKind f = .hold
  · rw [show takeNext s = _ from takeLooks_hold (n := 8) harmed hform hkind, if_pos hkind, if_pos hkind]
    exact ⟨hopen _ _, rfl, rfl, rfl, fun h => absurd hkind h⟩
  · rw [show takeNext s = _ from takeLooks_parcel (n := 8) harmed hform hkind, if_neg hkind, if_neg hkind]
    exact ⟨hopen _ _, rfl, rfl, rfl, fun _ => rfl⟩

/-! ## The ticket of a closing -/

theorem writeTicket_slot {c : Closing} (hc : s.ring.closing = some c) (j : SlotId) :
    (writeTicket s).slot j = if j = c.slot then ticketedSlot c s else s.slot j := by
  obtain ⟨x, hx⟩ := writeTicket_some hc
  rw [hx]
  exact slot_setSlot ..

theorem writeTicket_head (s : State) : (writeTicket s).ring.head = s.ring.head
    ∧ (writeTicket s).ring.resumePending = s.ring.resumePending ∧ (writeTicket s).ring.watch = s.ring.watch
    ∧ (writeTicket s).ring.tail = s.ring.tail := by
  cases hc : s.ring.closing with
  | none => simp [writeTicket, hc]
  | some c =>
    obtain ⟨x, hx⟩ := writeTicket_some hc
    rw [hx]
    exact ⟨rfl, rfl, rfl, rfl⟩

theorem writeIfNoneOwe_owed {c : Closing} {r : Run} (hc : s.ring.closing = some c) (hr : c.owing.get r = true) :
    writeIfNoneOwe s = s := by
  rw [writeIfNoneOwe, hc]
  exact if_neg fun h => by simp [none?_iff.mp h r] at hr

theorem writeIfNoneOwe_none {c : Closing} (hc : s.ring.closing = some c) (hnone : ∀ r, c.owing.get r = false) :
    writeIfNoneOwe s = writeTicket s := by
  rw [writeIfNoneOwe, hc]
  exact if_pos (none?_iff.mpr hnone)

theorem postTo_link (ps : PortSet) (k : NoticeKind) (q : BitVec 8) (s : State) (p : Port) : (s.postTo ps k q).link p =
    if ps.get p = true then { s.link p with notices := (s.link p).notices.post k q } else s.link p := by
  have hone (x y : Port) (t : State) : (if ps.get x = true then t.post x k q else t).link y =
      if x = y ∧ ps.get x = true then { t.link y with notices := (t.link y).notices.post k q } else t.link y := by
    by_cases hx : ps.get x = true
    · rw [if_pos hx]
      by_cases hxy : x = y
      · subst hxy
        simp [hx, State.post]
      · simp only [hxy, false_and, if_false]
        exact setLink_ne _ (Ne.symm hxy) _
    · simp [hx]
  show (ports.foldl _ s).link p = _
  simp only [ports, List.foldl_cons, List.foldl_nil, hone]
  cases p <;> simp

/-! ## The figures of a ticket -/

theorem halfAway_nonneg {n : Int} (d : Nat) (h : 0 ≤ n) : 0 ≤ halfAway n d := by
  rw [halfAway, if_neg (by omega)]
  exact Int.natCast_nonneg _

theorem meanOf_nonneg {sum last : Int} (iv : Nat) (hsum : 0 ≤ sum) (hlast : 0 ≤ last) : 0 ≤ meanOf sum iv last := by
  unfold meanOf
  split
  · exact hlast
  · exact halfAway_nonneg iv hsum

/-- A flag is up in the union of the flag sets where it is up in one of them. -/
theorem unionFlags_iff {flag : Flags → Bool} (hempty : flag {} = false)
    (hunion : ∀ a b : Flags, flag (a.union b) = (flag a || flag b))
    (l : List Portion) : flag (unionFlags l) = true ↔ ∃ y ∈ l, flag y.flags = true := by
  induction l with
  | nil => simp [unionFlags, hempty]
  | cons x rest ih => simp [unionFlags, hunion, ih]

theorem periodFlags_empty : ∀ flag ∈ periodFlags, flag {} = false := by
  simp [periodFlags]

theorem periodFlags_union {flag : Flags → Bool} (h : flag ∈ periodFlags) (a b : Flags) :
    flag (a.union b) = (flag a || flag b) := by
  simp only [periodFlags, List.mem_cons, List.not_mem_nil, or_false] at h
  rcases h with rfl | rfl | rfl | rfl | rfl | rfl | rfl | rfl | rfl | rfl | rfl | rfl | rfl | rfl | rfl | rfl <;> rfl

theorem portionSum_list (ps : PerRun (Option Portion)) (f : Portion → Nat) : portionSum ps f = ((portionList ps).map f).sum := by
  have hone (o : Option Portion) : (o.map f).getD 0 = (o.toList.map f).sum := by cases o <;> simp
  simp only [portionSum, portionList, List.map_append, List.sum_append, hone]

/-- Settles O42: the ticket is the closing's own, with the sums, flags and means of the portions. -/
theorem ticketIsWritten : Obligations.TicketIsWritten := by
  intro s c f g w hc hform hgrade hwitness x t parts mean
  have hparts : parts = portionList x.portions := rfl
  have hslot := writeTicket_slot hc
  have hgrade' : ((s.slot c.slot).form.bind formGrade).getD s.ring.standingGrade = g := by rw [hform]; simp [hgrade]
  have hflag {flag : Flags → Bool} (hempty : flag {} = false) (hunion : ∀ a b : Flags, flag (a.union b) = (flag a || flag b))
      (htop : ∀ b, flag { toppedReached := b } = false) : flag (ticketOf x c).flags = true ↔ ∃ y ∈ parts, flag y.flags = true := by
    show flag ((unionFlags _).union _) = true ↔ _
    rw [hunion, htop, Bool.or_false]
    exact unionFlags_iff hempty hunion _
  have hlink (p : Port) : t.link p = if w.get p = true then
      { s.link p with notices := (s.link p).notices.post .ticketReady (slotBit c.slot) } else s.link p := by
    show (writeTicket s).link p = _
    rw [writeTicket, hc]
    dsimp only
    rw [postTo_link]
    rw [hform]
    simp only [Option.bind_some, hwitness, Option.getD_some]
    rfl
  obtain ⟨l, hl⟩ := writeTicket_some hc
  have htf : t = { s with ring := ticketedRing c s, links := l } := hl
  refine ⟨ticketOf x c, (hslot _).trans (if_pos rfl), ?_, ?_, fun j hj => (hslot j).trans (if_neg hj), ?_, ?_, ?_, ?_, rfl, rfl,
    fun n hn => ?_, portionSum_list .., portionSum_list .., portionSum_list .., fun target ht => ?_, fun ht => ?_, ?_,
    hflag rfl (fun _ _ => rfl) (fun _ => rfl), fun flag hmem => ?_, ?_, fun n y hy => ?_, hlink⟩
  · exact writeTicket_closing s
  · rw [htf]
    exact hgrade'
  · rw [htf]; rfl
  · rw [htf]; rfl
  · rw [htf]
  · rw [htf]
  · show x.openTime.getD 0 = n
    rw [hn]
    rfl
  · show overrunOf x.form _ = _
    rw [overrunOf, show x.form = some f from hform]
    simp only [Option.bind_some, ht]
    rfl
  · show overrunOf x.form _ = _
    rw [overrunOf, show x.form = some f from hform]
    simp only [Option.bind_some, ht]
  · have hunion := unionFlags_iff (flag := Flags.toppedReached) rfl (fun _ _ => rfl) parts
    show ((unionFlags _).toppedReached || decide (c.reason ≠ .cut)) = true ↔ _
    rw [Bool.or_eq_true, decide_eq_true_iff, or_comm]
    exact or_congr_right hunion
  · refine hflag (periodFlags_empty flag hmem) (periodFlags_union hmem) fun b => ?_
    simp only [periodFlags, List.mem_cons, List.not_mem_nil, or_false] at hmem
    rcases hmem with rfl | rfl | rfl | rfl | rfl | rfl | rfl | rfl | rfl | rfl | rfl | rfl | rfl | rfl | rfl | rfl <;> rfl
  · exact List.length_map ..
  · refine ⟨y.entry, ?_, rfl, rfl, rfl, rfl, rfl, rfl, rfl, rfl, rfl, rfl, rfl, ?_, ?_, ?_, ?_⟩
    · show ((portionList x.portions).map Portion.entry)[n]? = _
      rw [List.getElem?_map, ← hparts, hy]
      rfl
    all_goals exact Int.toNat_of_nonneg (meanOf_nonneg _ (Int.natCast_nonneg _) (Int.natCast_nonneg _))

/-- Settles O43: the collected set takes in a witness that reads, and the slot is free once it is the witness set. -/
theorem ticketIsReadAndCollected : Obligations.TicketIsReadAndCollected := by
  intro p i f k w s hsup x c
  refine ⟨fun hstate => ?_, fun hstate hform hticket hwitness => ?_⟩
  · show execReadTicket .. = _
    unfold execReadTicket
    refine slot_request hsup ?_
    dsimp only
    split
    case h_1 h _ _ => exact absurd h hstate
    case h_2 => rfl
  · show execReadTicket .. = _
    unfold execReadTicket
    refine slot_request hsup ?_
    have hw : (formWitness f).getD (.all false) = w := by rw [hwitness]; rfl
    dsimp only
    split
    case h_1 f' k' _ hform' hticket' =>
      obtain rfl : f = f' := Option.some.inj (hform.symm.trans hform')
      obtain rfl : k = k' := Option.some.inj (hticket.symm.trans hticket')
      rw [hw, apply_ite (s.setSlot i)]
      rfl
    case h_2 hnone => exact absurd hticket (hnone f k hstate hform)

/-! ## CUT PARCEL -/

/-- A closing that has begun: the slot is CLOSING, no slot is CURRENT, and the runs that owe are those whose target it is. -/
theorem beginClosing_slot (reason : CloseReason) (j : SlotId) :
    (beginClosing i reason s).slot j = if j = i then { s.slot i with state := .closing } else s.slot j := slot_setSlot ..

theorem owes_eq (k : Calculator) (i : SlotId) : owes k i = decide (k.runState = .online ∧ k.target = some i) :=
  (Bool.decide_and ..).symm

/-- The state with the closing of a parcel begun, before a run leaves it and before the take. -/
theorem beginClosing_eq (i : SlotId) (reason : CloseReason) (s : State) : beginClosing i reason s = { s with
    ring := {
      s.ring with
      slots := s.ring.slots.set i { s.slot i with state := .closing }
      current := .idle, resumePending := false
      closing := some { slot := i, reason := reason, closeTime := s.terminalTime,
                        owing := s.calcs.map (fun k => decide (k.runState = .online ∧ k.target = some i)) } } } := by
  simp only [Bool.decide_and]
  rfl

theorem beginClosing_owing (reason : CloseReason) : (beginClosing i reason s).ring.closing
    = some ⟨i, reason, s.terminalTime, s.calcs.map fun k => owes k i⟩ := rfl

theorem owing_iff (i : SlotId) (s : State) (r : Run) : (s.calcs.map fun k => owes k i).get r = true
    ↔ (s.calcOf r).runState = .online ∧ (s.calcOf r).target = some i := by
  rw [PerRun.get_map, owes_eq, decide_eq_true_iff]
  rfl

/-- The run does not owe: it is OFFLINE or has another target. -/
theorem not_owing_iff (i : SlotId) (s : State) (r : Run) : (s.calcs.map fun k => owes k i).get r = false
    ↔ (s.calcOf r).runState = .offline ∨ (s.calcOf r).target ≠ some i := by
  rw [← Bool.not_eq_true, owing_iff, not_and_or, not_online_iff]

theorem startClosing_owed {reason : CloseReason} {r : Run} (hr : (s.calcOf r).runState = .online ∧ (s.calcOf r).target = some i) :
    startClosing i reason none s = takeNext (beginClosing i reason s) :=
  congrArg takeNext (writeIfNoneOwe_owed (beginClosing_owing reason) ((owing_iff i s r).mpr hr))

theorem startClosing_unowed {reason : CloseReason} (h : ∀ r, (s.calcOf r).runState = .offline ∨ (s.calcOf r).target ≠ some i) :
    startClosing i reason none s = takeNext (writeTicket (beginClosing i reason s)) :=
  congrArg takeNext (writeIfNoneOwe_none (beginClosing_owing reason) fun r => (not_owing_iff i s r).mpr (h r))

theorem exec_cutParcel (hsup : s.retention.supplied = true) (hopen : s.parcelOpen = true) (hi : (s.slot i).state = .current)
    (hclosing : s.ring.closing = none) : exec (.cutParcel p 0 i.val) s = .next (answered p .ok 24 .empty
      (startClosing i (if s.ring.current = .topped then .cutTopped else .cut) none s)) := by
  show execCutParcel .. = _
  unfold execCutParcel
  refine slot_request hsup ?_
  rw [if_neg (by simp [hopen]), if_neg (not_not_intro hi), if_neg (by simp [hclosing])]
  rfl

/-- What stays of the ring when a closing has begun and, where no run owes, its ticket is written. -/
theorem cutParcel_take {u : State} {reason : CloseReason}
    (hu : u = beginClosing i reason s ∨ u = writeTicket (beginClosing i reason s)) (hi : (s.slot i).state = .current) :
    (takeNext u).ring.resumePending = false
      ∧ (((takeNext u).slot i).portions = (s.slot i).portions ∧ ((takeNext u).slot i).form = (s.slot i).form)
      ∧ ∀ f, (s.slot s.ring.head).state = .armed → (s.slot s.ring.head).form = some f →
        ((takeNext u).slot s.ring.head).state = .current ∧ (takeNext u).ring.head = s.ring.head + 1
          ∧ (takeNext u).ring.current = (if formKind f = .hold then .held else .opened)
          ∧ (takeNext u).ring.level = (if formKind f = .hold then .stop else .full) := by
  have hpending : u.ring.resumePending = false ∧ u.ring.head = s.ring.head := by
    rcases hu with rfl | rfl
    · exact ⟨rfl, rfl⟩
    · exact ⟨(writeTicket_head _).2.1, (writeTicket_head _).1⟩
  have hother (j : SlotId) (hj : j ≠ i) : u.slot j = s.slot j := by
    rcases hu with rfl | rfl
    · rw [beginClosing_slot, if_neg hj]
    · exact ((writeTicket_slot (beginClosing_owing reason) j).trans (if_neg hj)).trans ((beginClosing_slot reason j).trans (if_neg hj))
  have hslot : ((u.slot i).state = .closing ∨ (u.slot i).state = .complete) ∧ (u.slot i).portions = (s.slot i).portions
      ∧ (u.slot i).form = (s.slot i).form := by
    have hbegun := (beginClosing_slot (s := s) (i := i) reason i).trans (if_pos rfl)
    rcases hu with rfl | rfl
    · rw [hbegun]
      exact ⟨.inl rfl, rfl, rfl⟩
    · rw [writeTicket_slot (beginClosing_owing reason), if_pos rfl]
      refine ⟨.inr rfl, ?_, ?_⟩
      · show ((beginClosing i reason s).slot i).portions = _
        rw [hbegun]
      · show ((beginClosing i reason s).slot i).form = _
        rw [hbegun]
  obtain ⟨hstate, hkept⟩ := hslot
  have htake : (takeNext u).slot i = u.slot i :=
    takeNext_slot (by rcases hstate with h | h <;> simp [h]) (by rcases hstate with h | h <;> simp [h])
  refine ⟨(takeNext_ring u).2.1.trans hpending.1, by rwa [htake], fun f harmed hform => ?_⟩
  have hne : s.ring.head ≠ i := fun h => by rw [h, hi] at harmed; simp at harmed
  have hhead := hother s.ring.head hne
  obtain ⟨h1, h2, h3, h4, -⟩ := takeNext_armed (s := u) (f := f) (by rw [hpending.2, hhead]; exact harmed)
    (by rw [hpending.2, hhead]; exact hform)
  rw [hpending.2] at h1 h2
  exact ⟨h1, h2, h3, h4⟩

/-- Settles O39: the closing begins, its ticket is written where no run owes, and the next slot is taken. -/
theorem cutStartsAClosing : Obligations.CutStartsAClosing := by
  refine fun p i s hsup => ⟨fun hnot => ?_, fun hopen hi hbusy => ?_, fun hopen hi hclosing => ?_⟩
  · show execCutParcel .. = _
    unfold execCutParcel
    refine slot_request hsup ?_
    by_cases hopen : s.parcelOpen = true
    · rw [if_neg (by simp [hopen]), if_pos]
      · rfl
      · refine (hnot.resolve_left fun h => ?_).resolve_left fun h => ?_ <;> simp [State.parcelOpen, h] at hopen
    · rw [if_pos (by simpa using hopen)]
      rfl
  · show execCutParcel .. = _
    unfold execCutParcel
    refine slot_request hsup ?_
    rw [if_neg (by simp [hopen]), if_neg (not_not_intro hi), if_pos (by simpa [Option.isSome_iff_ne_none] using hbusy)]
    rfl
  · intro begun
    have hexec := exec_cutParcel (p := p) hsup hopen hi hclosing
    set reason : CloseReason := if s.ring.current = .topped then .cutTopped else .cut with hreason
    have hbegun : beginClosing i reason s = begun := beginClosing_eq ..
    have hframe : Frame [.ring, .calcs, .links] s (startClosing i reason none s) := ring_calcs_frame s (startClosing_touches ..)
    refine ⟨startClosing i reason none s, hexec, ?_⟩
    by_cases howed : ∃ r, (s.calcOf r).runState = .online ∧ (s.calcOf r).target = some i
    · obtain ⟨r, hr⟩ := howed
      have ht := startClosing_owed (reason := reason) hr
      obtain ⟨hpending, ⟨hportions, hform⟩, hhead⟩ := cutParcel_take (.inl rfl) (reason := reason) hi
      rw [ht] at hframe ⊢
      have hno : ¬ ∀ r, (s.calcOf r).runState = .offline ∨ (s.calcOf r).target ≠ some i := fun h => by
        rcases h r with h | h
        · simp [h] at hr
        · exact h hr.2
      refine ⟨hpending, hframe.same .bank (by decide), hframe.same .live (by decide), hframe.same .prove (by decide),
        hframe.same .claims (by decide), hportions, hform, fun _ => ⟨?_, ⟨i, reason, s.terminalTime, s.calcs.map fun k =>
          owes k i⟩, ?_, rfl, rfl, rfl, owing_iff i s⟩,
        fun h => absurd h hno, fun _ => congrArg takeNext hbegun, fun h => absurd h hno, hhead⟩
      · have hslot := (beginClosing_slot (s := s) (i := i) reason i).trans (if_pos rfl)
        rw [takeNext_slot (by simp [hslot]) (by simp [hslot]), hslot]
      · exact (takeNext_ring _).2.2.2.2.trans (beginClosing_owing reason)
    · have hunowed (r : Run) : (s.calcOf r).runState = .offline ∨ (s.calcOf r).target ≠ some i := by
        have h := not_exists.mp howed r
        rwa [not_and_or, not_online_iff] at h
      have ht := startClosing_unowed (reason := reason) hunowed
      obtain ⟨hpending, ⟨hportions, hform⟩, hhead⟩ := cutParcel_take (.inr rfl) (reason := reason) hi
      rw [ht] at hframe ⊢
      have hslot := (writeTicket_slot (beginClosing_owing (s := s) (i := i) reason) i).trans (if_pos rfl)
      have htake := takeNext_slot (s := writeTicket (beginClosing i reason s)) (j := i) (by simp [hslot, ticketedSlot])
        (by simp [hslot, ticketedSlot])
      refine ⟨hpending, hframe.same .bank (by decide), hframe.same .live (by decide), hframe.same .prove (by decide),
        hframe.same .claims (by decide), hportions, hform, fun h => absurd h howed, fun _ => ⟨?_, ?_, ?_⟩,
        fun h => absurd h howed, fun _ => congrArg (fun u => takeNext (writeTicket u)) hbegun, hhead⟩
      · rw [htake, hslot]
        rfl
      · exact (takeNext_ring _).2.2.2.2.trans (writeTicket_closing _)
      · rw [htake, hslot]
        rfl

end Closings

end Sys2Proof.Machine

/-! Arrivals at the Parcel Engine (R100 to R102, R112, R116 to R118). -/

namespace Sys2Proof.Machine

section Arrivals

variable {s t : State} {r : Run} {i j : SlotId} {a : Arrival} {c : Closing}

/-! ## An arrival joins its portion (R112) -/

/-- The portion of a run once an arrival has joined it. -/
def portionAfter (a : Arrival) : Option Portion → Portion
  | none => .first a
  | some x => x.add a

/-- The slot of the destination once the arrival has joined its portion. -/
def RingSlot.joined (x : RingSlot) (a : Arrival) : RingSlot :=
  { x with portions := x.portions.set a.run (some (portionAfter a (x.portions.get a.run))) }

theorem addToPortion_eq (i : SlotId) (a : Arrival) (s : State) : addToPortion i a s = s.setSlot i ((s.slot i).joined a) := by
  simp only [addToPortion, RingSlot.joined]
  cases (s.slot i).portions.get a.run <;> rfl

theorem addToPortion_slot (i j : SlotId) (a : Arrival) (s : State) :
    (addToPortion i a s).slot j = if j = i then (s.slot i).joined a else s.slot j := by
  rw [addToPortion_eq, slot_setSlot]

theorem portionAfter_nsv (a : Arrival) (o : Option Portion) : (portionAfter a o).nsv = (o.map (·.nsv)).getD 0 + a.nsvInc := by
  cases o with
  | none => exact (Nat.zero_add _).symm
  | some x => rfl

theorem joined_parcelNsv (x : RingSlot) (a : Arrival) : (x.joined a).parcelNsv = x.parcelNsv + a.nsvInc := by
  have hnsv := portionAfter_nsv a (x.portions.get a.run)
  simp only [RingSlot.parcelNsv, portionSum, RingSlot.joined]
  cases hr : a.run <;> simp only [hr, PerRun.get, PerRun.set, Option.map_some, Option.getD_some] at hnsv ⊢ <;> omega

/-- What the permissive's evaluation leaves: only the current state, the level and the links may change. -/
theorem evaluatePermissive_changes (i : SlotId) (s : State) : ∃ current level links,
    evaluatePermissive i s = { s with ring := { s.ring with current := current, level := level }, links := links } := by
  unfold evaluatePermissive
  split
  · dsimp only
    split
    · split
      · exact ⟨_, _, _, rfl⟩
      · split
        · exact ⟨s.ring.current, _, _, rfl⟩
        · exact ⟨s.ring.current, s.ring.level, s.links, rfl⟩
    · exact ⟨s.ring.current, s.ring.level, s.links, rfl⟩
  · exact ⟨s.ring.current, s.ring.level, s.links, rfl⟩

/-- The table of R101 for a CURRENT slot of kind NORMAL. -/
theorem evaluatePermissive_normal {n target trim stop quiet : Nat} {g : GradeId} {w : PortSet} {m : ResumeMode}
    (hi : (s.slot i).state = .current) (hform : (s.slot i).form = some (.normal n g target trim stop quiet w m)) :
    evaluatePermissive i s = if s.ring.current = .opened then
      if (target : Int) - (s.slot i).parcelNsv ≤ stop then
        { s with ring := { s.ring with current := .topped, level := .stop } }.postAll .parcelStage stageStop
      else if s.ring.level = .full ∧ (target : Int) - (s.slot i).parcelNsv ≤ trim then
        { s with ring := { s.ring with level := .trim } }.postAll .parcelStage stageTrim
      else s
    else s := by
  rw [evaluatePermissive, hi, hform]
  rfl

theorem evaluatePermissive_other (hi : (s.slot i).state ≠ .current) : evaluatePermissive i s = s := by
  unfold evaluatePermissive
  split
  case h_1 h _ => exact absurd h hi
  case h_2 => rfl

/-- Once an arrival has a destination, the watch is set. -/
theorem applyWatch_assigned (h : a.destination = some i) : applyWatch a s = { s with ring := { s.ring with watch := true } } := by
  rw [applyWatch, h]

/-- The state in which an assigned arrival's step 4 is taken: the arrival has joined, the permissive is evaluated, the watch is
set. -/
def joinedState (i : SlotId) (a : Arrival) (s : State) : State :=
  let t := evaluatePermissive i (addToPortion i a s)
  { t with ring := { t.ring with watch := true } }

theorem engineArrival_assigned (h : a.destination = some i) : engineArrival a s = advanceClosing a (joinedState i a s) := by
  rw [engineArrival, assignArrival, h]
  exact congrArg _ (applyWatch_assigned h)

theorem joinedState_touches (i : SlotId) (a : Arrival) (s : State) : ∃ current level links, joinedState i a s = { s with
    ring := {
      s.ring with
      slots := s.ring.slots.set i ((s.slot i).joined a), current := current, level := level, watch := true }
    links := links } := by
  obtain ⟨current, level, links, h⟩ := evaluatePermissive_changes i (addToPortion i a s)
  refine ⟨current, level, links, ?_⟩
  rw [joinedState, h, addToPortion_eq]
  rfl

theorem joinedState_slot (i j : SlotId) (a : Arrival) (s : State) :
    (joinedState i a s).slot j = if j = i then (s.slot i).joined a else s.slot j := by
  obtain ⟨current, level, links, h⟩ := joinedState_touches i a s
  rw [h]
  exact slot_setSlot ..

theorem joinedState_calcs (i : SlotId) (a : Arrival) (s : State) : (joinedState i a s).calcs = s.calcs := by
  obtain ⟨current, level, links, h⟩ := joinedState_touches i a s
  rw [h]

theorem joinedState_closing (i : SlotId) (a : Arrival) (s : State) : (joinedState i a s).ring.closing = s.ring.closing := by
  obtain ⟨current, level, links, h⟩ := joinedState_touches i a s
  rw [h]

/-! ## What the closings leave of a slot -/

/-- The slot keeps its portions, and is as it was, CLOSING or COMPLETE. -/
def RingSlot.Kept (x y : RingSlot) : Prop := y.portions = x.portions ∧ (y.state = x.state ∨ y.state = .closing ∨ y.state = .complete)

theorem RingSlot.Kept.refl (x : RingSlot) : x.Kept x := ⟨rfl, .inl rfl⟩

theorem RingSlot.Kept.trans {x y z : RingSlot} (h : x.Kept y) (h' : y.Kept z) : x.Kept z :=
  ⟨h'.1.trans h.1, h'.2.elim (fun hz => h.2.elim (fun hy => .inl (hz.trans hy)) fun hy => .inr (hz ▸ hy)) .inr⟩

theorem RingSlot.Kept.untaken {x y : RingSlot} (h : x.Kept y) (hx : x.state = .current ∨ x.state = .closing) :
    y.state ≠ .void ∧ y.state ≠ .armed := by
  obtain ⟨-, hy⟩ := h
  rcases hy with hy | hy | hy <;> rcases hx with hx | hx <;> simp [hy, hx]

theorem beginClosing_keeps (reason : CloseReason) (s : State) (j : SlotId) :
    (s.slot j).Kept ((beginClosing i reason s).slot j) := by
  rw [beginClosing_slot]
  split
  case isTrue h =>
    subst h
    exact ⟨rfl, .inr (.inl rfl)⟩
  case isFalse => exact .refl _

theorem writeTicket_keeps (s : State) (j : SlotId) : (s.slot j).Kept ((writeTicket s).slot j) := by
  cases hc : s.ring.closing with
  | none =>
    rw [writeTicket, hc]
    exact .refl _
  | some c =>
    rw [writeTicket_slot hc]
    split
    case isTrue h =>
      subst h
      exact ⟨rfl, .inr (.inr rfl)⟩
    case isFalse => exact .refl _

theorem writeIfNoneOwe_eq (s : State) : writeIfNoneOwe s = s ∨ writeIfNoneOwe s = writeTicket s := by
  unfold writeIfNoneOwe
  split
  · exact .inl rfl
  · split
    · exact .inr rfl
    · exact .inl rfl

theorem writeIfNoneOwe_keeps (s : State) (j : SlotId) : (s.slot j).Kept ((writeIfNoneOwe s).slot j) := by
  rcases writeIfNoneOwe_eq s with h | h <;> rw [h]
  · exact .refl _
  · exact writeTicket_keeps s j

/-- The run of a portion that closes has moved on and has left the owing set. -/
def leftState (r : Run) (s : State) : State := leaveOwing r (moveOn r (applyPendingK r s))

theorem leftState_eq (r : Run) (s : State) : leftState r s = { s with
    calcs := (applyPendingK r s).calcs.set r { (applyPendingK r s).calcOf r with target := s.offeredTarget }
    ring := { s.ring with closing := s.ring.closing.map fun c => { c with owing := c.owing.set r false } } } := by
  obtain ⟨k, hk⟩ := applyPendingK_touches r s
  rw [leftState, leaveOwing_eq, hk]
  rfl

theorem leftState_slot (r : Run) (s : State) (j : SlotId) : (leftState r s).slot j = s.slot j := by
  rw [leftState_eq]
  rfl

theorem closePortion_keeps (r : Run) (s : State) (j : SlotId) : (s.slot j).Kept ((closePortion r s).slot j) := by
  rw [closePortion_eq]
  exact leftState_slot r s j ▸ writeIfNoneOwe_keeps (leftState r s) j

theorem writeIfNoneOwe_watch (s : State) : (writeIfNoneOwe s).ring.watch = s.ring.watch := by
  rcases writeIfNoneOwe_eq s with h | h <;> rw [h]
  exact (writeTicket_head s).2.2.1

theorem closePortion_watch (r : Run) (s : State) : (closePortion r s).ring.watch = s.ring.watch := by
  rw [closePortion_eq, writeIfNoneOwe_watch]
  show (leftState r s).ring.watch = _
  rw [leftState_eq]

theorem startClosing_watch (reason : CloseReason) (q : Option Run) (s : State) :
    (startClosing i reason q s).ring.watch = s.ring.watch := by
  unfold startClosing
  refine (takeNext_ring _).2.2.2.1.trans ((writeIfNoneOwe_watch _).trans ?_)
  cases q with
  | none => rfl
  | some r => exact closePortion_watch r _

theorem startClosing_slot (reason : CloseReason) (q : Option Run)
    (hj : (s.slot j).state = .current ∨ (s.slot j).state = .closing) :
    (s.slot j).Kept ((startClosing i reason q s).slot j) := by
  unfold startClosing
  have hkept : (s.slot j).Kept ((writeIfNoneOwe (match q with
      | none => beginClosing i reason s
      | some r => closePortion r (beginClosing i reason s))).slot j) := by
    refine RingSlot.Kept.trans ?_ (writeIfNoneOwe_keeps _ j)
    cases q with
    | none => exact beginClosing_keeps reason s j
    | some r => exact (beginClosing_keeps reason s j).trans (closePortion_keeps r _ j)
  have htake := hkept.untaken hj
  have hslot := takeNext_slot htake.1 htake.2
  exact hslot ▸ hkept

theorem advanceClosing_slot (hj : (s.slot j).state = .current ∨ (s.slot j).state = .closing) :
    (s.slot j).Kept ((advanceClosing a s).slot j) := by
  unfold advanceClosing
  split
  · exact closePortion_keeps _ s j
  · split
    · exact .refl _
    · split
      · exact startClosing_slot _ _ hj
      · exact .refl _

theorem advanceClosing_watch (a : Arrival) (s : State) : (advanceClosing a s).ring.watch = s.ring.watch := by
  unfold advanceClosing
  split
  · exact closePortion_watch ..
  · split
    · rfl
    · split
      · exact startClosing_watch ..
      · rfl

theorem exec_arrivalAtEngine (hsup : s.retention.supplied = true) (ha : s.toEngine.get r = some a) :
    exec (.incrementArrivalAtEngine r) s = .next (engineArrival a { s with toEngine := s.toEngine.set r none }) := by
  show execIncrementArrivalAtEngine .. = _
  rw [execIncrementArrivalAtEngine, event_supplied hsup, takeAtEngine, ha]

/-- Settles O40: the arrival joins its portion, and nothing that follows in the event changes a portion of the slot. -/
theorem arrivalJoinsItsPortion : Obligations.ArrivalJoinsItsPortion := by
  intro r a i s hsup ha hdest hi
  have hexec := exec_arrivalAtEngine hsup ha
  rw [engineArrival_assigned hdest] at hexec
  set v : State := { s with toEngine := s.toEngine.set r none } with hv
  have hjoined : (joinedState i a v).slot i = (s.slot i).joined a := (joinedState_slot i i a v).trans (if_pos rfl)
  have hkept := (advanceClosing_slot (a := a) (s := joinedState i a v) (j := i) (by rw [hjoined]; exact hi)).1
  rw [hjoined] at hkept
  have hframe : Frame [.ring, .calcs, .links, .toEngine] s (takeAtEngine r s) := takeAtEngine_frame s r
  have htake : takeAtEngine r s = advanceClosing a (joinedState i a v) := by
    rw [takeAtEngine, ha]
    exact engineArrival_assigned hdest
  refine ⟨_, portionAfter a ((s.slot i).portions.get a.run), hexec, ?_, ?_, ?_, ?_, fun q hq => ?_, ?_⟩
  · rw [← htake, takeAtEngine_toEngine, PerRun.get_set_self]
  · rw [← htake]
    exact hframe.same .bank (by decide)
  · rw [advanceClosing_watch]
    rfl
  · rw [hkept]
    exact PerRun.get_set_self ..
  · rw [hkept]
    exact PerRun.get_set_ne hq ..
  · cases hx : (s.slot i).portions.get a.run with
    | none =>
      exact ⟨rfl, rfl, rfl, rfl, rfl, rfl, fun _ => ⟨rfl, rfl, rfl, rfl, rfl, rfl, rfl, rfl, rfl, rfl, rfl, rfl, rfl, rfl⟩,
        fun x hx' => absurd hx' (Option.some_ne_none x).symm⟩
    | some x =>
      refine ⟨rfl, rfl, rfl, rfl, rfl, rfl, fun hx' => absurd hx' (Option.some_ne_none x), fun x' hx' => ?_⟩
      obtain rfl := Option.some.inj hx'
      refine ⟨rfl, rfl, rfl, rfl, rfl, rfl, rfl, rfl, rfl, rfl, rfl, rfl, fun flag hflag => ?_, rfl, Bool.or_false _, rfl⟩
      show flag ((x.flags.union a.flags).union { kChanged := decide (a.kmilli ≠ x.kUsed) }) = _
      have hk (b : Bool) : flag { kChanged := b } = false := by
        simp only [periodFlags, List.mem_cons, List.not_mem_nil, or_false] at hflag
        rcases hflag with rfl | rfl | rfl | rfl | rfl | rfl | rfl | rfl | rfl | rfl | rfl | rfl | rfl | rfl | rfl | rfl <;> rfl
      rw [periodFlags_union hflag, periodFlags_union hflag, hk, Bool.or_false]

end Arrivals

end Sys2Proof.Machine

/-! The watch, the permissive, the owing run and the quiet close of an arrival (R100 to R102, R116 to R118). -/

namespace Sys2Proof.Machine

section Watch

variable {s t : State} {r : Run} {i j : SlotId} {a : Arrival} {c : Closing}

/-! ## The calculators after a take and after a portion has closed -/

/-- A take that opens a parcel gives it to the ONLINE runs without a target; any other leaves the calculators. -/
theorem takeLooks_outcome (n : Nat) (s : State) :
    (∃ j, (takeLooks n s).ring.current = .opened ∧ ((takeLooks n s).slot j).state = .current
        ∧ ∀ q, (takeLooks n s).calcOf q = { s.calcOf q with
            target := if (s.calcOf q).runState = .online ∧ (s.calcOf q).target = none then some j else (s.calcOf q).target })
      ∨ ((takeLooks n s).ring.current ≠ .opened ∧ (takeLooks n s).calcs = s.calcs) := by
  induction n generalizing s with
  | zero => exact .inr ⟨nofun, rfl⟩
  | succ n ih =>
    by_cases hv : (s.slot s.ring.head).state = .void
    · rw [takeLooks_void hv]
      exact ih (passVoid s)
    · by_cases ha : (s.slot s.ring.head).state = .armed
      · cases hform : (s.slot s.ring.head).form with
        | none => rw [takeLooks_formless ha hform]; exact .inr ⟨nofun, rfl⟩
        | some f =>
          by_cases hkind : formKind f = .hold
          · rw [takeLooks_hold ha hform hkind]
            exact .inr ⟨nofun, rfl⟩
          · rw [takeLooks_parcel ha hform hkind]
            refine .inl ⟨s.ring.head, rfl, ?_, fun q => giveTarget_calcOf ..⟩
            show ((openHead .opened .full s).slot s.ring.head).state = _
            rw [openHead_slot, if_pos rfl]
      · rw [takeLooks_idle hv ha]
        exact .inr ⟨nofun, rfl⟩

theorem applyPendingK_calcOf (r q : Run) (s : State) : (applyPendingK r s).calcOf q = if q = r then
    (match (s.calcOf r).pendingK with
      | none => s.calcOf r
      | some k => (s.calcOf r).applyK k) else s.calcOf q := by
  unfold applyPendingK
  by_cases h : q = r
  · subst h
    rw [if_pos rfl]
    cases (s.calcOf q).pendingK with
    | none => rfl
    | some k => exact setCalc_self ..
  · rw [if_neg h]
    cases (s.calcOf r).pendingK with
    | none => rfl
    | some k => exact setCalc_ne _ h _

theorem leftState_calcOf (r q : Run) (s : State) : (leftState r s).calcOf q = if q = r then
    { (applyPendingK r s).calcOf r with target := s.offeredTarget } else s.calcOf q := by
  rw [leftState_eq]
  split
  case isTrue h =>
    subst h
    exact PerRun.get_set_self ..
  case isFalse h =>
    refine (PerRun.get_set_ne h ..).trans ?_
    exact (applyPendingK_calcOf r q s).trans (if_neg h)

theorem applyPendingK_set (r : Run) (k : Calculator → Calculator) (s : State) :
    (applyPendingK r s).calcs.set r (k ((applyPendingK r s).calcOf r)) = s.calcs.set r (k ((applyPendingK r s).calcOf r)) := by
  obtain h | ⟨x, h⟩ : applyPendingK r s = s ∨ ∃ x, applyPendingK r s = s.setCalc r x := by
    unfold applyPendingK
    split
    · exact .inl rfl
    · exact .inr ⟨_, rfl⟩
  · rw [h]
  · rw [h]
    cases r <;> rfl

/-- A portion that closes for a run that is the last to leave has the ticket written; otherwise the closing goes on. -/
theorem closePortion_stays (hc : s.ring.closing = some c) {q : Run} (hq : (c.owing.set r false).get q = true) :
    closePortion r s = leftState r s := by
  rw [closePortion_eq]
  refine writeIfNoneOwe_owed (c := { c with owing := c.owing.set r false }) ?_ hq
  show (leftState r s).ring.closing = _
  rw [leftState_eq, hc]
  rfl

theorem leftState_closing (r : Run) (hc : s.ring.closing = some c) :
    (leftState r s).ring.closing = some { c with owing := c.owing.set r false } := by
  rw [leftState_eq, hc]
  rfl

theorem closePortion_writes (hc : s.ring.closing = some c) (hnone : ∀ q, (c.owing.set r false).get q = false) :
    closePortion r s = writeTicket (leftState r s) := by
  rw [closePortion_eq]
  exact writeIfNoneOwe_none (leftState_closing r hc) hnone

theorem owing_left {o : RunSet} {r q : Run} : (o.set r false).get q = true ↔ q ≠ r ∧ o.get q = true := by
  by_cases h : q = r
  · simp [h]
  · rw [PerRun.get_set_ne h]
    simp [h]

/-! ## What an arrival brings about -/

/-- The current slot is looked for among the states of the slots alone. -/
theorem currentSlot_congr (h : ∀ i, (t.slot i).state = (s.slot i).state) : t.currentSlot = s.currentSlot := by
  simp only [State.currentSlot, h]

theorem joinedState_current (i : SlotId) (a : Arrival) (s : State) : (joinedState i a s).currentSlot = s.currentSlot := by
  refine currentSlot_congr fun j => ?_
  rw [joinedState_slot]
  split
  case isTrue h =>
    subst h
    rfl
  case isFalse => rfl

/-- The run of an arrival to a slot that is not the closing slot does not owe. -/
theorem owedArrival_false (hclosing : ∀ c, s.ring.closing = some c → a.destination ≠ some c.slot) : owedArrival a s = false := by
  rw [← Bool.not_eq_true]
  intro h
  obtain ⟨c, hc, -, hdest⟩ := owedArrival_cases h
  exact hclosing c hc hdest

theorem quietTest_false {n target trim stop quiet : Nat} {g : GradeId} {w : PortSet} {m : ResumeMode} {q : Run}
    (hform : (s.slot i).form = some (.normal n g target trim stop quiet w m)) (hon : (s.calcOf q).runState = .online)
    (hquiet : (s.calcOf q).quiet < quiet) : quietTest i s = false := by
  have hall : allQuiet s quiet = false := by
    rw [← Bool.not_eq_true, allQuiet, List.all_eq_true]
    intro h
    have hmem : q ∈ runs := by cases q <;> decide
    have := h q hmem
    simp [hon] at this
    omega
  simp [quietTest, quietPeriods, hform, hall]

theorem quietTest_true {n target trim stop quiet : Nat} {g : GradeId} {w : PortSet} {m : ResumeMode}
    (hi : (s.slot i).state = .current) (hform : (s.slot i).form = some (.normal n g target trim stop quiet w m))
    (htop : s.ring.current = .topped) (hclosing : s.ring.closing = none)
    (hquiet : ∀ q, (s.calcOf q).runState = .online → quiet ≤ (s.calcOf q).quiet) : quietTest i s = true := by
  have hall : allQuiet s quiet = true := by
    rw [allQuiet, List.all_eq_true]
    intro q _
    by_cases hon : (s.calcOf q).runState = .online
    · simp [hquiet q hon]
    · simp [not_online_iff.mp hon]
  simp [quietTest, quietPeriods, hform, hall, hi, htop, hclosing]

theorem advanceClosing_none (howed : owedArrival a s = false) (hdest : a.destination = some i) (hquiet : quietTest i s = false) :
    advanceClosing a s = s := by
  rw [advanceClosing, howed, hdest]
  simp [hquiet]

theorem advanceClosing_quiet (howed : owedArrival a s = false) (hdest : a.destination = some i) (hquiet : quietTest i s = true) :
    advanceClosing a s = startClosing i .quiet (some a.run) s := by
  rw [advanceClosing, howed, hdest]
  simp [hquiet]

/-- An arrival without a destination reaches the watch alone. -/
theorem engineArrival_unassigned (hdest : a.destination = none) : engineArrival a s = (if a.pulses = 0 then s
    else if s.ring.watch = true then { s with ring := { s.ring with watch := false } }.postAll .parcelStage stageUnassigned
    else { s with ring := { s.ring with watch := false } }) := by
  have howed (t : State) : owedArrival a t = false := owedArrival_false (by simp [hdest])
  rw [engineArrival, assignArrival, hdest, advanceClosing, howed, hdest, applyWatch, hdest]
  rfl

/-- The permissive is evaluated with the arrival's NSV in. -/
theorem joinedState_normal {n target trim stop quiet : Nat} {g : GradeId} {w : PortSet} {m : ResumeMode}
    (hi : (s.slot i).state = .current) (hform : (s.slot i).form = some (.normal n g target trim stop quiet w m)) :
    let v := addToPortion i a s
    let remaining : Int := (target : Int) - ((s.slot i).parcelNsv + a.nsvInc)
    evaluatePermissive i v = if s.ring.current = .opened then
      if remaining ≤ stop then
        { v with ring := { v.ring with current := .topped, level := .stop } }.postAll .parcelStage stageStop
      else if s.ring.level = .full ∧ remaining ≤ trim then
        { v with ring := { v.ring with level := .trim } }.postAll .parcelStage stageTrim
      else v
    else v := by
  dsimp only
  have hslot : (addToPortion i a s).slot i = (s.slot i).joined a := (addToPortion_slot i i a s).trans (if_pos rfl)
  rw [evaluatePermissive_normal (s := addToPortion i a s) (n := n) (g := g) (target := target) (trim := trim) (stop := stop)
    (quiet := quiet) (w := w) (m := m) (by rw [hslot]; exact hi) (by rw [hslot]; exact hform)]
  rw [hslot, joined_parcelNsv]
  rfl

theorem owedArrival_true (hc : s.ring.closing = some c) (howe : c.owing.get a.run = true) (hdest : a.destination = some c.slot) :
    owedArrival a s = true := by
  rw [owedArrival, hc]
  simp [howe, hdest]

/-- An arrival to a slot that is not CURRENT leaves the permissive alone. -/
theorem joinedState_other (hi : (s.slot i).state ≠ .current) : joinedState i a s =
    { addToPortion i a s with ring := { (addToPortion i a s).ring with watch := true } } := by
  have hslot : (addToPortion i a s).slot i = (s.slot i).joined a := (addToPortion_slot i i a s).trans (if_pos rfl)
  rw [joinedState, evaluatePermissive_other (by rw [hslot]; exact hi)]

/-- The table of R101, case by case. -/
theorem permissive_table {n target trim stop quiet : Nat} {g : GradeId} {w : PortSet} {m : ResumeMode}
    (hi : (s.slot i).state = .current) (hform : (s.slot i).form = some (.normal n g target trim stop quiet w m)) :
    let remaining : Int := (target : Int) - (s.slot i).parcelNsv
    (s.ring.current = .opened → remaining ≤ stop → evaluatePermissive i s
        = { s with ring := { s.ring with current := .topped, level := .stop } }.postAll .parcelStage stageStop)
      ∧ (s.ring.current = .opened → s.ring.level = .full → (stop : Int) < remaining → remaining ≤ trim →
          evaluatePermissive i s = { s with ring := { s.ring with level := .trim } }.postAll .parcelStage stageTrim)
      ∧ (s.ring.current = .opened → s.ring.level = .full → (stop : Int) < remaining → (trim : Int) < remaining →
          evaluatePermissive i s = s)
      ∧ (s.ring.current = .opened → s.ring.level = .trim → (stop : Int) < remaining → evaluatePermissive i s = s)
      ∧ (s.ring.current = .topped → evaluatePermissive i s = s) := by
  intro remaining
  have heval := evaluatePermissive_normal hi hform
  refine ⟨fun hopen hstop => ?_, fun hopen hfull hstop htrim => ?_, fun hopen hfull hstop htrim => ?_, fun hopen hlevel hstop => ?_,
    fun htop => ?_⟩
  · rw [heval, if_pos hopen, if_pos hstop]
  · rw [heval, if_pos hopen, if_neg (not_le.mpr hstop), if_pos ⟨hfull, htrim⟩]
  · rw [heval, if_pos hopen, if_neg (not_le.mpr hstop), if_neg fun h => absurd h.2 (not_le.mpr htrim)]
  · rw [heval, if_pos hopen, if_neg (not_le.mpr hstop), if_neg fun h => by simp [hlevel] at h]
  · rw [heval, if_neg (by simp [htop])]

/-- The arrival to the CURRENT slot of an OPEN parcel, while a run is not quiet: the permissive alone follows. -/
theorem arrival_evaluates {n target trim stop quiet : Nat} {g : GradeId} {w : PortSet} {m : ResumeMode}
    (hs : s.RingSound) (hdest : a.destination = some i) (hi : (s.slot i).state = .current)
    (hform : (s.slot i).form = some (.normal n g target trim stop quiet w m))
    (hquiet : ∃ q, (s.calcOf q).runState = .online ∧ (s.calcOf q).quiet < quiet) :
    engineArrival a s = joinedState i a s := by
  have hslot : (joinedState i a s).slot i = (s.slot i).joined a := (joinedState_slot i i a s).trans (if_pos rfl)
  obtain ⟨q, hon, hq⟩ := hquiet
  have hcalc : (joinedState i a s).calcOf q = s.calcOf q := congrArg (fun c => c.get q) (joinedState_calcs i a s)
  rw [engineArrival_assigned hdest]
  refine advanceClosing_none (owedArrival_false fun c hc h => ?_) hdest
    (quietTest_false (q := q) (by rw [hslot]; exact hform) (by rw [hcalc]; exact hon) (by rw [hcalc]; exact hq))
  rw [joinedState_closing] at hc
  have hclosing := (hs.closing c.slot).mpr ⟨c, hc, rfl⟩
  rw [← Option.some.inj (hdest.symm.trans h), hi] at hclosing
  simp at hclosing

/-! ## The last delivery of a run that owes -/

theorem mem_portionList {ps : PerRun (Option Portion)} {x : Portion} (h : ps.get r = some x) : x ∈ portionList ps := by
  cases r <;> simp only [PerRun.get] at h <;> simp [portionList, h]

theorem portionAfter_run {o : Option Portion} (ho : ∀ x, o = some x → x.run = a.run) : (portionAfter a o).run = a.run := by
  cases o with
  | none => rfl
  | some x => exact ho x rfl

/-- What a portion that closes leaves of the ring, beside the closing itself. -/
theorem closePortion_ring (r : Run) (s : State) : (closePortion r s).ring.head = s.ring.head
    ∧ (closePortion r s).ring.current = s.ring.current ∧ (closePortion r s).ring.level = s.ring.level := by
  obtain ⟨hcur, hlevel⟩ := closePortion_current r s
  refine ⟨?_, hcur, hlevel⟩
  rw [closePortion_eq]
  have hleft : (leftState r s).ring.head = s.ring.head := by rw [leftState_eq]
  rcases writeIfNoneOwe_eq (leftState r s) with h | h
  · exact (congrArg (fun t : State => t.ring.head) h).trans hleft
  · exact ((congrArg (fun t : State => t.ring.head) h).trans (writeTicket_head _).1).trans hleft

theorem closePortion_calcs_eq (r : Run) (s : State) : (closePortion r s).calcs
    = s.calcs.set r { (applyPendingK r s).calcOf r with target := s.offeredTarget } := by
  rw [closePortion_eq, writeIfNoneOwe_calcs]
  show (leftState r s).calcs = _
  rw [leftState_eq]
  exact applyPendingK_set r (fun k => { k with target := s.offeredTarget }) s

/-- The arrival of a run that owes, to the closing slot. -/
theorem arrival_owed (hrun : a.run = r) (hc : s.ring.closing = some c) (howe : c.owing.get r = true)
    (hdest : a.destination = some c.slot) : engineArrival a s = closePortion r (joinedState c.slot a s) := by
  rw [engineArrival_assigned hdest, advanceClosing,
    owedArrival_true (c := c) ((joinedState_closing ..).trans hc) (by rw [hrun]; exact howe) hdest, hrun]
  rfl

end Watch

end Sys2Proof.Machine

/-! The quiet close (R116), and what an arrival at the Parcel Engine brings about. -/

namespace Sys2Proof.Machine

section Quiet

variable {s t u : State} {r : Run} {i j : SlotId} {a : Arrival} {c : Closing}

/-- The closing that a quiet run has left at once. -/
def quietState (i : SlotId) (r : Run) (s : State) : State := leftState r (beginClosing i .quiet s)

theorem quietState_closing (i : SlotId) (r : Run) (s : State) : (quietState i r s).ring.closing
    = some ⟨i, .quiet, s.terminalTime, (s.calcs.map fun k => owes k i).set r false⟩ :=
  leftState_closing r (beginClosing_owing .quiet)

theorem quietState_owing (i : SlotId) (r q : Run) (s : State) : ((s.calcs.map fun k => owes k i).set r false).get q = true
    ↔ q ≠ r ∧ (s.calcOf q).runState = .online ∧ (s.calcOf q).target = some i := by
  rw [owing_left, owing_iff]

theorem quietState_slot (i j : SlotId) (r : Run) (s : State) :
    (quietState i r s).slot j = if j = i then { s.slot i with state := .closing } else s.slot j :=
  (leftState_slot r _ j).trans (beginClosing_slot .quiet j)

theorem quietState_calcOf_ne {q : Run} (h : q ≠ r) : (quietState i r s).calcOf q = s.calcOf q :=
  (leftState_calcOf r q _).trans (if_neg h)

/-- The run that leaves has no target, and the pending K, if any, is its K. -/
theorem quietState_calcOf_self (i : SlotId) (r : Run) (s : State) : ((quietState i r s).calcOf r).target = none
    ∧ ((quietState i r s).calcOf r).pendingK = none
    ∧ ((quietState i r s).calcOf r).kmilli = (s.calcOf r).pendingK.getD (s.calcOf r).kmilli
    ∧ ((quietState i r s).calcOf r).runState = (s.calcOf r).runState := by
  have hself : (quietState i r s).calcOf r = _ := (leftState_calcOf r r _).trans (if_pos rfl)
  have hbegun : (beginClosing i .quiet s).calcOf r = s.calcOf r := rfl
  have hk := (applyPendingK_calcOf r r (beginClosing i .quiet s)).trans (if_pos rfl)
  rw [hself]
  refine ⟨rfl, applyPendingK_pendingK .., ?_, ((applyPendingK_alike r (beginClosing i .quiet s)).runs r).1⟩
  show ((applyPendingK r (beginClosing i .quiet s)).calcOf r).kmilli = _
  rw [hk, hbegun]
  cases (s.calcOf r).pendingK with
  | none => rfl
  | some k => rfl

/-- What stands when the quiet run has left, and the ticket is written where no other run owes. -/
theorem quietState_written (hu : u = quietState i r s ∨ u = writeTicket (quietState i r s)) :
    u.ring.head = s.ring.head ∧ u.ring.tail = s.ring.tail ∧ u.ring.current = .idle ∧ u.ring.resumePending = false
      ∧ (∀ j, j ≠ i → u.slot j = s.slot j) ∧ ((u.slot i).state = .closing ∨ (u.slot i).state = .complete)
      ∧ u.calcs = (quietState i r s).calcs ∧ u.terminalTime = s.terminalTime := by
  have hring : (quietState i r s).ring = _ := congrArg State.ring (leftState_eq r (beginClosing i .quiet s))
  have hclosing := quietState_closing i r s
  have hother (j : SlotId) (hj : j ≠ i) : (quietState i r s).slot j = s.slot j := (quietState_slot i j r s).trans (if_neg hj)
  have hself : ((quietState i r s).slot i).state = .closing := by rw [quietState_slot, if_pos rfl]
  have htime : (quietState i r s).terminalTime = s.terminalTime := by rw [quietState, leftState_eq]; rfl
  rcases hu with rfl | rfl
  · refine ⟨?_, ?_, ?_, ?_, hother, .inl hself, rfl, htime⟩ <;> rw [hring] <;> rfl
  · obtain ⟨hhead, hpending, -, htail⟩ := writeTicket_head (quietState i r s)
    obtain ⟨l, hl⟩ := writeTicket_some hclosing
    refine ⟨hhead.trans ?_, htail.trans ?_, (writeTicket_current _).1.trans ?_, hpending.trans ?_,
      fun j hj => ((writeTicket_slot hclosing j).trans (if_neg hj)).trans (hother j hj), .inr ?_, ?_, ?_⟩
    · rw [hring]; rfl
    · rw [hring]; rfl
    · rw [hring]; rfl
    · rw [hring]; rfl
    · rw [writeTicket_slot hclosing, if_pos rfl]
      rfl
    · rw [hl]
    · rw [hl]
      exact htime

theorem writeIfNoneOwe_closed (h : s.ring.closing = none) : writeIfNoneOwe s = s := by rw [writeIfNoneOwe, h]

/-- A quiet close: the quiet run has left, the ticket is written where no run owes, and the next slot is taken. -/
theorem startClosing_quiet_owed (howed : ∃ q, q ≠ r ∧ (s.calcOf q).runState = .online ∧ (s.calcOf q).target = some i) :
    startClosing i .quiet (some r) s = takeNext (quietState i r s) := by
  obtain ⟨q, hq⟩ := howed
  have hget := (quietState_owing i r q s).mpr hq
  have hclose : closePortion r (beginClosing i .quiet s) = quietState i r s := closePortion_stays (beginClosing_owing .quiet) hget
  unfold startClosing
  dsimp only
  rw [hclose, writeIfNoneOwe_owed (quietState_closing i r s) hget]

theorem startClosing_quiet_unowed (hno : ∀ q, ¬ (q ≠ r ∧ (s.calcOf q).runState = .online ∧ (s.calcOf q).target = some i)) :
    startClosing i .quiet (some r) s = takeNext (writeTicket (quietState i r s)) := by
  have hclose : closePortion r (beginClosing i .quiet s) = writeTicket (quietState i r s) :=
    closePortion_writes (beginClosing_owing .quiet) fun q => by
      rw [← Bool.not_eq_true, quietState_owing]
      exact hno q
  unfold startClosing
  dsimp only
  rw [hclose, writeIfNoneOwe_closed (writeTicket_closing _)]

theorem currentSlot_eq (h : s.RingSound) (hj : (s.slot j).state = .current) : s.currentSlot = some j := by
  cases hc : s.currentSlot with
  | none => exact absurd hc (currentSlot_ne_none fun h => h j hj)
  | some k => rw [h.oneCurrent k j (currentSlot_some hc) hj]

/-- The calculator of an ONLINE run without a target, after a take. -/
theorem takeNext_calcOf (hsound : (takeNext u).RingSound) (hon : (u.calcOf r).runState = .online)
    (hnone : (u.calcOf r).target = none) : ((takeNext u).calcOf r).pendingK = (u.calcOf r).pendingK
      ∧ ((takeNext u).calcOf r).kmilli = (u.calcOf r).kmilli
      ∧ ((takeNext u).calcOf r).target = if (takeNext u).ring.current = .opened then (takeNext u).currentSlot else none := by
  rcases takeLooks_outcome 9 u with ⟨j, hopen, hj, hcalc⟩ | ⟨hopen, hcalcs⟩
  · rw [show (takeNext u).calcOf r = _ from hcalc r, if_pos (show (takeNext u).ring.current = .opened from hopen),
      currentSlot_eq hsound hj]
    exact ⟨rfl, rfl, if_pos ⟨hon, hnone⟩⟩
  · have hcalc : (takeNext u).calcOf r = u.calcOf r := congrArg (fun c => c.get r) hcalcs
    rw [hcalc, if_neg (show ¬ (takeNext u).ring.current = .opened from hopen)]
    exact ⟨rfl, rfl, hnone⟩

/-- The arrival to a TOPPED parcel while every ONLINE run is quiet. -/
theorem arrival_quiet {n target trim stop quiet : Nat} {g : GradeId} {w : PortSet} {m : ResumeMode}
    (hrun : a.run = r) (hdest : a.destination = some i) (hi : (s.slot i).state = .current)
    (hform : (s.slot i).form = some (.normal n g target trim stop quiet w m)) (htop : s.ring.current = .topped)
    (hclosing : s.ring.closing = none) (hquiet : ∀ q, (s.calcOf q).runState = .online → quiet ≤ (s.calcOf q).quiet) :
    engineArrival a s = startClosing i .quiet (some r) (joinedState i a s) := by
  have hslot : (joinedState i a s).slot i = (s.slot i).joined a := (joinedState_slot i i a s).trans (if_pos rfl)
  have hcalc (q : Run) : (joinedState i a s).calcOf q = s.calcOf q := congrArg (fun c => c.get q) (joinedState_calcs i a s)
  have heval := joinedState_normal (a := a) hi hform
  rw [engineArrival_assigned hdest]
  refine (advanceClosing_quiet (owedArrival_false fun c hc => ?_) hdest
    (quietTest_true (by rw [hslot]; exact hi) (by rw [hslot]; exact hform) ?_ ((joinedState_closing ..).trans hclosing)
      fun q => by rw [hcalc]; exact hquiet q)).trans (by rw [hrun])
  · rw [joinedState_closing, hclosing] at hc
    exact absurd hc (Option.some_ne_none c).symm
  · show (evaluatePermissive i (addToPortion i a s)).ring.current = .topped
    rw [heval, if_neg (by simp [htop])]
    exact htop

end Quiet

section Watch

/-- The fields of the state in which the destination of an arrival to a TOPPED parcel is CURRENT. -/
theorem joinedState_ring (i : SlotId) (a : Arrival) (s : State) : (joinedState i a s).ring.head = s.ring.head
    ∧ (joinedState i a s).ring.tail = s.ring.tail ∧ (joinedState i a s).terminalTime = s.terminalTime := by
  obtain ⟨current, level, links, h⟩ := joinedState_touches i a s
  rw [h]
  exact ⟨rfl, rfl, rfl⟩

variable {s : State} {r : Run} {a : Arrival} {i : SlotId} {c : Closing}

/-- An arrival to the CURRENT slot of an OPEN parcel of kind NORMAL. -/
theorem arrival_permissive {n target trim stop quiet : Nat} {g : GradeId} {w : PortSet} {m : ResumeMode}
    (hsup : s.retention.supplied = true) (hs : s.RingSound) (ha : s.toEngine.get r = some a) (hdest : a.destination = some i)
    (hi : (s.slot i).state = .current) (hform : (s.slot i).form = some (.normal n g target trim stop quiet w m))
    (hopen : s.ring.current = .opened) (hquiet : ∃ q, (s.calcOf q).runState = .online ∧ (s.calcOf q).quiet < quiet) :
    let remaining : Int := (target : Int) - ((s.slot i).parcelNsv + a.nsvInc)
    ∃ t, exec (.incrementArrivalAtEngine r) s = .next t ∧ t.calcs = s.calcs ∧ t.ring.closing = s.ring.closing
      ∧ (remaining ≤ stop → t.ring.current = .topped ∧ t.ring.level = .stop
          ∧ t.links = (s.postAll .parcelStage stageStop).links)
      ∧ ((stop : Int) < remaining → t.ring.current = .opened)
      ∧ ((stop : Int) < remaining → s.ring.level = .full → remaining ≤ trim → t.ring.level = .trim
          ∧ t.links = (s.postAll .parcelStage stageTrim).links)
      ∧ ((stop : Int) < remaining → (s.ring.level = .trim ∨ (trim : Int) < remaining) →
          t.ring.level = s.ring.level ∧ t.links = s.links) := by
  intro remaining
  have hexec := exec_arrivalAtEngine hsup ha
  set v : State := { s with toEngine := s.toEngine.set r none } with hv
  have hsv : v.RingSound := hs.alike (.of_same rfl rfl)
  rw [arrival_evaluates (s := v) hsv hdest hi hform hquiet] at hexec
  have heval := joinedState_normal (s := v) (a := a) hi hform
  refine ⟨_, hexec, joinedState_calcs i a v, joinedState_closing i a v, fun hstop => ?_, fun hstop => ?_,
    fun hstop hfull htrim => ?_, fun hstop hlevel => ?_⟩
  · have hstep := heval.trans ((if_pos hopen).trans (if_pos hstop))
    show (evaluatePermissive i (addToPortion i a v)).ring.current = _ ∧ (evaluatePermissive i (addToPortion i a v)).ring.level = _
      ∧ (evaluatePermissive i (addToPortion i a v)).links = _
    rw [hstep]
    exact ⟨rfl, rfl, rfl⟩
  · have hstep := heval.trans ((if_pos hopen).trans (if_neg (not_le.mpr hstop)))
    show (evaluatePermissive i (addToPortion i a v)).ring.current = .opened
    rw [hstep]
    split
    · exact hopen
    · exact hopen
  · have hstep := heval.trans ((if_pos hopen).trans ((if_neg (not_le.mpr hstop)).trans (if_pos ⟨hfull, htrim⟩)))
    show (evaluatePermissive i (addToPortion i a v)).ring.level = _ ∧ (evaluatePermissive i (addToPortion i a v)).links = _
    rw [hstep]
    exact ⟨rfl, rfl⟩
  · have hnot : ¬ (v.ring.level = .full ∧ remaining ≤ trim) := fun h => hlevel.elim
      (fun hl => by simp [show s.ring.level = .full from h.1] at hl) fun hl => absurd h.2 (not_le.mpr hl)
    have hstep := heval.trans ((if_pos hopen).trans ((if_neg (not_le.mpr hstop)).trans (if_neg hnot)))
    show (evaluatePermissive i (addToPortion i a v)).ring.level = _ ∧ (evaluatePermissive i (addToPortion i a v)).links = _
    rw [hstep]
    exact ⟨rfl, rfl⟩

/-- An arrival of a run that owes the closing parcel. -/
theorem arrival_closes (hsup : s.retention.supplied = true) (hs : s.RingSound) (ha : s.toEngine.get r = some a) (hrun : a.run = r)
    (hc : s.ring.closing = some c) (howe : c.owing.get r = true) (hdest : a.destination = some c.slot) :
    let k := s.calcOf r
    let k' := match k.pendingK with
      | none => k
      | some x => { k with kmilli := x, rI := k.rI * x / k.kmilli, rR := k.rR * x / k.kmilli, pendingK := none }
    ∃ t, exec (.incrementArrivalAtEngine r) s = .next t
      ∧ t.calcs = s.calcs.set r { k' with
          target := if s.ring.current = .opened ∨ s.ring.current = .topped then s.currentSlot else none }
      ∧ t.ring.head = s.ring.head ∧ t.ring.current = s.ring.current ∧ t.ring.level = s.ring.level
      ∧ ((∃ q, q ≠ r ∧ c.owing.get q = true) → t.ring.closing = some { c with owing := c.owing.set r false }
          ∧ (t.slot c.slot).state = .closing ∧ t.links = s.links)
      ∧ ((∀ q, q ≠ r → c.owing.get q = false) → t.ring.closing = none ∧ (t.slot c.slot).state = .complete
          ∧ ∃ x, (t.slot c.slot).ticket = some x ∧ x.reason = c.reason ∧ x.closeTime = c.closeTime
            ∧ ∃ y ∈ x.portions, y.run = r) := by
  intro k k'
  have hexec := exec_arrivalAtEngine hsup ha
  set v : State := { s with toEngine := s.toEngine.set r none } with hv
  rw [arrival_owed (s := v) hrun hc howe hdest] at hexec
  have hstate : (v.slot c.slot).state = .closing := (hs.closing c.slot).mpr ⟨c, hc, rfl⟩
  have hother := joinedState_other (s := v) (i := c.slot) (a := a) (by simp [hstate])
  have hslot : (joinedState c.slot a v).slot c.slot = (v.slot c.slot).joined a := (joinedState_slot ..).trans (if_pos rfl)
  have hcJ : (joinedState c.slot a v).ring.closing = some c := (joinedState_closing ..).trans hc
  have hoffer : (joinedState c.slot a v).offeredTarget
      = if s.ring.current = .opened ∨ s.ring.current = .topped then s.currentSlot else none := by
    rw [offeredTarget_eq, joinedState_current]
    have hcur : (joinedState c.slot a v).ring.current = s.ring.current := by rw [hother]; rfl
    rw [hcur]
    rfl
  have hk : (applyPendingK r (joinedState c.slot a v)).calcOf r = k' := by
    rw [applyPendingK_calcOf, if_pos rfl,
      show (joinedState c.slot a v).calcOf r = k from congrArg (fun c => c.get r) (joinedState_calcs c.slot a v)]
    rfl
  obtain ⟨hhead, hcur, hlevel⟩ := closePortion_ring r (joinedState c.slot a v)
  refine ⟨_, hexec, ?_, hhead.trans ?_, hcur.trans ?_, hlevel.trans ?_, fun ⟨q, hq, howes⟩ => ?_, fun hlast => ?_⟩
  · rw [closePortion_calcs_eq, hoffer, hk, joinedState_calcs]
  · rw [hother]; rfl
  · rw [hother]; rfl
  · rw [hother]; rfl
  · rw [closePortion_stays hcJ (owing_left.mpr ⟨hq, howes⟩)]
    refine ⟨leftState_closing r hcJ, ?_, ?_⟩
    · rw [leftState_slot, hslot]
      exact hstate
    · rw [leftState_eq, hother]
      rfl
  · rw [closePortion_writes hcJ fun q => by
      rw [← Bool.not_eq_true, owing_left]
      exact fun h => by simp [hlast q h.1] at h]
    have hticket := (writeTicket_slot (leftState_closing r hcJ) c.slot).trans (if_pos rfl)
    refine ⟨writeTicket_closing _, ?_, ?_⟩
    · rw [hticket]
      rfl
    · rw [hticket]
      refine ⟨_, rfl, rfl, rfl, (portionAfter a ((v.slot c.slot).portions.get a.run)).entry, List.mem_map_of_mem ?_, ?_⟩
      · show _ ∈ portionList ((leftState r (joinedState c.slot a v)).slot c.slot).portions
        rw [leftState_slot, hslot]
        exact mem_portionList (r := a.run) (PerRun.get_set_self ..)
      · show (portionAfter a ((v.slot c.slot).portions.get a.run)).run = r
        exact (portionAfter_run fun x hx => hs.portions c.slot a.run x hx).trans hrun

/-- The arrival of an ONLINE run to its TOPPED target, while every ONLINE run is quiet: the closing starts, the delivering run
owes nothing, and the next slot is taken. -/
theorem arrival_quietCloses {n target trim stop quiet : Nat} {g : GradeId} {w : PortSet} {m : ResumeMode}
    (hsup : s.retention.supplied = true) (hs : s.RingSound) (ha : s.toEngine.get r = some a) (hrun : a.run = r)
    (hdest : a.destination = some i) (hi : (s.slot i).state = .current)
    (hform : (s.slot i).form = some (.normal n g target trim stop quiet w m)) (htop : s.ring.current = .topped)
    (hclosing : s.ring.closing = none) (hon : (s.calcOf r).runState = .online)
    (hquiet : ∀ q, (s.calcOf q).runState = .online → quiet ≤ (s.calcOf q).quiet) :
    let owes (q : Run) : Prop := q ≠ r ∧ (s.calcOf q).runState = .online ∧ (s.calcOf q).target = some i
    let k := s.calcOf r
    ∃ t, exec (.incrementArrivalAtEngine r) s = .next t ∧ t.ring.resumePending = false
      ∧ (t.calcOf r).pendingK = none ∧ (t.calcOf r).kmilli = k.pendingK.getD k.kmilli
      ∧ (t.calcOf r).target = (if t.ring.current = .opened then t.currentSlot else none)
      ∧ ((∃ q, owes q) → (t.slot i).state = .closing ∧ ∃ c, t.ring.closing = some c ∧ c.slot = i ∧ c.reason = .quiet
          ∧ c.closeTime = s.terminalTime ∧ ∀ q, c.owing.get q = true ↔ owes q)
      ∧ ((∀ q, ¬ owes q) → (t.slot i).state = .complete ∧ t.ring.closing = none
          ∧ ∃ x, (t.slot i).ticket = some x ∧ x.reason = .quiet ∧ x.closeTime = s.terminalTime)
      ∧ (∃ u, t = takeNext u ∧ u.ring.head = s.ring.head ∧ u.ring.tail = s.ring.tail ∧ u.ring.current = .idle
          ∧ u.slot i = t.slot i ∧ (∀ j, j ≠ i → u.slot j = s.slot j) ∧ u.ring.closing = t.ring.closing
          ∧ (u.calcOf r).target = none ∧ (∀ q, q ≠ r → u.calcOf q = s.calcOf q) ∧ u.terminalTime = s.terminalTime)
      ∧ (∀ f, (s.slot s.ring.head).state = .armed → (s.slot s.ring.head).form = some f →
          (t.slot s.ring.head).state = .current ∧ t.ring.head = s.ring.head + 1
            ∧ t.ring.current = (if formKind f = .hold then .held else .opened)
            ∧ t.ring.level = (if formKind f = .hold then .stop else .full)
            ∧ (formKind f ≠ .hold → (t.calcOf r).target = some s.ring.head)) := by
  intro owes k
  have hexec := exec_arrivalAtEngine hsup ha
  set v : State := { s with toEngine := s.toEngine.set r none } with hv
  have hsv : v.RingSound := hs.alike (.of_same rfl rfl)
  have hsound : (engineArrival a v).RingSound := engineArrival_sound hsv a
  have hstart := arrival_quiet (s := v) hrun hdest hi hform htop hclosing hquiet
  rw [hstart] at hexec hsound
  set J := joinedState i a v with hJ
  have hcalc (q : Run) : J.calcOf q = s.calcOf q := congrArg (fun c => c.get q) (joinedState_calcs i a v)
  have howes (q : Run) : owes q ↔ q ≠ r ∧ (J.calcOf q).runState = .online ∧ (J.calcOf q).target = some i := by rw [hcalc]
  obtain ⟨hheadJ, htailJ, htimeJ⟩ := joinedState_ring i a v
  obtain ⟨u, ht, hu⟩ : ∃ u, startClosing i .quiet (some r) J = takeNext u
      ∧ ((∃ q, owes q) ∧ u = quietState i r J ∨ (∀ q, ¬ owes q) ∧ u = writeTicket (quietState i r J)) := by
    by_cases h : ∃ q, owes q
    · exact ⟨_, startClosing_quiet_owed (h.imp fun q => (howes q).mp), .inl ⟨h, rfl⟩⟩
    · have hno := not_exists.mp h
      exact ⟨_, startClosing_quiet_unowed fun q hq => hno q ((howes q).mpr hq), .inr ⟨hno, rfl⟩⟩
  rw [ht] at hexec hsound
  obtain ⟨hhead, htail, hidle, hpending, hother, hself, hcalcs, htime⟩ :=
    quietState_written (hu.imp And.right And.right)
  have hslot : (takeNext u).slot i = u.slot i :=
    takeNext_slot (by rcases hself with h | h <;> simp [h]) (by rcases hself with h | h <;> simp [h])
  have hcalcu (q : Run) : u.calcOf q = (quietState i r J).calcOf q := congrArg (fun c => c.get q) hcalcs
  obtain ⟨hnone, hk, hkmilli, hrunState⟩ := quietState_calcOf_self i r J
  rw [← hcalcu, hcalc] at hkmilli hrunState
  rw [← hcalcu] at hnone hk
  have honu : (u.calcOf r).runState = .online := hrunState.trans hon
  have hotherJ (j : SlotId) (hj : j ≠ i) : u.slot j = s.slot j :=
    (hother j hj).trans ((joinedState_slot i j a v).trans (if_neg hj))
  obtain ⟨hpendingK, hkmilli', htarget⟩ := takeNext_calcOf hsound honu hnone
  have hclosingt : (takeNext u).ring.closing = u.ring.closing := (takeNext_ring u).2.2.2.2
  refine ⟨takeNext u, hexec, (takeNext_ring u).2.1.trans hpending, hpendingK.trans hk, hkmilli'.trans hkmilli, htarget,
    fun howed => ?_, fun hno => ?_, ⟨u, rfl, hhead.trans hheadJ, htail.trans htailJ, hidle, hslot.symm, hotherJ,
      hclosingt.symm, hnone, fun q hq => ?_, htime.trans htimeJ⟩, fun f harmed hform => ?_⟩
  · obtain ⟨-, rfl⟩ := hu.resolve_right fun h => howed.elim fun q => h.1 q
    refine ⟨?_, _, hclosingt.trans (quietState_closing i r J), rfl, rfl, htimeJ, fun q => ?_⟩
    · rw [hslot, quietState_slot, if_pos rfl]
    · exact (quietState_owing i r q J).trans (howes q).symm
  · obtain ⟨-, rfl⟩ := hu.resolve_left fun h => h.1.elim fun q => hno q
    have hticket := (writeTicket_slot (quietState_closing i r J) i).trans (if_pos rfl)
    refine ⟨?_, hclosingt.trans (writeTicket_closing _), ?_⟩
    · rw [hslot, hticket]
      rfl
    · rw [hslot, hticket]
      exact ⟨_, rfl, rfl, htimeJ⟩
  · rw [hcalcu, quietState_calcOf_ne hq, hcalc]
  · have hne : s.ring.head ≠ i := fun h => by rw [h, hi] at harmed; simp at harmed
    have hheadu : u.ring.head = s.ring.head := hhead.trans hheadJ
    have hhslot := hotherJ _ hne
    obtain ⟨h1, h2, h3, h4, h5⟩ := takeNext_armed (s := u) (f := f) (by rw [hheadu, hhslot]; exact harmed)
      (by rw [hheadu, hhslot]; exact hform)
    rw [hheadu] at h1 h2
    refine ⟨h1, h2, h3, h4, fun hkind => ?_⟩
    rw [htarget, h3, if_neg hkind, if_pos rfl, currentSlot_eq hsound h1]

/-- Settles O41: the watch alone without a destination; else the permissive, the portion that closes, or the quiet close. -/
theorem watchAndPermissive : Obligations.WatchAndPermissive := by
  refine ⟨fun r s hsup => ⟨fun hnone => ?_, fun a ha hdest => ?_⟩, fun i s n g target trim stop quiet w m hi hform =>
      permissive_table hi hform, fun r a i s n g target trim stop quiet w m hsup hs ha hdest hi hform hopen hquiet =>
      arrival_permissive hsup hs ha hdest hi hform hopen hquiet, fun r a c s hsup hs ha hrun hc howe hdest =>
      arrival_closes hsup hs ha hrun hc howe hdest,
    fun r a i s n g target trim stop quiet w m hsup hs ha hrun hdest hi hform htop hclosing hon _ hquiet =>
      arrival_quietCloses hsup hs ha hrun hdest hi hform htop hclosing hon hquiet⟩
  · show execIncrementArrivalAtEngine .. = _
    rw [execIncrementArrivalAtEngine, event_supplied hsup, takeAtEngine_of_none hnone]
  · intro t u
    rw [exec_arrivalAtEngine hsup ha, engineArrival_unassigned hdest]

end Watch

end Sys2Proof.Machine

/-! CLAIM, RELEASE and the hold timer's expiry (9.2 to 9.5). -/

namespace Sys2Proof.Machine

section Claims

variable {s t : State} {p q : Port} {u : UnitId} {hold : Nat}

/-! ## Writing claim records -/

theorem setClaim_setClaim (s : State) (u : UnitId) (c c' : Claim) : (s.setClaim u c).setClaim u c' = s.setClaim u c' :=
  congrArg (fun v => { s with claims := v }) (PerUnit.set_set ..)

/-- A renewal does not show in a record that is written afterwards. -/
theorem renewed_setClaim (p : Port) (u : UnitId) (c : Claim) (s : State) : (renewed p [u] s).setClaim u c = s.setClaim u c := by
  obtain ⟨t, ht⟩ := renew_eq p u s
  rw [renewed_cons, renewed_nil, ht, setClaim_setClaim]

theorem renewed_in_prove (h : s.inProve u = true) : renewed p [u] s = s := by
  rw [renewed_cons, renewed_nil, renew]
  simp [h]

theorem renewed_held (hheld : s.holds p u = true) (h : s.inProve u = false) :
    renewed p [u] s = s.setClaim u { s.claim u with timer := some (Config.seconds (s.claim u).holdTime) } := by
  rw [renewed_cons, renewed_nil, renew]
  simp [h, hheld]

/-! ## A handover (R157) -/

/-- The record after a handover, by its fields. -/
theorem handedOver_eq (c : Claim) : c.handedOver = { c with
    holder := c.waiting.head?, waiting := c.waiting.tail
    timer := c.waiting.head?.map fun _ => Config.seconds c.holdTime } := by
  cases h : c.waiting with
  | nil => simp [handedOver_nil h, h]
  | cons q rest => simp [handedOver_cons h]

/-- The notice of a handover goes to the head of the list. -/
def grantedTo (u : UnitId) (next : Option Port) (s : State) : State :=
  match next with
  | none => s
  | some q => s.post q .claimGranted (unitBit u)

theorem handover_granted (s : State) (u : UnitId) :
    handover s u = grantedTo u (s.claim u).waiting.head? (s.setClaim u (s.claim u).handedOver) := by
  obtain ⟨hw, h⟩ | ⟨q, rest, hw, h⟩ := handover_cases s u
  · simp [h, handedOver_nil hw, hw, grantedTo]
  · simp [h, handedOver_cons hw, hw, grantedTo]

theorem handover_claim (s : State) (u v : UnitId) :
    (handover s u).claim v = if v = u then (s.claim u).handedOver else s.claim v := by
  obtain ⟨l, h⟩ := handover_eq s u
  rw [h]
  split
  case isTrue hv =>
    subst hv
    exact setClaim_self ..
  case isFalse hv => exact setClaim_ne s hv _

/-- The timer of the unit does not matter to its handover. -/
theorem handover_renewed (p : Port) (u : UnitId) (s : State) : handover (renewed p [u] s) u = handover s u := by
  obtain ⟨hholder, hwaiting, hhold⟩ := renewed_claim p [u] u s
  have hover : ((renewed p [u] s).claim u).handedOver = (s.claim u).handedOver := by
    rw [handedOver_eq, handedOver_eq, hwaiting, hhold]
  rw [handover_granted, handover_granted, hover, hwaiting, renewed_setClaim]

theorem handover_inProve (s : State) (u v : UnitId) : (handover s u).inProve v = s.inProve v :=
  (SameProve.of_prove (handover_prove s u)).inProve v

/-! ## CLAIM (R153) -/

/-- The record of a unit that is granted to a port, or renewed for it. -/
def Claim.grantedFor (c : Claim) (p : Port) (hold : Nat) (inProve : Bool) : Claim :=
  { c with
    holder := some p
    holdTime := holdField hold c.holdTime
    timer := if inProve = true then c.timer else some (Config.seconds (holdField hold c.holdTime)) }

theorem grant_renewed (p : Port) (u : UnitId) (hold : Nat) (s : State) :
    grant p u hold (renewed p [u] s) = s.setClaim u ((s.claim u).grantedFor p hold (s.inProve u)) := by
  obtain ⟨hholder, hwaiting, hhold⟩ := renewed_claim p [u] u s
  have hgrant : grant p u hold (renewed p [u] s) = (renewed p [u] s).setClaim u
      (((renewed p [u] s).claim u).grantedFor p hold ((renewed p [u] s).inProve u)) := rfl
  rw [hgrant, renewed_setClaim, renewed_inProve]
  cases hin : s.inProve u with
  | true => rw [renewed_in_prove hin]
  | false =>
    congr 1
    simp only [Claim.grantedFor, hwaiting, hhold]
    rfl

theorem exec_claim_granted (hsup : s.retention.supplied = true) (hhold : hold ≤ 60)
    (hheld : (s.claim u).holder = none ∨ (s.claim u).holder = some p) :
    exec (.claim p (unitNumber u) hold) s = .next (answered p .ok 32
      (.claims [((s.claim u).grantedFor p hold (s.inProve u)).seen (s.inProve u)])
      (s.setClaim u ((s.claim u).grantedFor p hold (s.inProve u)))) := by
  show execClaim .. = _
  unfold execClaim
  refine unit_request hsup ?_
  rw [if_neg (by omega), if_pos (by rwa [(renewed_claim p [u] u s).1, renewed_holds, holds_iff]), grant_renewed]
  dsimp only
  rw [claimView_eq, setClaim_self, setClaim_inProve]

/-- The record with the port at the end of the list, unless it is on it. -/
def Claim.waitingFor (c : Claim) (p : Port) : Claim := { c with waiting := if p ∈ c.waiting then c.waiting else c.waiting ++ [p] }

theorem refusing_waitingFor {c : Claim} (hq : c.holder = some q) (hne : q ≠ p) : c.refusing p = c.waitingFor p := by
  unfold Claim.refusing Claim.waitingFor
  by_cases hp : p ∈ c.waiting
  · simp only [hp, or_true, if_true]
  · simp [hq, hp, hne]

theorem exec_claim_waits (hsup : s.retention.supplied = true) (hhold : hold ≤ 60) (hq : (s.claim u).holder = some q)
    (hne : q ≠ p) :
    exec (.claim p (unitNumber u) hold) s = .next (answered p .waiting 32
      (.waiting (((s.claim u).waitingFor p).waiting.idxOf p + 1) (((s.claim u).waitingFor p).seen (s.inProve u)))
      (s.setClaim u ((s.claim u).waitingFor p))) := by
  have hnot : s.holds p u = false := by simp [State.holds, hq, hne]
  show execClaim .. = _
  unfold execClaim
  refine unit_request hsup ?_
  rw [renewed_of_not_holder hnot, if_neg (by omega), if_neg (by simp [hq, hnot])]
  dsimp only
  rw [queuePort_refusing, refusing_waitingFor hq hne, claimView_eq, setClaim_self, setClaim_inProve]
  rfl

/-- An expiry does not happen where the timer is not at its last tick, or the unit is free. -/
theorem exec_holdExpiry_none (hsup : s.retention.supplied = true) (h : (s.claim u).holder = none ∨ (s.claim u).timer ≠ some 1) :
    exec (.holdTimerExpiry u) s = .next s := by
  show execHoldTimerExpiry .. = _
  rw [execHoldTimerExpiry, event_supplied hsup]
  obtain ⟨q, hq, htimer, -⟩ | ⟨-, hstands⟩ := loseClaim_cases u s
  · exact absurd htimer (h.resolve_left (by simp [hq]))
  · rw [hstands]

theorem exec_holdExpiry (hsup : s.retention.supplied = true) (hp : (s.claim u).holder = some p)
    (htimer : (s.claim u).timer = some 1) :
    exec (.holdTimerExpiry u) s = .next (handover (s.post p .claimLost (unitBit u)) u) := by
  show execHoldTimerExpiry .. = _
  rw [execHoldTimerExpiry, event_supplied hsup]
  obtain ⟨q, hq, -, hlost⟩ | ⟨hnot, -⟩ := loseClaim_cases u s
  · obtain rfl := Option.some.inj (hp.symm.trans hq)
    rw [hlost]
  · exact absurd htimer (hnot.resolve_left (by simp [hp]))

theorem seconds_timer_ne (n : Nat) : some (Config.seconds n) ≠ some 1 := fun h => seconds_ne_one n (Option.some.inj h)

/-- After a grant, a renewal or a handover no expiry of the same moment happens. -/
theorem handedOver_timer (c : Claim) : c.handedOver.holder = none ∨ c.handedOver.timer ≠ some 1 := by
  cases h : c.waiting with
  | nil => exact .inl (by rw [handedOver_nil h])
  | cons q rest => exact .inr (by rw [handedOver_cons h]; exact seconds_timer_ne _)

theorem answered_claim (st : Status) (kind : Nat) (b : Body) (s : State) (u : UnitId) :
    (answered p st kind b s).claim u = s.claim u := rfl

theorem answered_link (p : Port) (st : Status) (kind : Nat) (b : Body) (s : State) (q : Port) : (answered p st kind b s).link q
    = if q = p then { s.link p with response := some { status := st, kind := kind, body := b } } else s.link q := by
  split
  case isTrue h =>
    subst h
    exact setLink_self ..
  case isFalse h => exact setLink_ne s h _

theorem answered_notices (p : Port) (st : Status) (kind : Nat) (b : Body) (s : State) (q : Port) :
    ((answered p st kind b s).link q).notices = (s.link q).notices := by
  rw [answered_link]
  split
  case isTrue h => rw [h]
  case isFalse => rfl

/-! ## RELEASE (R156) -/

theorem exec_release (hsup : s.retention.supplied = true) (hheld : s.holds p u = true) : exec (.release p (unitNumber u)) s
    = .next (answered p .ok 33 (.claims [(abortIf (s.provingPort p && s.inProve u) .claim (handover s u)).claimView u])
        (abortIf (s.provingPort p && s.inProve u) .claim (handover s u))) := by
  have hport : (renewed p [u] s).provingPort p = s.provingPort p := by
    simp only [State.provingPort, State.proveRunning, renewed_prove]
  show execRelease .. = _
  unfold execRelease
  refine unit_request hsup ?_
  rw [renewed_holds, if_pos hheld, hport, renewed_inProve, handover_renewed]

theorem exec_release_notHolder (hsup : s.retention.supplied = true) (hheld : s.holds p u = false) :
    exec (.release p (unitNumber u)) s = .next (answered p .notHolder 33 (.claims [s.claimView u]) s) := by
  show execRelease .. = _
  unfold execRelease
  refine unit_request hsup ?_
  rw [renewed_of_not_holder hheld, if_neg (by simp [hheld])]

/-- The refusals of CLAIM and RELEASE. -/
theorem claims_refused (p : Port) (u : UnitId) (unit hold : Nat) (s : State) (hsup : s.retention.supplied = true) :
    (60 < hold → exec (.claim p (unitNumber u) hold) s = .next (answered p .range 32 .empty (renewed p [u] s)))
      ∧ (unitOf unit = none → exec (.claim p unit hold) s = .next (answered p .range 32 .empty s)
          ∧ exec (.release p unit) s = .next (answered p .range 33 .empty s))
      ∧ ((s.claim u).holder ≠ some p → exec (.release p (unitNumber u)) s
          = .next (answered p .notHolder 33 (.claims [(s.claim u).seen (s.inProve u)]) s)) := by
  refine ⟨fun hhold => ?_, fun hunit => ?_, fun hheld => ?_⟩
  · show execClaim .. = _
    unfold execClaim
    exact unit_request hsup (if_pos hhold)
  · have hnamed : renewed p (namedUnits unit) s = s := by rw [namedUnits, hunit]; rfl
    refine ⟨?_, ?_⟩
    · refine (show execClaim p unit hold s = _ from unit_request_range hsup hunit).trans ?_
      rw [hnamed]
    · refine (show execRelease p unit s = _ from unit_request_range hsup hunit).trans ?_
      rw [hnamed]
  · exact exec_release_notHolder hsup (by simpa [State.holds] using hheld)

theorem grantedTo_retention (u : UnitId) (next : Option Port) (s : State) : (grantedTo u next s).retention = s.retention := by
  cases next <;> rfl

/-- A unit that is in no prove is given up, or lost. -/
theorem unit_handed_over (hsup : s.retention.supplied = true) (hp : (s.claim u).holder = some p) (hin : s.inProve u = false) :
    exec (.release p (unitNumber u)) s = .next (answered p .ok 33 (.claims [(s.claim u).handedOver.seen false]) (handover s u))
      ∧ exec (.holdTimerExpiry u) (answered p .ok 33 (.claims [(s.claim u).handedOver.seen false]) (handover s u))
        = .next (answered p .ok 33 (.claims [(s.claim u).handedOver.seen false]) (handover s u))
      ∧ exec (.holdTimerExpiry u) (renewed p [u] s) = .next (renewed p [u] s)
      ∧ ((s.claim u).timer = some 1 → exec (.holdTimerExpiry u) s = .next (handover (s.post p .claimLost (unitBit u)) u))
      ∧ ((s.claim u).timer ≠ some 1 → exec (.holdTimerExpiry u) s = .next s) := by
  have hheld : s.holds p u = true := (holds_iff p u s).mpr hp
  have hclaim : (handover s u).claim u = (s.claim u).handedOver := (handover_claim s u u).trans (if_pos rfl)
  refine ⟨?_, exec_holdExpiry_none ?_ ?_, exec_holdExpiry_none ?_ (.inr ?_), fun htimer => exec_holdExpiry hsup hp htimer,
    fun htimer => exec_holdExpiry_none hsup (.inr htimer)⟩
  · rw [exec_release hsup hheld, hin, Bool.and_false]
    show Host.Outcome.next (answered p .ok 33 (.claims [(handover s u).claimView u]) (handover s u)) = _
    rw [claimView_eq, hclaim, handover_inProve, hin]
  · show (handover s u).retention.supplied = true
    rw [handover_granted, grantedTo_retention]
    exact hsup
  · rw [answered_claim, hclaim]
    exact handedOver_timer _
  · rw [renewed_retention]
    exact hsup
  · rw [renewed_held hheld hin, setClaim_self]
    exact seconds_timer_ne _

/-- Settles O48: each request writes the record of its unit; a unit in a prove ends it when its proving port gives it up. -/
theorem claimsAreMadeAndHandedOver : Obligations.ClaimsAreMadeAndHandedOver := by
  refine ⟨fun p u hold s hsup hhold => ⟨fun hheld => exec_claim_granted hsup hhold hheld, fun hin => ?_,
      fun q hq hne => exec_claim_waits hsup hhold hq hne⟩, claims_refused, fun p u s hsup hp hin => ?_,
    fun p u x s hsup hp hrun hsetup hport hu => ?_⟩
  · refine exec_holdExpiry_none hsup (.inr ?_)
    rw [answered_claim, setClaim_self]
    show (if s.inProve u = true then (s.claim u).timer else some (Config.seconds _)) ≠ some 1
    rw [hin, if_neg Bool.false_ne_true]
    exact seconds_timer_ne _
  · intro c c' grant t
    have hc' : c' = (s.claim u).handedOver := rfl
    have hgrant (y : State) (hy : y.claim u = s.claim u) : grant y = handover y u := by
      rw [handover_granted, hy]
      show grant y = grantedTo u c.waiting.head? (y.setClaim u c')
      cases h : c.waiting with
      | nil => simp only [grant, h, grantedTo, List.head?_nil]
      | cons q rest => simp only [grant, h, grantedTo, List.head?_cons]
    have ht : t = answered p .ok 33 (.claims [(s.claim u).handedOver.seen false]) (handover s u) := by
      show answered p .ok 33 (.claims [c'.seen false]) (grant s) = _
      rw [hc', hgrant s rfl]
    rw [ht, hgrant _ (post_claim ..)]
    exact unit_handed_over hsup hp hin
  · have hrunning : s.proveRunning = true := decide_eq_true hrun
    have hin : s.inProve u = true := by
      rcases hu with rfl | rfl
      · exact inProve_run_iff.mpr ⟨hrunning, by simp [State.provedRun, hsetup]⟩
      · exact hrunning
    have hproving : s.provingPort p = true := by simp [State.provingPort, hrunning, hsetup, hport]
    have hexec := exec_release hsup ((holds_iff p u s).mpr hp)
    rw [hproving, hin] at hexec
    have hsetup' : (handover s u).prove.result.setup = some x := by rw [handover_prove, hsetup]
    obtain ⟨hengine, -, -, hstate, hreason, hend⟩ := endProve_endedProve .aborted (some .claim) (handover s u)
    have hframe : Frame [.prove, .claims, .links] s (endProve .aborted (some .claim) (handover s u)) :=
      ((handover_frame s u).mono (by decide)).trans (ProveChange.frame (endProve_touches ..))
    have hended : (endProve .aborted (some .claim) (handover s u)).inProve u = false :=
      not_inProve_of_not_running (endProve_proveRunning _ (by decide) _ _) u
    have hself : (endProve .aborted (some .claim) (handover s u)).claim u = (s.claim u).handedOver := by
      rw [endProve_claim hsetup' hu, handover_claim, if_pos rfl]
      cases h : (s.claim u).waiting with
      | nil => rw [handedOver_nil h]; rfl
      | cons q rest => rw [handedOver_cons h]; rfl
    refine ⟨_, hexec, hengine, hstate, hreason, ?_, ?_, fun v hv hin => ?_, ?_, fun q => ?_, fun q hq => ?_,
      hframe.same .calcs (by decide), hframe.same .checkers (by decide), hframe.same .ring (by decide)⟩
    · exact hend.trans (congrArg some ((handover_frame s u).same .terminalTime (by decide)))
    · exact hself.trans (handedOver_eq _)
    · refine (endProve_claim hsetup' hin .aborted (some .claim)).trans ?_
      rw [handover_claim, if_neg hv]
    · rw [answered_link, if_pos rfl]
      show some (Response.mk .ok 33 (.claims [State.claimView _ u])) = _
      rw [claimView_eq]
      refine congrArg (fun b => some (Response.mk .ok 33 (.claims [Claim.seen _ b]))) hended
    · rw [answered_notices]
      exact endProve_notice ..
    · rw [answered_notices]
      have hgranted : ((handover s u).link q).notices.claimGranted.pending = true := by
        rw [handover_granted, hq]
        exact (congrArg (fun l : Link => l.notices.claimGranted.pending) (post_link ..)).trans
          (by rw [if_pos rfl]; exact congrArg Notice.pending (NoticeSet.post_get _ (k := .claimGranted) _ .claimGranted))
      exact (pending_posted [.proveEnd] q .claimGranted).endProve _ _ _ hgranted

end Claims

end Sys2Proof.Machine

/-! STATION CLEAR (9.6, 10.5). -/

namespace Sys2Proof.Machine

section StationClear

variable {s t : State} {p q : Port} {u v : UnitId} {i : SlotId}

/-! ## The units a port holds are handed over (R160) -/

theorem units_nodup : units.Nodup := by decide

theorem mem_units (u : UnitId) : u ∈ units := by
  rcases u with r | _
  · cases r <;> decide
  · decide

/-- One unit of the walk over the units a port holds. -/
def handOverUnit (p : Port) (s : State) (u : UnitId) : State := if s.holds p u then handover s u else s

theorem handOverUnit_claim (p : Port) (s : State) (u v : UnitId) : (handOverUnit p s u).claim v =
    if v = u ∧ (s.claim u).holder = some p then (s.claim u).handedOver else s.claim v := by
  unfold handOverUnit
  split
  case isTrue h =>
    rw [handover_claim]
    simp [(holds_iff p u s).mp h]
  case isFalse h =>
    rw [if_neg fun hv => h ((holds_iff p u s).mpr hv.2)]

theorem handOverUnits_claim (p : Port) (l : List UnitId) (hl : l.Nodup) (s : State) (u : UnitId) :
    (l.foldl (handOverUnit p) s).claim u =
      if u ∈ l ∧ (s.claim u).holder = some p then (s.claim u).handedOver else s.claim u := by
  induction l generalizing s with
  | nil => simp
  | cons v l ih =>
    obtain ⟨hv, hl⟩ := List.nodup_cons.mp hl
    rw [List.foldl_cons, ih hl, handOverUnit_claim]
    by_cases huv : u = v
    · subst huv
      simp [hv]
    · simp [huv]

theorem handOverHeld_claim (p : Port) (s : State) (u : UnitId) : (handOverHeld p s).claim u =
    if (s.claim u).holder = some p then (s.claim u).handedOver else s.claim u := by
  have h := handOverUnits_claim p units units_nodup s u
  simp only [mem_units, true_and] at h
  exact h

/-- The head of a held unit's list is told, and what later postings keep stands at the end. -/
theorem handOverUnits_reach {P : State → Prop} (hkeep : PostKept [.claimGranted] P)
    (hreach : ∀ s, (s.claim u).holder = some p → (s.claim u).waiting.head? = some q → P (handover s u)) (l : List UnitId) (s : State)
    (hu : u ∈ l) (hp : (s.claim u).holder = some p) (hq : (s.claim u).waiting.head? = some q) : P (l.foldl (handOverUnit p) s) := by
  have hstep (s : State) (v : UnitId) (hs : P s) : P (handOverUnit p s v) := by
    unfold handOverUnit
    split
    · exact hkeep.handover v s hs
    · exact hs
  induction l generalizing s with
  | nil => simp at hu
  | cons v l ih =>
    rw [List.foldl_cons]
    by_cases huv : v = u
    · subst huv
      refine units_foldl_keeps (P := P) hstep l ?_
      rw [handOverUnit, if_pos ((holds_iff p v s).mpr hp)]
      exact hreach s hp hq
    · have hclaim : (handOverUnit p s v).claim u = s.claim u := by
        rw [handOverUnit_claim, if_neg fun h => huv h.1.symm]
      exact ih _ ((List.mem_cons.mp hu).resolve_left (Ne.symm huv)) (hclaim ▸ hp) (hclaim ▸ hq)

theorem handover_link_ne (hq : (s.claim u).waiting.head? ≠ some q) : (handover s u).link q = s.link q := by
  rw [handover_granted]
  cases h : (s.claim u).waiting.head? with
  | none => rfl
  | some q' =>
    refine (post_link _ q' q _ _).trans (if_neg fun hqq => hq ?_)
    rw [h, hqq]

/-- A port at the head of no list of a held unit is told nothing. -/
theorem handOverUnits_link (l : List UnitId) (hl : l.Nodup) (s : State)
    (hq : ∀ u ∈ l, (s.claim u).holder = some p → (s.claim u).waiting.head? ≠ some q) :
    (l.foldl (handOverUnit p) s).link q = s.link q := by
  induction l generalizing s with
  | nil => rfl
  | cons v l ih =>
    obtain ⟨hv, hl⟩ := List.nodup_cons.mp hl
    have hstep : (handOverUnit p s v).link q = s.link q := by
      unfold handOverUnit
      split
      case isTrue h => exact handover_link_ne (hq v (by simp) ((holds_iff p v s).mp h))
      case isFalse => rfl
    have hclaim (u : UnitId) (hu : u ∈ l) : (handOverUnit p s v).claim u = s.claim u := by
      rw [handOverUnit_claim]
      exact if_neg fun h : u = v ∧ _ => hv (h.1 ▸ hu)
    rw [List.foldl_cons, ih hl _ fun u hu => (hclaim u hu).symm ▸ hq u (List.mem_cons_of_mem v hu), hstep]

/-! ## The common end, in the units that are in no prove -/

theorem endProve_claim_other {x : ProveSetup} (hsetup : s.prove.result.setup = some x) (hrun : v ≠ .run x.run)
    (hprover : v ≠ .prover)
    (st : ProveState) (reason : Option ProveReason) : (endProve st reason s).claim v = s.claim v := by
  have hclaim : (endProve st reason s).claim v = (restartProveHolds { s with prove := endedProve st reason s }).claim v := by
    rw [endProve_eq]
    rfl
  have hproved : State.provedRun { s with prove := endedProve st reason s } = some x.run := by simp [State.provedRun, endedProve, hsetup]
  rw [hclaim, restartProveHolds, hproved]
  simp [restartHold_claim, hrun, hprover]
  rfl

/-! ## What the port loses -/

/-- A unit that the port holds, after the walk and with the port off its list. -/
theorem clearClaims_claim (hs : s.ClaimsSound) (p : Port) (u : UnitId) : (clearClaims p s).claim u =
    if (s.claim u).holder = some p then (s.claim u).handedOver
    else { s.claim u with waiting := (s.claim u).waiting.filter (fun q => decide (q ≠ p)) } := by
  rw [clearClaims_eq, leaveLists_claim, handOverHeld_claim]
  by_cases hp : (s.claim u).holder = some p
  · have hmem : p ∉ (s.claim u).waiting.tail := fun h => ((hs.claims u).held p hp).2.1 (List.mem_of_mem_tail h)
    have hfilter : (s.claim u).handedOver.waiting.filter (fun q => decide (q ≠ p)) = (s.claim u).handedOver.waiting := by
      rw [handedOver_eq, List.filter_eq_self]
      intro q hq
      exact decide_eq_true fun h => hmem (h ▸ hq)
    rw [if_pos hp, if_pos hp, hfilter]
  · rw [if_neg hp, if_neg hp]

theorem provingPort_setup (hs : s.ClaimsSound) (hp : s.provingPort p = true) : ∃ x, s.prove.result.setup = some x ∧ x.port = p
    ∧ (s.claim (.run x.run)).holder = some p ∧ (s.claim .prover).holder = some p := by
  simp only [State.provingPort, Bool.and_eq_true, decide_eq_true_eq] at hp
  obtain ⟨x, hsetup, hrun, hprover, -⟩ := hs.proving hp.1
  obtain rfl : x.port = p := by simpa [hsetup] using hp.2
  exact ⟨x, hsetup, rfl, hrun, hprover⟩

/-- A record whose timer has just started is not changed by the end of the prove. -/
theorem handedOver_restarts (c : Claim) : ({ c.handedOver with
    timer := if c.handedOver.holder = none then c.handedOver.timer else some (c.handedOver.holdTime * 10000000) } : Claim)
      = c.handedOver := by
  cases h : c.waiting with
  | nil => rw [handedOver_nil h]; rfl
  | cons q rest => rw [handedOver_cons h]; rfl

/-- The state with the claims cleared and the prove of the port ended. -/
def disownedState (p : Port) (s : State) : State := abortIf (s.provingPort p) .claim (clearClaims p s)

theorem disownedState_claim (hs : s.ClaimsSound) (p : Port) (u : UnitId) : (disownedState p s).claim u =
    if (s.claim u).holder = some p then (s.claim u).handedOver
    else { s.claim u with waiting := (s.claim u).waiting.filter (fun q => decide (q ≠ p)) } := by
  rw [← clearClaims_claim hs]
  unfold disownedState abortIf
  split
  case isFalse => rfl
  case isTrue hp =>
    obtain ⟨x, hsetup, -, hrun, hprover⟩ := provingPort_setup hs hp
    rw [← clearClaims_prove p s] at hsetup
    by_cases hu : u = .run x.run ∨ u = .prover
    · have hheld : (s.claim u).holder = some p := by rcases hu with rfl | rfl <;> assumption
      rw [endProve_claim hsetup hu, clearClaims_claim hs, if_pos hheld]
      exact handedOver_restarts _
    · rw [not_or] at hu
      exact endProve_claim_other hsetup hu.1 hu.2 _ _

theorem disownedState_frame (p : Port) (s : State) : Frame [.prove, .claims, .links] s (disownedState p s) :=
  ((clearClaims_frame p s).mono (by decide)).trans (abortIf_frame ..)

/-- The port that gives a unit up neither holds it nor waits for it. -/
theorem handedOver_without {c : Claim} {b : Bool} (hc : c.Sound b) (hp : c.holder = some p) :
    c.handedOver.holder ≠ some p ∧ p ∉ c.handedOver.waiting ∧ c.handedOver.holdTime = c.holdTime := by
  obtain ⟨-, hmem, -⟩ := hc.held p hp
  cases h : c.waiting with
  | nil => simp [handedOver_nil h, h]
  | cons q rest =>
    rw [h] at hmem
    rw [handedOver_cons h]
    exact ⟨fun hq => hmem (by simp [Option.some.inj hq]), fun hm => hmem (List.mem_cons_of_mem q hm), rfl⟩

theorem voidSlots_frame (p : Port) (s : State) : Frame [.ring, .calcs, .links] s (voidSlots p s) :=
  ring_calcs_frame s (voidSlots_touches p s)

/-! ## Its slots become VOID -/

/-- The slots of the port that await their take are VOID. -/
def voidedState (p : Port) (s : State) : State :=
  { s with ring := { s.ring with slots := s.ring.slots.map (fun x => if awaits p x then { x with state := .void } else x) } }

theorem voidedState_slot (p : Port) (s : State) (i : SlotId) :
    (voidedState p s).slot i = if awaits p (s.slot i) then { s.slot i with state := .void } else s.slot i := Eight.get_map ..

theorem voidSlots_cases (p : Port) (s : State) : voidSlots p s = takeNext (voidedState p s) ∨ voidSlots p s = voidedState p s := by
  unfold voidSlots
  dsimp only
  split
  · exact .inl rfl
  · exact .inr rfl

theorem awaits_iff (p : Port) (x : RingSlot) : awaits p x = true ↔ x.reserver = some p ∧ (x.state = .reserved ∨ x.state = .armed) := by
  simp [awaits]

theorem voidedState_awaits (p : Port) (s : State) (i : SlotId) : awaits p ((voidedState p s).slot i) = false := by
  rw [voidedState_slot]
  split
  case isTrue => simp [awaits]
  case isFalse h => simpa using h

/-- A take leaves a slot as it is, or frees it, or makes it CURRENT. -/
theorem takeLooks_slot_cases (n : Nat) (s : State) (i : SlotId) : (takeLooks n s).slot i = s.slot i
    ∨ ((takeLooks n s).slot i).state = .free ∨ ((takeLooks n s).slot i).state = .current := by
  induction n generalizing s with
  | zero => exact .inl rfl
  | succ n ih =>
    by_cases hv : (s.slot s.ring.head).state = .void
    · rw [takeLooks_void hv]
      rcases ih (passVoid s) with h | h
      · by_cases hi : i = s.ring.head
        · have hfree := (passVoid_slot (s := s) i).trans (if_pos hi)
          exact .inr (.inl (by rw [h, hfree]; rfl))
        · exact .inl (h.trans ((passVoid_slot i).trans (if_neg hi)))
      · exact .inr h
    · by_cases ha : (s.slot s.ring.head).state = .armed
      · have hopen (c : CurrentState) (l : Permissive) : (openHead c l s).slot i = s.slot i
            ∨ ((openHead c l s).slot i).state = .free ∨ ((openHead c l s).slot i).state = .current := by
          rw [openHead_slot]
          split
          · exact .inr (.inr rfl)
          · exact .inl rfl
        cases hform : (s.slot s.ring.head).form with
        | none => rw [takeLooks_formless ha hform]; exact .inl rfl
        | some f =>
          by_cases hkind : formKind f = .hold
          · rw [takeLooks_hold ha hform hkind]
            exact hopen _ _
          · rw [takeLooks_parcel ha hform hkind]
            exact hopen _ _
      · rw [takeLooks_idle hv ha]
        exact .inl rfl

theorem voidSlots_awaits (p : Port) (s : State) (i : SlotId) : awaits p ((voidSlots p s).slot i) = false := by
  have hvoid := voidedState_awaits p s i
  rcases voidSlots_cases p s with h | h
  · rw [h]
    rcases takeLooks_slot_cases 9 (voidedState p s) i with hi | hi | hi
    · exact (congrArg (awaits p) hi).trans hvoid
    · simp [awaits, show ((takeNext (voidedState p s)).slot i).state = _ from hi]
    · simp [awaits, show ((takeNext (voidedState p s)).slot i).state = _ from hi]
  · rw [h]
    exact hvoid

/-- What is CURRENT, CLOSING or COMPLETE is not touched. -/
theorem voidSlots_slot (hi : (s.slot i).state = .current ∨ (s.slot i).state = .closing ∨ (s.slot i).state = .complete) :
    (voidSlots p s).slot i = s.slot i := by
  have hvoid : (voidedState p s).slot i = s.slot i := by
    rw [voidedState_slot, if_neg]
    rw [awaits_iff]
    rcases hi with hi | hi | hi <;> simp [hi]
  rcases voidSlots_cases p s with h | h
  · rw [h, takeNext_slot, hvoid] <;> rw [hvoid] <;> rcases hi with hi | hi | hi <;> simp [hi]
  · rw [h, hvoid]

/-- Of a calculator only a target that was none may be set. -/
theorem voidSlots_calcOf (p : Port) (s : State) (r : Run) :
    (voidSlots p s).calcOf r = { s.calcOf r with target := ((voidSlots p s).calcOf r).target }
      ∧ ((s.calcOf r).target ≠ none → ((voidSlots p s).calcOf r).target = (s.calcOf r).target) := by
  have hsame (h : (voidSlots p s).calcOf r = s.calcOf r) :
      (voidSlots p s).calcOf r = { s.calcOf r with target := ((voidSlots p s).calcOf r).target }
        ∧ ((s.calcOf r).target ≠ none → ((voidSlots p s).calcOf r).target = (s.calcOf r).target) := by
    rw [h]
    exact ⟨rfl, fun _ => rfl⟩
  rcases voidSlots_cases p s with h | h
  · rcases takeLooks_outcome 9 (voidedState p s) with ⟨j, -, -, hcalc⟩ | ⟨-, hcalcs⟩
    · rw [h, show (takeNext (voidedState p s)).calcOf r = _ from hcalc r]
      exact ⟨rfl, fun hne => if_neg fun ht => hne ht.2⟩
    · refine hsame ?_
      rw [h]
      exact congrArg (fun c => c.get r) hcalcs
  · exact hsame (by rw [h]; rfl)

/-! ## The links -/

theorem clearStation_eq (p : Port) (s : State) : clearStation p s = resetLink p (voidSlots p (disownedState p s)) := rfl

/-- What the postings of a STATION CLEAR keep stands until the port's own link is reset. -/
theorem postKept_disowned {P : State → Prop} (h : PostKept [.claimGranted, .proveEnd, .parcelStage] P) (p : Port) (hs : P s) :
    P (voidSlots p (disownedState p s)) :=
  (h.sub (by simp)).voidSlots p _ ((h.sub (by simp)).abortIf _ _ _ ((h.sub (by simp)).clearClaims p s hs))

/-- Postings change the notices of a link alone. -/
theorem mode_posted (ks : List NoticeKind) (q : Port) (l : Link) :
    PostKept ks (fun s => (s.link q).width = l.width ∧ (s.link q).mask = l.mask ∧ (s.link q).response = l.response
      ∧ (s.link q).readout = l.readout) where
  same h hlinks := by rwa [State.link, hlinks]
  post {s} p k x _ h := by
    rw [post_link]
    split
    case isTrue hq =>
      subst hq
      exact h
    case isFalse => exact h

/-- A kind that is not posted keeps its notice. -/
theorem notice_posted {ks : List NoticeKind} {k : NoticeKind} (hk : k ∉ ks) (q : Port) (x : Notice) :
    PostKept ks (fun s => (s.link q).notices.get k = x) where
  same h hlinks := by rwa [State.link, hlinks]
  post {s} p j y hj h := by
    rw [post_link]
    split
    case isTrue hq =>
      subst hq
      rw [NoticeSet.post_get]
      exact (if_neg fun hkj : k = j => hk (hkj ▸ hj)).trans h
    case isFalse => exact h

/-- A kind stays pending, and the qualifiers it has. -/
theorem qualified_posted (ks : List NoticeKind) (q : Port) (k : NoticeKind) (x : BitVec 8) : PostKept ks
    (fun s => ((s.link q).notices.get k).pending = true ∧ ((s.link q).notices.get k).quals &&& x = x) where
  same h hlinks := by rwa [State.link, hlinks]
  post {s} p j y _ h := by
    rw [post_link]
    split
    case isTrue hq =>
      subst hq
      rw [NoticeSet.post_get]
      split
      case isTrue hkj =>
        subst hkj
        refine ⟨rfl, ?_⟩
        show (((s.link q).notices.get k).quals ||| y) &&& x = x
        have hx := h.2
        ext i hi
        have hxi := congrArg (fun v => v[i]) hx
        simp only [BitVec.getElem_and, BitVec.getElem_or] at hxi ⊢
        cases hxb : x[i] <;> simp_all
      case isFalse => exact h
    case isFalse => exact h

theorem resetLink_link (p q : Port) (s : State) : (resetLink p s).link q =
    if q = p then { s.link p with width := .wide, mask := 0x3FF, notices := {} } else s.link q := by
  split
  case isTrue h =>
    subst h
    exact setLink_self ..
  case isFalse h => exact setLink_ne s h _

/-- The head of a held unit's list has CLAIM_GRANTED pending, with the unit in its qualifiers. -/
theorem clearClaims_granted (hp : (s.claim u).holder = some p) (hq : (s.claim u).waiting.head? = some q) :
    (((clearClaims p s).link q).notices.get .claimGranted).pending = true
      ∧ (((clearClaims p s).link q).notices.get .claimGranted).quals &&& unitBit u = unitBit u := by
  refine handOverUnits_reach (qualified_posted [.claimGranted] q .claimGranted (unitBit u)) (fun t hpt hqt => ?_) units s
    (mem_units u) hp hq
  rw [handover_granted, hqt]
  show (((State.post _ q .claimGranted (unitBit u)).link q).notices.get .claimGranted).pending = true
    ∧ (((State.post _ q .claimGranted (unitBit u)).link q).notices.get .claimGranted).quals &&& unitBit u = unitBit u
  rw [post_link, if_pos rfl, NoticeSet.post_get, if_pos rfl]
  refine ⟨rfl, ?_⟩
  ext i hi
  simp only [BitVec.getElem_and, BitVec.getElem_or]
  cases (unitBit u)[i] <;> simp

theorem clearClaims_ungranted (hq : ∀ u, (s.claim u).holder = some p → (s.claim u).waiting.head? ≠ some q) :
    (clearClaims p s).link q = s.link q :=
  handOverUnits_link units units_nodup s fun u _ => hq u

theorem exec_stationClear (hsup : s.retention.supplied = true) :
    exec (.stationClear p 0) s = .next (answered p .ok 37 .empty (clearStation p s)) := by
  show execStationClear .. = _
  unfold execStationClear
  exact plain_request hsup rfl

theorem clearStation_link_ne (hq : q ≠ p) : (clearStation p s).link q = (voidSlots p (disownedState p s)).link q := by
  rw [clearStation_eq, resetLink_link, if_neg hq]

/-- Settles O50: the units are handed over and the lists left, the slots that await are VOID, and the link is reset. -/
theorem stationIsCleared : Obligations.StationIsCleared := by
  refine ⟨fun p s hsup hs => ⟨_, exec_stationClear hsup, ?_⟩, fun p unit s hsup hunit => ?_⟩
  · set w := voidSlots p (disownedState p s) with hw
    have hframe : Frame [.ring, .calcs, .claims, .links, .prove] s (answered p .ok 37 .empty (clearStation p s)) :=
      (clearStation_frame p s).andThen (setLink_frame ..) (by decide)
    have hring : (disownedState p s).ring = s.ring := (disownedState_frame p s).same .ring (by decide)
    have hcalcs : (disownedState p s).calcs = s.calcs := (disownedState_frame p s).same .calcs (by decide)
    have hclaim (u : UnitId) : (answered p .ok 37 .empty (clearStation p s)).claim u
        = if (s.claim u).holder = some p then (s.claim u).handedOver
          else { s.claim u with waiting := (s.claim u).waiting.filter (fun q => decide (q ≠ p)) } := by
      rw [← disownedState_claim hs p u]
      exact congrArg (fun c => PerUnit.get c u) ((voidSlots_frame ..).same .claims (by decide))
    have hprove : w.prove = (disownedState p s).prove := (voidSlots_frame ..).same .prove (by decide)
    have hlink (q : Port) (hq : q ≠ p) : (answered p .ok 37 .empty (clearStation p s)).link q = w.link q := by
      rw [answered_link, if_neg hq, clearStation_link_ne hq]
    have hmode (q : Port) := postKept_disowned (mode_posted _ q (s.link q)) p ⟨rfl, rfl, rfl, rfl⟩
    refine ⟨fun u => ?_, fun u hu => ?_, fun u q hu hq => ?_, fun u hu => ?_, fun q hq => ⟨?_, fun hnot => ?_⟩, fun i hi => ?_,
      fun i hi => ?_, fun r => ?_, ?_, fun q hq => ?_, fun hproving => ⟨?_, ?_, fun q hq => ?_⟩, fun hidle => ?_,
      hframe.same .bank (by decide), hframe.same .live (by decide), hframe.same .curves (by decide),
      hframe.same .grades (by decide), hframe.same .checkers (by decide), hframe.same .terminalTime (by decide)⟩
    · rw [hclaim]
      split
      case isTrue hu => exact handedOver_without (hs.claims u) hu
      case isFalse hu => exact ⟨hu, by simp, rfl⟩
    · rw [hclaim, if_pos hu]
      exact handedOver_eq _
    · have hne : q ≠ p := fun h => ((hs.claims u).held p hu).2.1 (h ▸ List.mem_of_mem_head? hq)
      rw [hlink q hne]
      have hposted := qualified_posted [.proveEnd, .parcelStage] q .claimGranted (unitBit u)
      exact (hposted.sub (by simp)).voidSlots p _ ((hposted.sub (by simp)).abortIf _ _ _ (clearClaims_granted hu hq))
    · rw [hclaim, if_neg hu]
    · rw [hlink q hq]
      exact postKept_disowned (notice_posted (k := .claimLost) (by decide) q ((s.link q).notices.get .claimLost)) p rfl
    · rw [hlink q hq]
      have hposted := notice_posted (ks := [.proveEnd, .parcelStage]) (k := .claimGranted) (by decide) q
        ((s.link q).notices.get .claimGranted)
      exact (hposted.sub (by simp)).voidSlots p _ ((hposted.sub (by simp)).abortIf _ _ _ (by rw [clearClaims_ungranted hnot]))
    · have hawaits : ¬ awaits p (w.slot i) = true := by simp [hw, voidSlots_awaits]
      rw [awaits_iff] at hawaits
      exact not_or.mp fun h => hawaits ⟨hi, h⟩
    · have hslot : (disownedState p s).slot i = s.slot i := congrArg (fun g : Ring => g.slots.get i) hring
      exact (voidSlots_slot (p := p) (s := disownedState p s) (by rw [hslot]; exact hi)).trans hslot
    · have hcalc : (disownedState p s).calcOf r = s.calcOf r := congrArg (fun c => PerRun.get c r) hcalcs
      exact hcalc ▸ voidSlots_calcOf p (disownedState p s) r
    · rw [answered_link, if_pos rfl, clearStation_eq, resetLink_link, if_pos rfl]
      simp only [(hmode p).2.2.2]
    · rw [hlink q hq]
      exact ⟨(hmode q).1, (hmode q).2.1, (hmode q).2.2.1⟩
    · show w.prove.result.state = _
      rw [hprove, disownedState, hproving]
      exact (endProve_endedProve .aborted (some .claim) (clearClaims p s)).2.2.2.1
    · show w.prove.result.reason = _
      rw [hprove, disownedState, hproving]
      exact (endProve_endedProve .aborted (some .claim) (clearClaims p s)).2.2.2.2.1
    · rw [hlink q hq]
      refine (pending_posted [.parcelStage] q .proveEnd).voidSlots p _ ?_
      rw [disownedState, hproving]
      exact endProve_notice ..
    · show w.prove = _
      rw [hprove, disownedState, hidle]
      exact clearClaims_prove p s
  · show execStationClear .. = _
    unfold execStationClear
    exact unitZero_range hsup hunit

end StationClear

end Sys2Proof.Machine

/-! The loss of supply and the change of the battery (5.4); the arrivals still waiting are taken, with or without supply. -/

namespace Sys2Proof.Machine

section Settled

variable {s t : State} {r q : Run}

/-! ## What a run's arrivals leave (R84) -/

theorem takeArrivals_toBank (r : Run) (s : State) : (takeArrivals r s).toBank = s.toBank.set r [] := by
  have hqueue : (takeAtEngine r s).toBank = s.toBank := (takeAtEngine_frame s r).same .toBank (by decide)
  rw [takeArrivals, drainBank, hqueue]

theorem takeArrivals_toEngine (r : Run) (s : State) : (takeArrivals r s).toEngine = s.toEngine.set r none :=
    takeAtEngine_toEngine r s

/-- The arrivals of the runs of a list are taken one run after the other. -/
theorem foldl_takeArrivals_waiting (l : List Run) (s : State) (q : Run) :
    (l.foldl (fun s r => takeArrivals r s) s).toBank.get q = (if q ∈ l then [] else s.toBank.get q)
      ∧ (l.foldl (fun s r => takeArrivals r s) s).toEngine.get q = if q ∈ l then none else s.toEngine.get q := by
  induction l generalizing s with
  | nil => simp
  | cons r l ih =>
    obtain ⟨hbank, hengine⟩ := ih (takeArrivals r s)
    rw [List.foldl_cons, hbank, hengine, takeArrivals_toBank, takeArrivals_toEngine]
    by_cases hq : q = r
    · subst hq
      simp
    · simp [hq, PerRun.get_set_ne hq]

theorem foldl_takeArrivals_bank (l : List Run) (hl : l.Nodup) (s : State) :
    (l.foldl (fun s r => takeArrivals r s) s).bank = (l.flatMap s.toBank.get).foldl Bank.add s.bank := by
  induction l generalizing s with
  | nil => rfl
  | cons r l ih =>
    obtain ⟨hr, hl⟩ := List.nodup_cons.mp hl
    have hqueues : l.flatMap (takeArrivals r s).toBank.get = l.flatMap s.toBank.get := by
      refine List.flatMap_congr fun q hq => ?_
      rw [takeArrivals_toBank, PerRun.get_set_ne (ne_of_mem_of_not_mem hq hr)]
    rw [List.foldl_cons, ih hl, hqueues, takeArrivals_bank, List.flatMap_cons, List.foldl_append]

theorem runs_nodup : runs.Nodup := by decide

theorem mem_runs (r : Run) : r ∈ runs := by cases r <;> decide

theorem settleArrivals_waiting (s : State) (q : Run) :
    (settleArrivals s).toBank.get q = [] ∧ (settleArrivals s).toEngine.get q = none := by
  obtain ⟨hbank, hengine⟩ := foldl_takeArrivals_waiting runs s q
  exact ⟨hbank.trans (if_pos (mem_runs q)), hengine.trans (if_pos (mem_runs q))⟩

theorem settleArrivals_bank (s : State) : (settleArrivals s).bank = (runs.flatMap s.toBank.get).foldl Bank.add s.bank :=
  foldl_takeArrivals_bank runs runs_nodup s

/-! ## The commands that take them -/

theorem afterCommands_append (l l' : List Instr) (s : State) :
    afterCommands (l ++ l') s = (afterCommands l s).bind (afterCommands l') := by
  induction l generalizing s with
  | nil => rfl
  | cons c l ih =>
    simp only [List.cons_append, afterCommands]
    cases exec c s with
    | next t => exact ih t
    | fault _ => rfl
    | refused _ => rfl

theorem exec_arrivalAtBank (hsup : s.retention.supplied = true) (r : Run) :
    exec (.incrementArrivalAtBank r) s = .next (takeAtBank r s) := by
  show execIncrementArrivalAtBank .. = _
  rw [execIncrementArrivalAtBank, event_supplied hsup]

theorem exec_takeAtEngine (hsup : s.retention.supplied = true) (r : Run) :
    exec (.incrementArrivalAtEngine r) s = .next (takeAtEngine r s) := by
  show execIncrementArrivalAtEngine .. = _
  rw [execIncrementArrivalAtEngine, event_supplied hsup]

theorem drainBank_none (h : s.toBank.get r = []) : drainBank r s = s := by
  have hset : s.toBank.set r [] = s.toBank := by
    rw [← h]
    cases r <;> rfl
  rw [drainBank, h, hset]
  rfl

/-- As many arrivals at the bank as wait are the drained bank. -/
theorem afterCommands_drain (hsup : s.retention.supplied = true) (l : List Arrival) (hl : s.toBank.get r = l) :
    afterCommands (List.replicate l.length (.incrementArrivalAtBank r)) s = some (drainBank r s) := by
  induction l generalizing s with
  | nil => exact congrArg some (drainBank_none hl).symm
  | cons a l ih =>
    have htake : takeAtBank r s = { s with bank := s.bank.add a, toBank := s.toBank.set r l } := by rw [takeAtBank, hl]
    rw [List.length_cons, List.replicate_succ, afterCommands, exec_arrivalAtBank hsup, htake]
    show afterCommands _ _ = _
    rw [ih (s := { s with bank := s.bank.add a, toBank := s.toBank.set r l }) hsup (PerRun.get_set_self ..)]
    simp only [drainBank, hl, PerRun.get_set_self, PerRun.set_set, List.foldl_cons]

theorem afterCommands_takeArrivals (hsup : s.retention.supplied = true) (r : Run) :
    afterCommands (.incrementArrivalAtEngine r :: List.replicate (s.toBank.get r).length (.incrementArrivalAtBank r)) s
      = some (takeArrivals r s) := by
  have hframe := takeAtEngine_frame s r
  have hqueue : (takeAtEngine r s).toBank = s.toBank := hframe.same .toBank (by decide)
  rw [afterCommands, exec_takeAtEngine hsup]
  refine afterCommands_drain ?_ _ (by rw [hqueue])
  exact (congrArg Retention.supplied (hframe.same .retention (by decide))).trans hsup

theorem afterCommands_runs (l : List Run) (hl : l.Nodup) (queues : PerRun (List Arrival)) (s : State)
    (hsup : s.retention.supplied = true) (hqueues : ∀ r ∈ l, s.toBank.get r = queues.get r) :
    afterCommands (l.flatMap fun r =>
      .incrementArrivalAtEngine r :: List.replicate (queues.get r).length (.incrementArrivalAtBank r)) s
      = some (l.foldl (fun s r => takeArrivals r s) s) := by
  induction l generalizing s with
  | nil => rfl
  | cons r l ih =>
    obtain ⟨hr, hl⟩ := List.nodup_cons.mp hl
    have hsup' : (takeArrivals r s).retention.supplied = true :=
      (congrArg Retention.supplied ((takeArrivals_frame s r).same .retention (by decide))).trans hsup
    rw [List.flatMap_cons, afterCommands_append, ← hqueues r (by simp), afterCommands_takeArrivals hsup, Option.bind_some,
      List.foldl_cons]
    refine ih hl _ hsup' fun q hq => ?_
    rw [takeArrivals_toBank, PerRun.get_set_ne (ne_of_mem_of_not_mem hq hr)]
    exact hqueues q (List.mem_cons_of_mem r hq)

/-- The commands that take every arrival still waiting leave the settled state. -/
theorem afterCommands_arrivalsOf (hsup : s.retention.supplied = true) :
    afterCommands (arrivalsOf s) s = some (settleArrivals s) :=
  afterCommands_runs runs runs_nodup s.toBank s hsup fun _ _ => rfl

/-- With nothing waiting nothing is taken. -/
theorem settleArrivals_none (hbank : ∀ r, s.toBank.get r = []) (hengine : ∀ r, s.toEngine.get r = none) :
    settleArrivals s = s := by
  have hone (r : Run) : takeArrivals r s = s := by
    rw [takeArrivals, takeAtEngine_of_none (hengine r), drainBank_none (hbank r)]
  show runs.foldl _ s = s
  simp [runs, hone]

/-! ## The loss of supply (R84) -/

theorem exec_lossOfSupply (hsup : s.retention.supplied = true) : exec .lossOfSupply s = .next
    (if s.retention.battery = .lapsed then
      lapseMemory { settleArrivals s with retention := { (settleArrivals s).retention with supplied := false } }
    else { settleArrivals s with retention := { (settleArrivals s).retention with supplied := false } }) := by
  show execLossOfSupply s = _
  rw [execLossOfSupply, event_supplied hsup]

/-- Settles O52: the arrivals are taken, the supply is gone, and a battery without holding level lets the memory lapse. -/
theorem supplyIsLost : Obligations.SupplyIsLost := by
  refine fun s level => ⟨fun hsup => ?_, fun hnot => ?_, fun hsup hlevel => ?_⟩
  · have hframe := settleArrivals_frame s
    have hret : (settleArrivals s).retention = s.retention := hframe.same .retention (by decide)
    have hcurves : (settleArrivals s).curves = s.curves := hframe.same .curves (by decide)
    have hgrades : (settleArrivals s).grades = s.grades := hframe.same .grades (by decide)
    have hcheckers : (settleArrivals s).checkers = s.checkers := hframe.same .checkers (by decide)
    have hprove : (settleArrivals s).prove = s.prove := hframe.same .prove (by decide)
    have htime : (settleArrivals s).terminalTime = s.terminalTime := hframe.same .terminalTime (by decide)
    have hfree : (settleArrivals s).freeCount = s.freeCount := hframe.same .freeCount (by decide)
    have hexec := exec_lossOfSupply hsup
    rw [hret] at hexec
    by_cases hbattery : s.retention.battery = .lapsed
    · rw [if_pos hbattery] at hexec
      refine ⟨_, _, hexec, afterCommands_arrivalsOf hsup, settleArrivals_waiting s, ?_, fun h => absurd hbattery h,
        settleArrivals_bank s, rfl, rfl, fun p => rfl, hcurves, hgrades, hcheckers, hprove, htime⟩
      simp only [hbattery, decide_true, Bool.or_true]
      rfl
    · rw [if_neg hbattery] at hexec
      refine ⟨_, _, hexec, afterCommands_arrivalsOf hsup, settleArrivals_waiting s, ?_, fun _ => ⟨rfl, hfree⟩,
        settleArrivals_bank s, rfl, rfl, fun p => rfl, hcurves, hgrades, hcheckers, hprove, htime⟩
      simp only [hbattery, decide_false, Bool.or_false]
  · show execRetentionSupplyChange level s = _
    refine congrArg Host.Outcome.next (if_neg fun h => ?_)
    rcases hnot with hsup | hlevel
    · simp [hsup] at h
    · exact hlevel h.2
  · refine ⟨Config.decayedMatch s.freeCount, ?_⟩
    show execRetentionSupplyChange level s = _
    exact congrArg Host.Outcome.next (if_pos ⟨hsup, hlevel⟩)

end Settled

end Sys2Proof.Machine

/-! The supply does not matter to the arrivals that are taken: the Parcel Engine does not read the retained
domain's own record. -/

namespace Sys2Proof.Machine

section Retention

variable {s : State} {r : Run} {i : SlotId} {a : Arrival} {x : Retention}

/-- The state with another record of the retained domain. -/
def State.withRetention (s : State) (x : Retention) : State := { s with retention := x }

/-- The operation does not read the record of the retained domain, and leaves it. -/
def IgnoresRetention (f : State → State) : Prop := ∀ s x, f (s.withRetention x) = (f s).withRetention x

theorem IgnoresRetention.comp {f g : State → State} (hg : IgnoresRetention g) (hf : IgnoresRetention f) :
    IgnoresRetention (fun s => g (f s)) := fun s x => by
  show g (f (s.withRetention x)) = _
  rw [hf, hg]

theorem IgnoresRetention.ite {f g : State → State} {b : State → Prop} [DecidablePred b] (hb : ∀ s x, b (s.withRetention x) = b s)
    (hf : IgnoresRetention f) (hg : IgnoresRetention g) : IgnoresRetention (fun s => if b s then f s else g s) := fun s x => by
  dsimp only
  by_cases h : b s
  · rw [if_pos h, if_pos (by rw [hb]; exact h), hf]
  · rw [if_neg h, if_neg (by rw [hb]; exact h), hg]

theorem IgnoresRetention.foldl {α : Type} {f : State → α → State} (hf : ∀ y, IgnoresRetention (fun s => f s y)) (l : List α) :
    IgnoresRetention (fun s => l.foldl f s) := fun s x => by
  dsimp only
  induction l generalizing s with
  | nil => rfl
  | cons y l ih => rw [List.foldl_cons, List.foldl_cons, show f (s.withRetention x) y = _ from hf y s x, ih]

theorem takeLooks_ignores (n : Nat) : IgnoresRetention (takeLooks n) := fun s x => by
  induction n generalizing s with
  | zero => rfl
  | succ n ih =>
    by_cases hv : (s.slot s.ring.head).state = .void
    · rw [takeLooks_void (s := s.withRetention x) hv, takeLooks_void hv]
      exact ih (passVoid s)
    · by_cases ha : (s.slot s.ring.head).state = .armed
      · cases hform : (s.slot s.ring.head).form with
        | none =>
          rw [takeLooks_formless (s := s.withRetention x) ha hform, takeLooks_formless ha hform]
          rfl
        | some f =>
          by_cases hkind : formKind f = .hold
          · rw [takeLooks_hold (s := s.withRetention x) ha hform hkind, takeLooks_hold ha hform hkind]
            rfl
          · rw [takeLooks_parcel (s := s.withRetention x) ha hform hkind, takeLooks_parcel ha hform hkind]
            rfl
      · rw [takeLooks_idle (s := s.withRetention x) hv ha, takeLooks_idle hv ha]
        rfl

theorem takeNext_ignores : IgnoresRetention takeNext := takeLooks_ignores 9

theorem postTo_ignores (ps : PortSet) (k : NoticeKind) (q : BitVec 8) : IgnoresRetention (fun s => s.postTo ps k q) :=
  .foldl (fun _ => .ite (fun _ _ => rfl) (fun _ _ => rfl) (fun _ _ => rfl)) ports

theorem writeTicket_eq {c : Closing} (hc : s.ring.closing = some c) :
    writeTicket s = State.postTo { s with ring := ticketedRing c s }
    (((s.slot c.slot).form.bind formWitness).getD (.all false)) .ticketReady (slotBit c.slot) := by
  rw [writeTicket, hc]
  rfl

theorem writeTicket_none (hc : s.ring.closing = none) : writeTicket s = s := by rw [writeTicket, hc]

theorem writeTicket_ignores : IgnoresRetention writeTicket := fun s x => by
  cases hc : s.ring.closing with
  | none => rw [writeTicket_none hc, writeTicket_none (s := s.withRetention x) hc]
  | some c =>
    rw [writeTicket_eq hc, writeTicket_eq (s := s.withRetention x) hc]
    exact postTo_ignores _ _ _ { s with ring := ticketedRing c s } x

theorem writeIfNoneOwe_ignores : IgnoresRetention writeIfNoneOwe := fun s x => by
  cases hc : s.ring.closing with
  | none => rw [writeIfNoneOwe_closed hc, writeIfNoneOwe_closed (s := s.withRetention x) hc]
  | some c =>
    by_cases h : RunSet.none? c.owing = true
    · rw [writeIfNoneOwe_none hc (none?_iff.mp h), writeIfNoneOwe_none (s := s.withRetention x) hc (none?_iff.mp h), writeTicket_ignores]
    · obtain ⟨r, hr⟩ := exists_owing_of_not_none? h
      rw [writeIfNoneOwe_owed hc hr, writeIfNoneOwe_owed (s := s.withRetention x) hc hr]

theorem applyPendingK_ignores (r : Run) : IgnoresRetention (applyPendingK r) := fun s x => by
  unfold applyPendingK
  show (match (s.calcOf r).pendingK with | none => _ | some k => _ : State) = _
  cases (s.calcOf r).pendingK <;> rfl

theorem leftState_ignores (r : Run) : IgnoresRetention (leftState r) := fun s x => by
  rw [leftState, leftState, applyPendingK_ignores, leaveOwing_eq, leaveOwing_eq]
  rfl

theorem closePortion_ignores (r : Run) : IgnoresRetention (closePortion r) := fun s x => by
  rw [closePortion_eq, closePortion_eq]
  exact (writeIfNoneOwe_ignores.comp (leftState_ignores r)) s x

theorem startClosing_ignores (i : SlotId) (reason : CloseReason) (q : Option Run) : IgnoresRetention (startClosing i reason q) :=
    fun s x => by
  have hbegin : IgnoresRetention (beginClosing i reason) := fun _ _ => rfl
  cases q with
  | none => exact (takeNext_ignores.comp (writeIfNoneOwe_ignores.comp hbegin)) s x
  | some r => exact (takeNext_ignores.comp (writeIfNoneOwe_ignores.comp ((closePortion_ignores r).comp hbegin))) s x

theorem evaluatePermissive_ignores (i : SlotId) : IgnoresRetention (evaluatePermissive i) := fun s x => by
  unfold evaluatePermissive
  rw [show (s.withRetention x).slot i = s.slot i from rfl, show (s.withRetention x).ring = s.ring from rfl]
  split
  · dsimp only
    split
    · split
      · rfl
      · split <;> rfl
    · rfl
  · rfl

theorem applyWatch_ignores (a : Arrival) : IgnoresRetention (applyWatch a) := fun s x => by
  cases hdest : a.destination with
  | some i => rw [applyWatch_assigned hdest, applyWatch_assigned hdest]; rfl
  | none =>
    unfold applyWatch
    rw [hdest, show (s.withRetention x).ring = s.ring from rfl]
    dsimp only
    split
    · rfl
    · split <;> rfl

theorem advanceClosing_ignores (a : Arrival) : IgnoresRetention (advanceClosing a) := fun s x => by
  unfold advanceClosing
  rw [show owedArrival a (s.withRetention x) = owedArrival a s from rfl]
  split
  · exact closePortion_ignores a.run s x
  · split
    · rfl
    · rename_i i _
      rw [show quietTest i (s.withRetention x) = quietTest i s from rfl]
      split
      · exact startClosing_ignores i .quiet (some a.run) s x
      · rfl

theorem engineArrival_ignores (a : Arrival) : IgnoresRetention (engineArrival a) := by
  have hassign : IgnoresRetention (assignArrival a) := fun s x => by
    unfold assignArrival
    split
    · rfl
    · exact evaluatePermissive_ignores _ (addToPortion _ a s) x
  exact (advanceClosing_ignores a).comp ((applyWatch_ignores a).comp hassign)

theorem takeAtEngine_ignores (r : Run) : IgnoresRetention (takeAtEngine r) := fun s x => by
  unfold takeAtEngine
  rw [show (s.withRetention x).toEngine = s.toEngine from rfl]
  split
  · rfl
  · exact engineArrival_ignores _ { s with toEngine := s.toEngine.set r none } x

theorem takeArrivals_ignores (r : Run) : IgnoresRetention (takeArrivals r) := by
  have hdrain : IgnoresRetention (drainBank r) := fun _ _ => rfl
  exact hdrain.comp (takeAtEngine_ignores r)

/-- The arrivals still waiting are taken alike with and without supply. -/
theorem settleArrivals_ignores : IgnoresRetention settleArrivals := .foldl takeArrivals_ignores runs

end Retention

end Sys2Proof.Machine

/-! The start of the part (5.5): what a restart leaves of each block. -/

namespace Sys2Proof.Machine

section Restart

variable {s t w : State} {r q : Run}

/-! ## The restart values of the blocks -/

theorem resumeAtRestart_eq (s : State) : ∃ b, resumeAtRestart s = { s with ring := { s.ring with resumePending := b } } := by
  unfold resumeAtRestart
  split
  · exact ⟨true, rfl⟩
  · exact ⟨false, rfl⟩
  · exact ⟨s.ring.resumePending, rfl⟩

/-- The blocks with their restart values, but for resume pending. -/
def restartedBlocks (s : State) : State :=
  { s with
    checkers := s.checkers.map (fun c => { c with expectation := .either })
    calcs := s.calcs.map (fun k => { k with lastPeriod := none, quiet := 0 })
    live := s.live.restart
    ring := { s.ring with watch := false }
    clockWait := none
    prove := { s.prove with engine := .idle, timebase := 0, passTimer := none, working := none }
    claims := s.claims.map (fun c => { holder := none, waiting := [], holdTime := c.holdTime, timer := none })
    links := .all (.started { restarted := { pending := true } }) }

theorem restartBlocks_resume (s : State) : restartBlocks s = resumeAtRestart (restartedBlocks s) := rfl

theorem restartBlocks_eq (s : State) :
    ∃ b, restartBlocks s = { restartedBlocks s with ring := { (restartedBlocks s).ring with resumePending := b } } :=
  resumeAtRestart_eq (restartedBlocks s)

/-- The state in which the ONLINE runs close their restart partial periods. -/
def restartBase (s : State) : State := abortAtRestart (restartBlocks s)

theorem abortAtRestart_cases (s : State) : (s.proveRunning = true ∧ abortAtRestart s = (s.setResult { s.prove.result with
      state := .aborted, reason := some .restart, endTime := some s.terminalTime }).postAll .proveEnd 0)
    ∨ (s.proveRunning = false ∧ abortAtRestart s = s) := by
  unfold abortAtRestart
  split
  case isTrue h => exact .inl ⟨h, rfl⟩
  case isFalse h => exact .inr ⟨by simpa using h, rfl⟩

theorem restartBase_checker (s : State) (r : Run) : (restartBase s).checker r = { s.checker r with expectation := .either } := by
  obtain ⟨b, hb⟩ := restartBlocks_eq s
  refine (checker_congr ((abortAtRestart_frame _).same .checkers (by decide)) r).trans ?_
  rw [hb]
  exact PerRun.get_map ..

theorem restartBase_calcOf (s : State) (r : Run) :
    (restartBase s).calcOf r = { s.calcOf r with lastPeriod := none, quiet := 0 } := by
  obtain ⟨b, hb⟩ := restartBlocks_eq s
  refine (congrArg (fun c => PerRun.get c r) ((abortAtRestart_frame _).same .calcs (by decide))).trans ?_
  rw [hb]
  exact PerRun.get_map ..

theorem restartBase_ring (s : State) : (restartBase s).ring = (restartBlocks s).ring :=
    (abortAtRestart_frame _).same .ring (by decide)

theorem restartBase_frame (s : State) :
    Frame [.checkers, .calcs, .live, .ring, .clockWait, .prove, .claims, .links] s (restartBase s) :=
  (restartBlocks_frame s).andThen (abortAtRestart_frame _) (by decide)

/-! ## One run's period -/

/-- The run's calculator, checker and arrivals are the same. -/
structure SameRun (r : Run) (s t : State) : Prop where
  calculator : t.calcOf r = s.calcOf r
  checker : t.checker r = s.checker r
  toBank : t.toBank.get r = s.toBank.get r
  toEngine : t.toEngine.get r = s.toEngine.get r

theorem SameRun.refl (r : Run) (s : State) : SameRun r s s := ⟨rfl, rfl, rfl, rfl⟩

theorem SameRun.trans (h : SameRun r s t) (h' : SameRun r t w) : SameRun r s w :=
  ⟨h'.calculator.trans h.calculator, h'.checker.trans h.checker, h'.toBank.trans h.toBank, h'.toEngine.trans h.toEngine⟩

/-- The restart partial period of another run. -/
theorem restartPeriod_other (h : r ≠ q) (s : State) : SameRun r s (restartPeriod s q) := by
  unfold restartPeriod
  split
  case isTrue =>
    obtain ⟨hcalc, hchecker⟩ := closePeriod_other q (s.calcOf q).elapsed true s h
    refine ⟨(setCalc_ne _ h _).trans hcalc, hchecker, ?_, ?_⟩
    · show (closePeriod q (s.calcOf q).elapsed true s).toBank.get r = _
      rw [closePeriod_toBank_eq, PerRun.get_set_ne h]
    · show (closePeriod q (s.calcOf q).elapsed true s).toEngine.get r = _
      rw [closePeriod_toEngine_eq, PerRun.get_set_ne h]
  case isFalse => exact .refl r s

theorem foldl_restartPeriod_other (l : List Run) (hr : r ∉ l) (s : State) : SameRun r s (l.foldl restartPeriod s) := by
  induction l generalizing s with
  | nil => exact .refl r s
  | cons q l ih =>
    exact (restartPeriod_other (List.ne_of_not_mem_cons hr) s).trans (ih (List.not_mem_of_not_mem_cons hr) _)

/-- The restart partial period of a run is closed in a state that has the run as the restart left it. -/
theorem foldl_restartPeriod_run {P : State → Prop} (hP : ∀ s q, P s → P (restartPeriod s q)) (l : List Run) (hl : l.Nodup)
    (hr : r ∈ l)
    (s : State) (hs : P s) : ∃ w, P w ∧ SameRun r s w ∧ SameRun r (restartPeriod w r) (l.foldl restartPeriod s) := by
  induction l generalizing s with
  | nil => simp at hr
  | cons q l ih =>
    obtain ⟨hq, hl⟩ := List.nodup_cons.mp hl
    by_cases h : r = q
    · subst h
      exact ⟨s, hs, .refl r s, foldl_restartPeriod_other l hq _⟩
    · obtain ⟨w, hw, hsame, hrest⟩ := ih hl ((List.mem_cons.mp hr).resolve_left h) (restartPeriod s q) (hP s q hs)
      exact ⟨w, hw, (restartPeriod_other h s).trans hsame, hrest⟩

/-! ## The Live Value Table -/

/-- A place after a restart: no slot is filled, and the record holds its last value. -/
def LiveItem.Restarted (hold : Nat) (x y : LiveItem) : Prop :=
  y.slots = .all none ∧ y.record.liveFailed = false ∧ y.record.lastValue = x.record.lastValue
    ∧ (x.record.lastValue ≠ none → y.record.supply = .holding ∧ y.record.holdTimer = some (hold * 10000000))
    ∧ (x.record.lastValue = none → y.record.supply = .lapsed ∧ y.record.holdTimer = none)

theorem LiveItem.restart_restarted (hold : Nat) (x : LiveItem) : LiveItem.Restarted hold x (x.restart hold) := by
  cases h : x.record.lastValue with
  | none => simp [LiveItem.Restarted, LiveItem.restart, h]
  | some v => simp [LiveItem.Restarted, LiveItem.restart, h, Config.seconds, Config.ticksPerSecond]

/-- A selection without a report gives the last value, held, or the default. -/
theorem select_restarted {hold : Nat} {x : LiveItem} {l : LivePoint} (h : LiveItem.Restarted hold x (s.liveItem l))
    (g : GradeId) :
    (select l g s).1.status = .held ∨ (select l g s).1.status = .dflt := by
  obtain ⟨hslots, -, hlast, hsome, -⟩ := h
  have hf : (s.liveItem l).f = [] :=
    (LiveItem.f_congr (x := s.liveItem l) (y := { record := (s.liveItem l).record, slots := .all none }) hslots).trans
      (LiveItem.f_of_all_none _)
  rw [select_value]
  cases hv : (s.liveItem l).record.lastValue with
  | none => exact .inr (by rw [selectValue_default hf hv])
  | some v =>
    have hheld := (hsome (by rw [← hlast, hv]; exact Option.some_ne_none v)).1
    exact .inl (by rw [selectValue_held hf hv (by simp [hheld])])

theorem after_restarted {hold : Nat} {x y : LiveItem} (h : LiveItem.Restarted hold x y) {sel : Selected}
    (hsel : sel.status = .held ∨ sel.status = .dflt) : LiveItem.Restarted hold x { y with record := y.record.after sel } := by
  obtain ⟨hslots, hfailed, hlast, hsome, hnone⟩ := h
  refine ⟨hslots, hfailed, ?_, hsome, hnone⟩
  rcases hsel with hsel | hsel <;> simpa [SelRecord.after, hsel, SelStatus.fromReports] using hlast

/-- The Live Value Table after a restart, against the table before it. -/
def LiveRestarted (s t : State) : Prop :=
  (∀ u, t.limits u = s.limits u) ∧ (∀ r, (t.live.runs.get r).tolBsw = (s.live.runs.get r).tolBsw)
    ∧ ∀ l, LiveItem.Restarted (s.limits (liveUnit l)).hold (s.liveItem l) (t.liveItem l)

theorem LiveRestarted.congr (h : LiveRestarted s t) (hlive : w.live = t.live) : LiveRestarted s w := by
  obtain ⟨hlimits, htol, hitems⟩ := h
  refine ⟨fun u => ?_, fun r => ?_, fun l => ?_⟩
  · rw [limits_congr u hlive, hlimits]
  · rw [hlive, htol]
  · rw [liveItem_congr l hlive]
    exact hitems l

theorem LiveRestarted.select (h : LiveRestarted s t) (l : LivePoint) (g : GradeId) : LiveRestarted s (select l g t).2 := by
  obtain ⟨hlimits, htol, hitems⟩ := h
  refine LiveRestarted.congr (t := t.setLiveItem l { t.liveItem l with record := (t.liveItem l).record.after (Machine.select l g t).1 })
    ⟨fun u => ?_, fun r => ?_, fun l' => ?_⟩ (select_live l g t)
  · rw [setLiveItem_limits, hlimits]
  · rw [setLiveItem_tolBsw, htol]
  · by_cases hl : l' = l
    · subst hl
      rw [setLiveItem_self]
      exact after_restarted (hitems l') (select_restarted (hitems l') g)
    · rw [setLiveItem_ne hl]
      exact hitems l'

theorem restartPeriod_live (h : LiveRestarted s t) (q : Run) : LiveRestarted s (restartPeriod t q) := by
  unfold restartPeriod
  split
  case isTrue =>
    have hgathered := gatherPeriod_keeps (P := LiveRestarted s) (fun l g t ht => ht.select l g) q (t.calcOf q).elapsed true t h
    exact hgathered.congr rfl
  case isFalse => exact h

theorem restartBase_live (s : State) : LiveRestarted s (restartBase s) := by
  have hlive : (restartBase s).live = (restartBlocks s).live := (abortAtRestart_frame _).same .live (by decide)
  refine LiveRestarted.congr (t := restartBlocks s) ⟨fun u => ?_, fun r => ?_, fun l => ?_⟩ hlive
  · unfold State.limits
    rw [restartBlocks_live]
    cases u with
    | run r => simp [Live.restart]
    | prover => rfl
  · rw [restartBlocks_live]
    simp [Live.restart]
  · rw [restartBlocks_liveItem]
    exact LiveItem.restart_restarted ..

theorem restart_live (s : State) : LiveRestarted s (restart s) :=
  runs_foldl_keeps (P := LiveRestarted s) (fun _ r h => restartPeriod_live h r) runs (restartBase_live s)

end Restart

end Sys2Proof.Machine

/-! The start of the part: cold initialization, and a restart with what is retained (5.5). -/

namespace Sys2Proof.Machine

section Start

variable {s m : State} {r : Run} {p : Port} {u : UnitId}

/-! ## The runs after a restart -/

/-- What stands in the calculator of a run when its restart partial period closes. -/
def restartedCalc (k : Calculator) : Calculator := { k with lastPeriod := none, quiet := 0 }

/-- The restart partial period of an ONLINE run: what its close gathers, and what it leaves. -/
theorem restart_online (hon : (m.calcOf r).runState = .online) : ∃ i : PeriodInputs,
    (restart m).calcOf r = { i.calculatorAfter (restartedCalc (m.calcOf r)) with
        elapsed := 0, openLength := (m.calcOf r).periodLength }
      ∧ (restart m).checker r = Checker.handOver { m.checker r with expectation := .either }
      ∧ (restart m).toBank.get r = m.toBank.get r ++ [i.arrival] ∧ (restart m).toEngine.get r = some i.arrival
      ∧ i.pulses = (m.checker r).accepted ∧ i.reversePulses = (m.checker r).reverse ∧ i.tMs = (m.calcOf r).elapsed
      ∧ i.restart = true ∧ i.kmilli = (m.calcOf r).kmilli ∧ i.rI = (m.calcOf r).rI ∧ i.rR = (m.calcOf r).rR
      ∧ i.destination = (m.calcOf r).target ∧ (i.temp.status = .held ∨ i.temp.status = .dflt) := by
  obtain ⟨w, hlive, hbase, hrest⟩ := foldl_restartPeriod_run (P := LiveRestarted m) (fun _ q h => restartPeriod_live h q) runs
    runs_nodup (mem_runs r) (restartBase m) (restartBase_live m)
  have hcalc : w.calcOf r = restartedCalc (m.calcOf r) := hbase.calculator.trans (restartBase_calcOf m r)
  have hchecker : w.checker r = { m.checker r with expectation := .either } := hbase.checker.trans (restartBase_checker m r)
  have hbank : w.toBank.get r = m.toBank.get r :=
    hbase.toBank.trans (congrArg (fun v => PerRun.get v r) ((restartBase_frame m).same .toBank (by decide)))
  have hperiod : restartPeriod w r = openPeriod r (closePeriod r (w.calcOf r).elapsed true w) :=
    if_pos (by rw [hcalc]; exact hon)
  rw [hperiod] at hrest
  refine ⟨(gatherPeriod r (w.calcOf r).elapsed true w).1, ?_, ?_, ?_, ?_, ?_, ?_, ?_, rfl, ?_, ?_, ?_, ?_, select_restarted (hlive.2.2 _) _⟩
  · rw [show (restart m).calcOf r = _ from hrest.calculator, openPeriod_closePeriod_calcOf, hcalc]
    rfl
  · rw [show (restart m).checker r = _ from hrest.checker, ← hchecker]
    exact closePeriod_checker ..
  · refine hrest.toBank.trans ?_
    show (closePeriod r (w.calcOf r).elapsed true w).toBank.get r = _
    rw [closePeriod_toBank_eq, PerRun.get_set_self, hbank]
  · refine hrest.toEngine.trans ?_
    show (closePeriod r (w.calcOf r).elapsed true w).toEngine.get r = _
    rw [closePeriod_toEngine_eq, PerRun.get_set_self]
  · rw [gatherPeriod_pulses, hchecker]
  · rw [gatherPeriod_reversePulses, hchecker]
  · rw [gatherPeriod_tMs, hcalc]
    rfl
  · rw [gatherPeriod_kmilli, hcalc]
    rfl
  · rw [gatherPeriod_rI, hcalc]
    rfl
  · rw [gatherPeriod_rR, hcalc]
    rfl
  · rw [gatherPeriod_destination, hcalc]
    rfl

/-- A run that is OFFLINE closes no period. -/
theorem restart_offline (hoff : (m.calcOf r).runState = .offline) : (restart m).calcOf r = restartedCalc (m.calcOf r)
    ∧ (restart m).checker r = { m.checker r with expectation := .either }
    ∧ (restart m).toBank.get r = m.toBank.get r ∧ (restart m).toEngine.get r = m.toEngine.get r := by
  obtain ⟨w, -, hbase, hrest⟩ := foldl_restartPeriod_run (P := fun _ => True) (fun _ _ _ => trivial) runs runs_nodup (mem_runs r)
    (restartBase m) trivial
  have hcalc : w.calcOf r = restartedCalc (m.calcOf r) := hbase.calculator.trans (restartBase_calcOf m r)
  have hperiod : restartPeriod w r = w := if_neg (by rw [hcalc]; simp [restartedCalc, hoff])
  rw [hperiod] at hrest
  have hsame := hbase.trans hrest
  refine ⟨hsame.calculator.trans (restartBase_calcOf m r), hsame.checker.trans (restartBase_checker m r), hsame.toBank.trans ?_,
    hsame.toEngine.trans ?_⟩
  · exact congrArg (fun v => PerRun.get v r) ((restartBase_frame m).same .toBank (by decide))
  · exact congrArg (fun v => PerRun.get v r) ((restartBase_frame m).same .toEngine (by decide))

/-! ## The other blocks after a restart -/

theorem restart_runs_frame (m : State) : Frame [.live, .links, .calcs, .checkers, .toBank, .toEngine] (restartBase m)
    (restart m) :=
  runs_foldl_keeps (P := Frame _ (restartBase m)) (fun t r h => h.trans (restartPeriod_frame r t)) runs (.refl ..)

/-- The Prove Engine after a restart: a RUNNING prove is ABORTED. -/
theorem restart_prove (m : State) : (restart m).prove.config = m.prove.config ∧ (restart m).prove.engine = .idle
    ∧ (restart m).prove.passTimer = none ∧ (restart m).prove.timebase = 0
    ∧ (m.prove.result.state = .running → (restart m).prove.result = { m.prove.result with
        state := .aborted, reason := some .restart, endTime := some m.terminalTime })
    ∧ (m.prove.result.state ≠ .running → (restart m).prove.result = m.prove.result) := by
  have hprove : (restart m).prove = (restartBase m).prove := (restart_runs_frame m).same .prove (by decide)
  obtain ⟨b, hb⟩ := restartBlocks_eq m
  rw [hprove]
  obtain ⟨hrun, h⟩ | ⟨hidle, h⟩ := abortAtRestart_cases (restartBlocks m)
  · rw [restartBase, h, hb]
    rw [hb] at hrun
    exact ⟨rfl, rfl, rfl, rfl, fun _ => rfl, fun hne => absurd (of_decide_eq_true hrun) hne⟩
  · rw [restartBase, h, hb]
    rw [hb] at hidle
    exact ⟨rfl, rfl, rfl, rfl, fun hr => absurd hr (of_decide_eq_false hidle), fun _ => rfl⟩

theorem restart_claim (m : State) (u : UnitId) :
    (restart m).claim u = { holder := none, waiting := [], holdTime := (m.claim u).holdTime, timer := none } := by
  refine (claim_congr ((restart_runs_frame m).same .claims (by decide)) u).trans ?_
  exact (claim_congr ((abortAtRestart_frame _).same .claims (by decide)) u).trans (restartBlocks_claim m u)

theorem restartBase_link (m : State) (p : Port) : (restartBase m).link p = .started
    ((if m.proveRunning then NoticeSet.post { restarted := { pending := true } } .proveEnd 0 else { restarted := { pending := true } })) := by
  obtain ⟨b, hb⟩ := restartBlocks_eq m
  have hlink : (restartBlocks m).link p = .started { restarted := { pending := true } } := by
    rw [hb]
    exact PerPort.get_all ..
  have hrunning : (restartBlocks m).proveRunning = m.proveRunning := (restartBlocks_prove m).proveRunning
  obtain ⟨hrun, h⟩ | ⟨hidle, h⟩ := abortAtRestart_cases (restartBlocks m)
  · rw [restartBase, h, postAll_link, ← hrunning, hrun, if_pos rfl]
    show ({ (restartBlocks m).link p with notices := ((restartBlocks m).link p).notices.post .proveEnd 0 } : Link) = _
    rw [hlink]
    rfl
  · rw [restartBase, h, hlink, ← hrunning, hidle]
    rfl

/-- The link of a port after a restart: RESTARTED is posted, and PROVE_END where a prove was RUNNING. -/
theorem restart_link (m : State) (p : Port) : ((restart m).link p).response = none ∧ ((restart m).link p).width = .wide
    ∧ ((restart m).link p).mask = 0x3FF ∧ ((restart m).link p).notices.restarted.pending = true
    ∧ ((restart m).link p).notices.retentionLost.pending = false
    ∧ (((restart m).link p).notices.proveEnd.pending = true ↔ m.prove.result.state = .running) := by
  have hkept {P : State → Prop} (h : PostKept [.liveDisagree] P) (hb : P (restartBase m)) : P (restart m) :=
    runs_foldl_keeps (P := P) (fun t r ht => h.restartPeriod r t ht) runs hb
  have hnotice (k : NoticeKind) (hk : k ∉ [NoticeKind.liveDisagree]) :
      ((restart m).link p).notices.get k = ((restartBase m).link p).notices.get k := 
    hkept (P := fun t => (t.link p).notices.get k = ((restartBase m).link p).notices.get k) (notice_posted hk p _) rfl
  obtain ⟨hwidth, hmask, hresponse, -⟩ := hkept (mode_posted _ p ((restartBase m).link p)) ⟨rfl, rfl, rfl, rfl⟩
  have hrestarted := congrArg Notice.pending (hnotice .restarted (by decide))
  have hlost := congrArg Notice.pending (hnotice .retentionLost (by decide))
  have hend := congrArg Notice.pending (hnotice .proveEnd (by decide))
  rw [restartBase_link] at hwidth hmask hresponse hrestarted hlost hend
  refine ⟨hresponse, hwidth, hmask, hrestarted.trans ?_, hlost.trans ?_, ?_⟩
  · cases m.proveRunning <;> rfl
  · cases m.proveRunning <;> rfl
  · rw [show ((restart m).link p).notices.proveEnd.pending = _ from hend]
    cases hrun : m.proveRunning with
    | true => exact iff_of_true rfl (of_decide_eq_true hrun)
    | false => exact iff_of_false Bool.false_ne_true (of_decide_eq_false hrun)

theorem restart_ring_eq (m : State) : (restart m).ring = (restartBlocks m).ring := by
  have hring : (restart m).ring = (restartBase m).ring := (restart_runs_frame m).same .ring (by decide)
  rw [hring, restartBase_ring]

/-- Of the ring a restart sets the watch and resume pending. -/
theorem restart_ring (m : State) : (restart m).ring = { m.ring with watch := false, resumePending := (restart m).ring.resumePending }
    ∧ (m.ring.current ≠ .opened → m.ring.current ≠ .topped → (restart m).ring.resumePending = m.ring.resumePending)
    ∧ (∀ i f x, m.ring.current = .opened ∨ m.ring.current = .topped → m.currentSlot = some i → (m.slot i).form = some f →
        formResume f = some x → (restart m).ring.resumePending = decide (x = .manual)) := by
  rw [restart_ring_eq]
  have hopen : (restartedBlocks m).parcelOpen = m.parcelOpen := rfl
  have hslot : (restartedBlocks m).currentSlot.bind (fun i => ((restartedBlocks m).slot i).form)
      = m.currentSlot.bind (fun i => (m.slot i).form) := rfl
  refine ⟨?_, fun hopened htopped => ?_, fun i f x hstate hi hform hx => ?_⟩
  · obtain ⟨b, hb⟩ := restartBlocks_eq m
    rw [hb]
    rfl
  · have hclosed : m.parcelOpen = false := by simp [State.parcelOpen, hopened, htopped]
    rw [restartBlocks_resume, resumeAtRestart, hopen, hclosed]
    rfl
  · have hopened : m.parcelOpen = true := parcelOpen_iff.mpr hstate
    rw [restartBlocks_resume, resumeAtRestart, hopen, hopened, hslot, hi]
    simp only [Option.bind_some, hform, hx]
    cases x <;> rfl

/-! ## The start -/

theorem exec_partStart {cause : StartCause} (intact : Bool) (h : cause = .resetInput → s.retention.supplied = true) :
    exec (.partStart cause intact) s = .next (startPart intact s) := by
  show execPartStart cause intact s = _
  cases cause with
  | powerUp => rfl
  | resetInput => exact event_supplied (h rfl)

/-- The state in which a restart finds the part: the arrivals taken, the supply on. -/
def foundAtStart (s : State) : State :=
  { settleArrivals s with retention := { s.retention with supplied := true, lapse := false } }

theorem foundAtStart_frame (s : State) : Frame [.ring, .calcs, .links, .toEngine, .bank, .toBank, .retention] s (foundAtStart s) :=
  ((settleArrivals_frame s).mono (by decide)).trans ⟨fun x hx => by cases x <;> first | rfl | simp at hx⟩

theorem startPart_valid (hlapse : s.retention.lapse = false) (hmatch : s.retention.checkMatches = true) :
    startPart true s = restart (foundAtStart s) := by
  have hret : (settleArrivals s).retention = s.retention := (settleArrivals_frame s).same .retention (by decide)
  rw [startPart, if_pos (by simp [retainedValid, hlapse, hmatch])]
  dsimp only
  rw [hret]
  rfl

theorem foundAtStart_calcs (s : State) : EngineCalcs s (foundAtStart s) := (settleArrivals_calcs s).trans (.of_calcs rfl)

/-- With no arrival waiting at the engine, neither ring nor calculators are changed. -/
theorem settleArrivals_engine (h : ∀ r, s.toEngine.get r = none) :
    (settleArrivals s).ring = s.ring ∧ (settleArrivals s).calcs = s.calcs := by
  refine (runs_foldl_keeps (P := fun t => (∀ r, t.toEngine.get r = none) ∧ t.ring = s.ring ∧ t.calcs = s.calcs)
    (fun t q ⟨hwait, hring, hcalcs⟩ => ?_) runs ⟨h, rfl, rfl⟩).2
  rw [takeArrivals, takeAtEngine_of_none (hwait q)]
  exact ⟨hwait, hring, hcalcs⟩

/-- The start of the part with the arrivals taken first is the start of the part. -/
theorem startPart_settled (hlapse : s.retention.lapse = false) (hmatch : s.retention.checkMatches = true) :
    startPart true s = startPart true (settleArrivals (s.withRetention { s.retention with supplied := true })) := by
  rw [settleArrivals_ignores]
  have hsettled : settleArrivals ((settleArrivals s).withRetention { s.retention with supplied := true })
      = (settleArrivals s).withRetention { s.retention with supplied := true } := by
    obtain hwait := settleArrivals_waiting s
    exact settleArrivals_none (fun r => (hwait r).1) fun r => (hwait r).2
  rw [startPart_valid hlapse hmatch,
    startPart_valid (s := (settleArrivals s).withRetention { s.retention with supplied := true }) hlapse hmatch, foundAtStart,
    foundAtStart, hsettled]
  rfl

/-- The runs, with no arrival waiting at the engine. -/
theorem restart_runs_exact (hwait : ∀ r, s.toEngine.get r = none) :
    (∀ r, (s.calcOf r).runState = .offline →
        (restart (foundAtStart s)).calcOf r = { s.calcOf r with lastPeriod := none, quiet := 0 })
      ∧ (∀ r, (s.calcOf r).runState = .online → (restart (foundAtStart s)).calcOf r = { s.calcOf r with
          elapsed := 0, openLength := (s.calcOf r).periodLength, lastPeriod := ((restart (foundAtStart s)).calcOf r).lastPeriod
          rI := ((restart (foundAtStart s)).calcOf r).rI, rR := ((restart (foundAtStart s)).calcOf r).rR
          rG := ((restart (foundAtStart s)).calcOf r).rG, rN := ((restart (foundAtStart s)).calcOf r).rN
          quiet := if (s.checker r).accepted = 0 then 1 else 0 })
      ∧ (∀ r a, (s.calcOf r).runState = .online → 0 < (s.calcOf r).kmilli → (restart (foundAtStart s)).toEngine.get r = some a →
          a.destination = (s.calcOf r).target
            ∧ a.ivInc * (s.calcOf r).kmilli + ((restart (foundAtStart s)).calcOf r).rI
              = (s.checker r).accepted * 1000000 + (s.calcOf r).rI
            ∧ a.revInc * (s.calcOf r).kmilli + ((restart (foundAtStart s)).calcOf r).rR
              = (s.checker r).reverse * 1000000 + (s.calcOf r).rR) := by
  have hcalc (r : Run) : (foundAtStart s).calcOf r = s.calcOf r :=
    congrArg (fun c => PerRun.get c r) (settleArrivals_engine hwait).2
  have hchecker (r : Run) : (foundAtStart s).checker r = s.checker r :=
    checker_congr ((foundAtStart_frame s).same .checkers (by decide)) r
  refine ⟨fun r hoff => ?_, fun r hon => ?_, fun r a hon hk ha => ?_⟩
  · rw [(restart_offline (m := foundAtStart s) (by rw [hcalc, hoff])).1, hcalc]
    rfl
  · obtain ⟨i, hafter, -, -, -, hpulses, -⟩ := restart_online (m := foundAtStart s) (r := r) (by rw [hcalc, hon])
    rw [hcalc] at hafter
    rw [hchecker] at hpulses
    rw [hafter, ← hpulses]
    unfold PeriodInputs.calculatorAfter
    generalize i.newRI = a, i.newRR = b, i.newRG = c, i.newRN = d
    by_cases hzero : i.pulses = 0
    · rw [if_pos hzero, if_pos hzero, countUp_eq]
      rfl
    · rw [if_neg hzero, if_neg hzero]
      rfl
  · obtain ⟨i, hafter, -, -, hengine, hpulses, hreverse, -, -, hkmilli, hrI, hrR, htarget, -⟩ :=
      restart_online (m := foundAtStart s) (r := r) (by rw [hcalc, hon])
    rw [hcalc] at hafter hkmilli hrI hrR htarget
    rw [hchecker] at hpulses hreverse
    obtain rfl : i.arrival = a := Option.some.inj (hengine.symm.trans ha)
    obtain ⟨-, hiv⟩ := i.ivInc_exact (by rw [hkmilli]; exact hk)
    obtain ⟨-, hrev⟩ := i.revInc_exact (by rw [hkmilli]; exact hk)
    rw [hkmilli, hpulses, hrI] at hiv
    rw [hkmilli, hreverse, hrR] at hrev
    rw [hafter]
    exact ⟨htarget, hiv, hrev⟩

/-- The restart partial period of an ONLINE run, whatever arrival still waited. -/
theorem restart_run_online (hon : (s.calcOf r).runState = .online) :
    ((restart (foundAtStart s)).calcOf r).runState = .online ∧ ((restart (foundAtStart s)).calcOf r).elapsed = 0
      ∧ ((restart (foundAtStart s)).calcOf r).periodLength = (s.calcOf r).periodLength
      ∧ ((restart (foundAtStart s)).calcOf r).openLength = (s.calcOf r).periodLength
      ∧ ∃ x a, ((restart (foundAtStart s)).calcOf r).lastPeriod = some x ∧ x.flags.restartPeriod = true
        ∧ x.tMs = (s.calcOf r).elapsed ∧ x.pulses = (s.checker r).accepted ∧ (x.tempStatus = .held ∨ x.tempStatus = .dflt)
        ∧ (restart (foundAtStart s)).toEngine.get r = some a ∧ (restart (foundAtStart s)).toBank.get r = [a]
        ∧ a.ivInc = x.ivInc := by
  have hchange := (foundAtStart_calcs s).change r
  obtain ⟨-, helapsed, hlength, -⟩ := hchange.timer
  have hon' : ((foundAtStart s).calcOf r).runState = .online := hchange.runState.trans hon
  obtain ⟨i, hafter, -, hbank, hengine, hpulses, -, htMs, hflag, -, -, -, -, htemp⟩ := restart_online hon'
  obtain ⟨hstate, -⟩ := calculatorAfter_inService i (restartedCalc ((foundAtStart s).calcOf r))
  obtain ⟨hperiod, -⟩ := calculatorAfter_settings i (restartedCalc ((foundAtStart s).calcOf r))
  have hchecker : (foundAtStart s).checker r = s.checker r := checker_congr ((foundAtStart_frame s).same .checkers (by decide)) r
  have hempty : (foundAtStart s).toBank.get r = [] := (settleArrivals_waiting s r).1
  rw [hempty] at hbank
  refine ⟨?_, ?_, ?_, ?_, i.record, i.arrival, ?_, hflag, htMs.trans helapsed, ?_, htemp, hengine, hbank, rfl⟩
  · rw [hafter]
    exact hstate.trans hon'
  · rw [hafter]
  · rw [hafter]
    exact hperiod.trans hlength
  · rw [hafter]
    exact hlength
  · rw [hafter]
    rfl
  · rw [← hchecker]
    exact hpulses

theorem restart_checker (r : Run) : (restart (foundAtStart s)).checker r = if (s.calcOf r).runState = .online then { s.checker r with
      expectation := .either, accepted := 0, reverse := 0, missingA := 0, missingB := 0, failureMark := (s.checker r).failed }
    else { s.checker r with expectation := .either } := by
  have hstate := ((foundAtStart_calcs s).change r).runState
  have hchecker : (foundAtStart s).checker r = s.checker r := checker_congr ((foundAtStart_frame s).same .checkers (by decide)) r
  by_cases hon : (s.calcOf r).runState = .online
  · obtain ⟨i, -, h, -⟩ := restart_online (m := foundAtStart s) (r := r) (hstate.trans hon)
    rw [h, hchecker, if_pos hon]
    rfl
  · rw [(restart_offline (m := foundAtStart s) (hstate.trans (not_online_iff.mp hon))).2.1, hchecker, if_neg hon]

/-- The blocks of a restart that do not depend on the arrivals taken first. -/
theorem restart_retains (s : State) : (restart (foundAtStart s)).retention.supplied = true
    ∧ (restart (foundAtStart s)).retention.lapse = false ∧ (restart (foundAtStart s)).retention.battery = s.retention.battery
    ∧ (restart (foundAtStart s)).curves = s.curves ∧ (restart (foundAtStart s)).grades = s.grades
    ∧ (restart (foundAtStart s)).terminalTime = s.terminalTime ∧ (restart (foundAtStart s)).clockWait = none := by
  have hret : (restart (foundAtStart s)).retention = (foundAtStart s).retention := (restart_frame _).same .retention (by decide)
  have hcurves : (restart (foundAtStart s)).curves = (foundAtStart s).curves := (restart_frame _).same .curves (by decide)
  have hgrades : (restart (foundAtStart s)).grades = (foundAtStart s).grades := (restart_frame _).same .grades (by decide)
  have htime : (restart (foundAtStart s)).terminalTime = (foundAtStart s).terminalTime :=
    (restart_frame _).same .terminalTime (by decide)
  have hwait : (restart (foundAtStart s)).clockWait = (restartBase (foundAtStart s)).clockWait :=
    (restart_runs_frame _).same .clockWait (by decide)
  have hwait' : (restartBase (foundAtStart s)).clockWait = (restartBlocks (foundAtStart s)).clockWait :=
    (abortAtRestart_frame _).same .clockWait (by decide)
  have hframe := foundAtStart_frame s
  obtain ⟨b, hb⟩ := restartBlocks_eq (foundAtStart s)
  rw [hret, hcurves, hgrades, htime, hwait, hwait', hb]
  exact ⟨rfl, rfl, rfl, hframe.same .curves (by decide), hframe.same .grades (by decide), hframe.same .terminalTime (by decide), rfl⟩

theorem restart_proves (s : State) : (restart (foundAtStart s)).prove.config = s.prove.config
    ∧ (restart (foundAtStart s)).prove.engine = .idle ∧ (restart (foundAtStart s)).prove.passTimer = none
    ∧ (restart (foundAtStart s)).prove.timebase = 0
    ∧ (s.prove.result.state = .running → (restart (foundAtStart s)).prove.result.state = .aborted
        ∧ (restart (foundAtStart s)).prove.result.reason = some .restart
        ∧ (restart (foundAtStart s)).prove.result.endTime = some s.terminalTime
        ∧ (restart (foundAtStart s)).prove.result.passes = s.prove.result.passes)
    ∧ (s.prove.result.state ≠ .running → (restart (foundAtStart s)).prove.result = s.prove.result) := by
  have hprove : (foundAtStart s).prove = s.prove := (foundAtStart_frame s).same .prove (by decide)
  have htime : (foundAtStart s).terminalTime = s.terminalTime := (foundAtStart_frame s).same .terminalTime (by decide)
  obtain ⟨hconfig, hengine, htimer, hbase, hrun, hidle⟩ := restart_prove (foundAtStart s)
  rw [hprove] at hconfig hrun hidle
  rw [htime] at hrun
  refine ⟨hconfig, hengine, htimer, hbase, fun h => ?_, hidle⟩
  rw [hrun h]
  exact ⟨rfl, rfl, rfl, rfl⟩

theorem restart_bank (s : State) : (restart (foundAtStart s)).bank = (runs.flatMap s.toBank.get).foldl Bank.add s.bank := by
  have hbank : (restart (foundAtStart s)).bank = (foundAtStart s).bank := (restart_frame _).same .bank (by decide)
  exact hbank.trans (settleArrivals_bank s)

/-- The Live Value Table after a restart, place by place. -/
theorem restart_places (s : State) : (∀ u, (restart (foundAtStart s)).limits u = s.limits u)
    ∧ (∀ r, ((restart (foundAtStart s)).live.runs.get r).tolBsw = (s.live.runs.get r).tolBsw)
    ∧ ∀ l, LiveItem.Restarted (s.limits (liveUnit l)).hold (s.liveItem l) ((restart (foundAtStart s)).liveItem l) := by
  have hlive : (foundAtStart s).live = s.live := (foundAtStart_frame s).same .live (by decide)
  obtain ⟨hlimits, htol, hitems⟩ := restart_live (foundAtStart s)
  refine ⟨fun u => ?_, fun r => ?_, fun l => ?_⟩
  · rw [hlimits, limits_congr u hlive]
  · rw [htol, hlive]
  · rw [← limits_congr (liveUnit l) hlive, ← liveItem_congr l hlive]
    exact hitems l

/-- The ring after a restart that finds no arrival at the engine. -/
theorem restart_ring_exact (hwait : ∀ r, s.toEngine.get r = none) : (restart (foundAtStart s)).ring
      = { s.ring with watch := false, resumePending := (restart (foundAtStart s)).ring.resumePending }
    ∧ (s.ring.current ≠ .opened → s.ring.current ≠ .topped →
        (restart (foundAtStart s)).ring.resumePending = s.ring.resumePending)
    ∧ ∀ i f x, s.ring.current = .opened ∨ s.ring.current = .topped → s.currentSlot = some i → (s.slot i).form = some f →
        formResume f = some x → (restart (foundAtStart s)).ring.resumePending = decide (x = .manual) := by
  have hring : (foundAtStart s).ring = s.ring := (settleArrivals_engine hwait).1
  have hslot (i : SlotId) : (foundAtStart s).slot i = s.slot i := congrArg (fun g : Ring => g.slots.get i) hring
  have hcurrent : (foundAtStart s).currentSlot = s.currentSlot := currentSlot_congr fun i => by rw [hslot]
  obtain ⟨heq, hclosed, hopen⟩ := restart_ring (foundAtStart s)
  rw [hring] at heq hclosed hopen
  rw [hcurrent] at hopen
  exact ⟨heq, hclosed, fun i f x hstate hi hform => hopen i f x hstate hi (by rw [hslot]; exact hform)⟩

theorem restart_watch (m : State) : (restart m).ring.watch = false := by
  rw [(restart_ring m).1]

/-- Settles O51: a cold initialization, or the blocks with their restart values and the ONLINE runs with a period closed. -/
theorem startOfThePart : Obligations.StartOfThePart := by
  refine ⟨fun cause intact s hstart hinvalid => ?_, fun cause s hstart hlapse hmatch => ?_, fun cause s hstart hlapse hmatch => ?_⟩
  · rw [exec_partStart intact hstart, startPart, if_neg]
    · rfl
    · rcases hinvalid with h | h | h <;> simp [retainedValid, h]
  · have hexec := exec_partStart true hstart
    rw [startPart_valid hlapse hmatch] at hexec
    obtain ⟨hsup, hlapse', hbattery, hcurves, hgrades, htime, hclock⟩ := restart_retains s
    obtain ⟨hconfig, hengine, htimer, hbase, hrun, hidle⟩ := restart_proves s
    obtain ⟨hlimits, htol, hitems⟩ := restart_places s
    have hclaims : (foundAtStart s).claims = s.claims := (foundAtStart_frame s).same .claims (by decide)
    have hprove : (foundAtStart s).prove = s.prove := (foundAtStart_frame s).same .prove (by decide)
    refine ⟨_, hexec, hsup, hlapse', hbattery, hcurves, hgrades, htime, hclock, hconfig, hengine, htimer, hbase, hrun, hidle,
      fun u => ?_, fun p => ?_, restart_watch _, restart_checker, hlimits, htol, hitems, fun r hon => restart_run_online hon,
      fun r hoff => ?_, restart_bank s, fun hwait => ?_⟩
    · rw [restart_claim, claim_congr hclaims]
    · have hlink := restart_link (foundAtStart s) p
      rwa [hprove] at hlink
    · have hstate := ((foundAtStart_calcs s).change r).runState
      obtain ⟨hcalc, -, hbank, hqueue⟩ := restart_offline (m := foundAtStart s) (hstate.trans hoff)
      obtain ⟨hempty, hnone⟩ := settleArrivals_waiting s r
      exact ⟨by rw [hcalc]; rfl, hqueue.trans hnone, hbank.trans hempty⟩
    · obtain ⟨heq, hclosed, hopen⟩ := restart_ring_exact hwait
      obtain ⟨hoff, hon, hexact⟩ := restart_runs_exact hwait
      exact ⟨heq, hclosed, hopen, hoff, hon, hexact⟩
  · have hframe := settleArrivals_frame (s.withRetention { s.retention with supplied := true })
    have hret : (settleArrivals (s.withRetention { s.retention with supplied := true })).retention
        = { s.retention with supplied := true } := hframe.same .retention (by decide)
    refine ⟨_, afterCommands_arrivalsOf (s := s.withRetention { s.retention with supplied := true }) rfl, settleArrivals_waiting _, ?_⟩
    rw [exec_partStart true hstart, exec_partStart true fun _ => by rw [hret], startPart_settled hlapse hmatch]

end Start

end Sys2Proof.Machine

/-! ## The request frame (10.1, 10.2): what is read back from the bytes that were written (O4)

A field is read back because big-endian bytes spell their number and because reading at an offset skips the fields before it; a
frame is read back because the header fields and the CRC are such fields too. -/

namespace Sys2Proof.Machine

section

/-! ### Numbers and fields -/

/-- Each further byte shifts the number read so far by one byte. -/
theorem foldl_beBytes (k n acc : Nat) :
    (beBytes k n).foldl (fun a b => a * 256 + b.toNat) acc = acc * 256 ^ k + n % 256 ^ k := by
  induction k generalizing acc with
  | zero => simp [beBytes, Nat.mod_one]
  | succ k ih =>
    have hsplit : n % 256 ^ (k + 1) = n % 256 ^ k + 256 ^ k * (n / 256 ^ k % 256) := by rw [pow_succ, Nat.mod_mul]
    rw [beBytes, List.foldl_cons, ih, BitVec.toNat_ofNat, hsplit]
    norm_num
    ring

theorem beNat_beBytes {k n : Nat} (h : n < 256 ^ k) : beNat (beBytes k n) = n := by
  rw [beNat, foldl_beBytes, Nat.mod_eq_of_lt h]
  omega

theorem fieldAt_head {k n : Nat} {rest : List Byte} (h : n < 256 ^ k) : fieldAt (beBytes k n ++ rest) 0 k = n := by
  rw [fieldAt, List.drop_zero, List.take_left' (beBytes_length k n), beNat_beBytes h]

theorem fieldAt_whole {k n : Nat} (h : n < 256 ^ k) : fieldAt (beBytes k n) 0 k = n := by
  simpa using fieldAt_head (rest := []) h

theorem drop_skip {front rest : List Byte} {offset : Nat} (h : front.length ≤ offset) :
    (front ++ rest).drop offset = rest.drop (offset - front.length) := by
  rw [List.drop_append, List.drop_of_length_le h, List.nil_append]

/-- A field behind others is read from what follows them. -/
theorem fieldAt_skip {front rest : List Byte} {offset size : Nat} (h : front.length ≤ offset) :
    fieldAt (front ++ rest) offset size = fieldAt rest (offset - front.length) size := by
  rw [fieldAt, drop_skip h, fieldAt]

theorem intAt_skip {front rest : List Byte} {offset : Nat} (h : front.length ≤ offset) :
    intAt (front ++ rest) offset = intAt rest (offset - front.length) := by
  rw [intAt, fieldAt_skip h, intAt]

theorem intOf4_toNat {v : Int} (h : fitsInt4 v = true) : intOf4 (v % 4294967296).toNat = v := by
  simp only [fitsInt4, Bool.and_eq_true, decide_eq_true_eq] at h
  unfold intOf4
  split <;> omega

theorem intAt_head {v : Int} {rest : List Byte} (h : fitsInt4 v = true) : intAt (beInt4 v ++ rest) 0 = v := by
  rw [intAt, beInt4, fieldAt_head (by norm_num; omega), intOf4_toNat h]

theorem crc_lt (l : List Byte) : crc l < 65536 := BitVec.isLt _

/-! ### The CTL points of a grade -/

theorem pointBytes_length (points : List RawPoint) : (pointBytes points).length = 8 * points.length := by
  induction points with
  | nil => rfl
  | cons x points ih =>
    simp only [pointBytes, List.flatMap_cons] at ih ⊢
    simp [ih]
    omega

/-- Points behind other fields are read from what follows them. -/
theorem pointsAt_skip {front rest : List Byte} {offset : Nat} (h : front.length ≤ offset) (count : Nat) :
    pointsAt (front ++ rest) offset count = pointsAt rest (offset - front.length) count := by
  induction count generalizing offset with
  | zero => rfl
  | succ count ih =>
    have h4 : front.length ≤ offset + 4 := by omega
    have h8 : front.length ≤ offset + 8 := by omega
    simp only [pointsAt, intAt_skip h, fieldAt_skip h4, ih h8, Nat.sub_add_comm h]

theorem pointsAt_pointBytes {points : List RawPoint} (h : points.all RawPoint.wf = true) :
    pointsAt (pointBytes points) 0 points.length = points := by
  induction points with
  | nil => rfl
  | cons x points ih =>
    simp only [List.all_cons, Bool.and_eq_true, RawPoint.wf, fits4, decide_eq_true_eq] at h
    obtain ⟨⟨htemp, hctl⟩, hrest⟩ := h
    have hbytes : pointBytes (x :: points) = beInt4 x.temp ++ (beBytes 4 x.ctl ++ pointBytes points) := by
      simp [pointBytes]
    simp [pointsAt, hbytes, fieldAt_head, fieldAt_skip, pointsAt_skip, intAt_head htemp, hctl, ih hrest]

/-! ### The frame -/

/-- A frame whose header fields fit, whose body is one of its kind and whose body spells a request passes every check of R164. -/
theorem decodeFrame_frameOf {p : Port} {kind unit flags : Nat} {body : List Byte} {i : Instr}
    (hkind : kind < 256) (hunit : unit < 256) (hflags : flags < 4) (hbody : body.length ≤ 512)
    (hlength : bodyLength kind unit body = some body.length)
    (hspells : decodeBody p kind unit flags body = some i) :
    decodeFrame p (frameOf kind unit flags body) = .request i := by
  have hbytes : frameOf kind unit flags body
      = (beBytes 1 kind ++ (beBytes 1 unit ++ (beBytes 1 flags ++ (beBytes 2 body.length ++ body))))
        ++ beBytes 2 (crc (beBytes 1 kind ++ (beBytes 1 unit ++ (beBytes 1 flags ++ (beBytes 2 body.length ++ body))))) := by
    simp [frameOf, withCrc]
  rw [hbytes]
  generalize hhead : beBytes 1 kind ++ (beBytes 1 unit ++ (beBytes 1 flags ++ (beBytes 2 body.length ++ body))) = head
  have hheadLength : head.length = 5 + body.length := by
    simp [← hhead]
    omega
  have hcrc : fieldAt (head ++ beBytes 2 (crc head)) (5 + body.length) 2 = crc head := by
    rw [fieldAt, List.drop_left' hheadLength, List.take_of_length_le (by simp), beNat_beBytes (crc_lt head)]
  have htaken : (head ++ beBytes 2 (crc head)).take (5 + body.length) = head := List.take_left' hheadLength
  have hflags' : flags < 256 := by omega
  have hlen : body.length < 65536 := by omega
  have hfields : fieldAt (head ++ beBytes 2 (crc head)) 0 1 = kind ∧ fieldAt (head ++ beBytes 2 (crc head)) 1 1 = unit
      ∧ fieldAt (head ++ beBytes 2 (crc head)) 2 1 = flags
      ∧ fieldAt (head ++ beBytes 2 (crc head)) 3 2 = body.length := by
    generalize crc head = check
    subst hhead
    simp [fieldAt_head, fieldAt_skip, hkind, hunit, hflags', hlen]
  have hbodyBytes : ((head ++ beBytes 2 (crc head)).drop 5).take body.length = body := by
    generalize crc head = check
    subst hhead
    simp [drop_skip]
  obtain ⟨hkindAt, hunitAt, hflagsAt, hlenAt⟩ := hfields
  have htotal : (head ++ beBytes 2 (crc head)).length = 5 + body.length + 2 := by simp [hheadLength]
  unfold decodeFrame
  simp only [hlenAt, hcrc, htaken, hkindAt, hunitAt, hflagsAt, hbodyBytes, hlength, hspells, htotal]
  rw [if_neg (by omega), if_neg (by simp only [Config.maxBody]; omega), if_neg (by omega), if_neg (by simp),
    if_neg (by omega), if_neg (by simp)]

/-! ### The requests -/

/-- A SET LIVE LIMITS carries a BSW tolerance only for a run (R61). -/
theorem setLiveLimits_readBack {p : Port} {unit stale hold temp pres bsw policy : Nat} {frame : List Byte}
    (hwf : (Instr.setLiveLimits p unit stale hold temp pres bsw policy).wf = true)
    (hframe : encodeRequest (.setLiveLimits p unit stale hold temp pres bsw policy) = some frame) :
    decodeFrame p frame = .request (.setLiveLimits p unit stale hold temp pres bsw policy) := by
  simp only [Instr.wf, fits1, fits4, Bool.and_eq_true, Bool.or_eq_true, decide_eq_true_eq] at hwf
  obtain ⟨⟨⟨⟨⟨⟨⟨hunit, hstale⟩, hhold⟩, htemp⟩, hpres⟩, hbsw⟩, hpolicy⟩, hprover⟩ := hwf
  obtain rfl := Option.some.inj hframe
  by_cases h5 : unit = 5
  · obtain rfl : bsw = 0 := hprover.resolve_left (not_not_intro h5)
    subst h5
    apply decodeFrame_frameOf
    all_goals simp [bodyLength, decodeBody, fieldAt_head, fieldAt_whole, fieldAt_skip, *]
  · apply decodeFrame_frameOf
    all_goals simp [bodyLength, decodeBody, fieldAt_head, fieldAt_whole, fieldAt_skip, *]

/-- A LOAD GRADE's body is as long as its number of points says. -/
theorem loadGrade_readBack {p : Port} {unit grade compress base : Nat} {points : List RawPoint} {frame : List Byte}
    (hwf : (Instr.loadGrade p unit grade compress base points).wf = true)
    (hframe : encodeRequest (.loadGrade p unit grade compress base points) = some frame) :
    decodeFrame p frame = .request (.loadGrade p unit grade compress base points) := by
  simp only [Instr.wf, fits1, fits4, pointsFit, Bool.and_eq_true, decide_eq_true_eq] at hwf
  obtain ⟨⟨⟨⟨⟨hunit, hgrade⟩, hcompress⟩, hbase⟩, hfit⟩, hpoints⟩ := hwf
  have hcount : points.length < 256 := by omega
  obtain rfl := Option.some.inj hframe
  apply decodeFrame_frameOf
  case hbody => simp [pointBytes_length]; omega
  case hlength =>
    simp [bodyLength, fieldAt_head, fieldAt_skip, pointBytes_length, hcount]
    omega
  case hspells => simp [decodeBody, fieldAt_head, fieldAt_skip, pointsAt_skip, pointsAt_pointBytes hpoints, *]
  all_goals simp [hunit]

/-- The fields of a control form are read back from where formAt looks for them. -/
theorem formAt_formBytes {index : Nat} {f : RawForm} (h : f.wf = true) :
    formAt (beBytes 1 index ++ formBytes f) = f := by
  simp only [RawForm.wf, fits1, fits4, fits8, Bool.and_eq_true, decide_eq_true_eq] at h
  simp [formAt, formBytes, fieldAt_head, fieldAt_whole, fieldAt_skip, h]

theorem writeSlot_readBack {p : Port} {unit index : Nat} {form : RawForm} {frame : List Byte}
    (hwf : (Instr.writeSlot p unit index form).wf = true)
    (hframe : encodeRequest (.writeSlot p unit index form) = some frame) :
    decodeFrame p frame = .request (.writeSlot p unit index form) := by
  simp only [Instr.wf, fits1, Bool.and_eq_true, decide_eq_true_eq] at hwf
  obtain ⟨⟨hunit, hindex⟩, hform⟩ := hwf
  obtain rfl := Option.some.inj hframe
  apply decodeFrame_frameOf
  case hspells => simp [decodeBody, fieldAt_head, formAt_formBytes hform, hindex]
  all_goals simp [bodyLength, formBytes, hunit]

/-- Settles O4: the three requests whose bodies vary or nest have lemmas of their own; the body of every other request is a row of
fields of fixed size, each read back at its offset. -/
theorem requestFramesRoundTrip : Obligations.RequestFramesRoundTrip := by
  intro i p frame hwf hport hframe
  cases i with
  | setLiveLimits =>
    obtain rfl := Option.some.inj hport
    exact setLiveLimits_readBack hwf hframe
  | loadGrade =>
    obtain rfl := Option.some.inj hport
    exact loadGrade_readBack hwf hframe
  | writeSlot =>
    obtain rfl := Option.some.inj hport
    exact writeSlot_readBack hwf hframe
  | readTotals _ _ wide _ =>
    obtain rfl := Option.some.inj hport
    obtain rfl := Option.some.inj hframe
    simp only [Instr.wf, fits1, Bool.and_eq_true, decide_eq_true_eq] at hwf
    cases wide <;> apply decodeFrame_frameOf <;> simp [bodyLength, decodeBody, fieldAt_whole, hwf]
  | acceptProve _ _ force =>
    obtain rfl := Option.some.inj hport
    obtain rfl := Option.some.inj hframe
    simp only [Instr.wf, fits1, decide_eq_true_eq] at hwf
    cases force <;> apply decodeFrame_frameOf <;> simp [bodyLength, decodeBody, hwf]
  | responseReadout | risingEdge | detectorActuation | passTimerExpiry | periodExpiry | incrementArrivalAtBank
  | incrementArrivalAtEngine | freshnessTimerExpiry | liveHoldTimerExpiry | holdTimerExpiry | terminalTimeAdvance
  | partStart | lossOfSupply | retentionSupplyChange | periodTimerAdvance | refusedRequestFrame =>
    nomatch hframe
  | _ =>
    obtain rfl := Option.some.inj hport
    obtain rfl := Option.some.inj hframe
    simp only [Instr.wf, fits1, fits2, fits4, fits8, Bool.and_eq_true, decide_eq_true_eq] at hwf
    apply decodeFrame_frameOf
    all_goals simp [bodyLength, decodeBody, fieldAt_head, fieldAt_whole, fieldAt_skip, intAt_skip, intAt_head, hwf]

end

end Sys2Proof.Machine
